-- ==== Sys2Proof/Word.lean ====
section
/-!
DEFINITION. Word.lean: the word types of the KZ3A and their plainest arithmetic.
-/
namespace Sys2Proof

/-- A 32-bit register word (R39, R41). -/
abbrev Word := BitVec 32

/-- The smallest addressable unit (R9). -/
abbrev Byte := BitVec 8

/-- A binary32 value as its bit pattern (R3, R204). -/
abbrev F32 := BitVec 32

/-- The keyed-sequence constant of R64, without the page type. -/
def keyBase : Word := 0xC0A50000#32

end Sys2Proof
end

