-- ==== Sys2Proof/Machine/PageTypes.lean ====
section
/-!
DEFINITION. Machine/PageTypes.lean: what a register page is made of (R38-R66): the kinds of page, access codes, legal sets,
register descriptions and the state every page keeps.
-/
namespace Sys2Proof.Machine

/-- The kinds of register page (R28, R43). PLA stands for both PLL pages and MA for both Maulo channel pages. -/
inductive PKind
  | sys | pll | aon | sup | cs | cst | hl | hc | sc | sx | ce | sw | ij | cp | gl | gb | is | cv | ac | qg
  | seawall | hm | ma | port | ms | bth | mp | bol | wg | dr | byt | byv | byp | ga | can | spi | sent
  | mrm | srm | sec | dbg
  deriving DecidableEq, Repr

/-- Access codes of register fields (R12). -/
inductive Acc
  | rw | ro | w1c | w1s | wo | rc | rwd
  deriving DecidableEq, Repr

/-- The legal set of a field (R58): any code, a numeric range, a signed range, a fixed clamp target for codes above a
limit, or a binary32 range with the value a NaN clamps to. -/
inductive Legal
  | any
  | range (lo hi : Nat)
  | srange (lo hi : Int)
  | above (hi target : Nat)
  | f32 (lo hi nan : Word)
  deriving DecidableEq, Repr

/-- A bit field of a register: byte offset, lowest bit, width. -/
structure Field where
  off : Nat
  lo : Nat
  width : Nat
  deriving DecidableEq, Repr

/-- One field of a register description, with its own marks where only the field is marked (R60). -/
structure FieldDesc where
  lo : Nat
  width : Nat
  acc : Acc
  legal : Legal := .any
  lock : Bool := false
  idle : Bool := false
  keyed : Bool := false
  deriving DecidableEq, Repr

/-- One register, or `n` registers `stride` bytes apart, of a page kind. -/
structure RegDesc where
  off : Nat
  n : Nat := 1
  stride : Nat := 4
  reset : Word := 0#32
  lock : Bool := false
  idle : Bool := false
  keyed : Bool := false
  banked : Bool := false
  fields : List FieldDesc
  deriving DecidableEq, Repr

/-- The page states of R47 and R51. -/
inductive PageSt
  | off | idle | run | drain | fault | test
  deriving DecidableEq, Repr

/-- Who issues a KCB access (R30). -/
inductive Initiator
  | ac (k : Nat)
  | cv (k : Nat)
  | dredge
  | host
  | jtag
  deriving DecidableEq, Repr

/-- The key sequence of R64: idle, first word taken, open for one write; with the initiator that runs it. -/
inductive KeySeq
  | idle
  | first (who : Initiator)
  | opened (who : Initiator)
  deriving DecidableEq, Repr

/-- The state every page keeps (R41-R66). Registers stand as (offset, word) pairs over the reset values of the page's
register table; `pend` marks that EN was written 1 during DRAIN (R52), `toOff` is unused outside OFF/IDLE exits. -/
structure Page where
  en : Bool := false
  drainMode : BitVec 2 := 0#2
  shadowSel : Bool := false
  lock : Bool := false
  st : PageSt := .off
  /-- EN was written 1 and the block is being initialised (R51, first row). -/
  initPending : Bool := false
  clamped : Bool := false
  sat : Bool := false
  irqFlags : Word := 0#32
  irqEn : Word := 0#32
  route : Word := 0#32
  clampCause : BitVec 4 := 0#4
  clampCount : BitVec 8 := 0#8
  clampOff : BitVec 12 := 0#12
  keyFail : BitVec 8 := 0#8
  key : KeySeq := .idle
  swapCount : BitVec 16 := 0#16
  /-- PAGE_SHADOW_CTRL.ACTIVE: bank B is active. -/
  activeB : Bool := false
  copyBusy : Bool := false
  swapIgnored : Bool := false
  swapPending : Bool := false
  /-- The page's domain is powered (R89). -/
  powered : Bool := true
  regs : List (Nat × Word) := []
  bankA : List (Nat × Word) := []
  bankB : List (Nat × Word) := []
  /-- The configuration shadow (R57) where it differs from `regs`: writes taken in TEST (R53). -/
  shadow : List (Nat × Word) := []
  /-- Writes to the inactive bank held until a COPY ends (R66), oldest first. -/
  held : List (Nat × Word) := []
  deriving DecidableEq, Repr

/-- A fault report (R426): source, kind, proposed level, the source's sequence number, detail and address. -/
structure Pennant where
  source : Nat
  kind : BitVec 6
  level : Nat
  seq : BitVec 6
  detail : BitVec 8
  addr : Word
  deriving DecidableEq, Repr

/-- The answer of the KCB to the last access: a word, or an error status (R35, R39). -/
inductive BusReply
  | none
  | data (who : Initiator) (w : Word)
  | done (who : Initiator)
  | error (who : Initiator)
  | abandoned
  deriving DecidableEq, Repr

end Sys2Proof.Machine
end

