-- ==== Sys2Proof/Operand.lean ====
section
/-!
DEFINITION. Operand.lean: the types of the commands' operands: what comes from outside the block with a command (log entry 2).
-/
namespace Sys2Proof

/-- What a SECDED check of a word finds (R20, R34, R427). -/
inductive SecErr
  | none | single | double
  deriving DecidableEq, Repr

/-- The traffic classes of the inner quay (R19, R20). Source IDs follow R20. -/
inductive QuayClass
  | modulator | seawall | sar | kcbKd | gate | kcbKp
  deriving DecidableEq, Repr

/-- The rails of R98 and R107, in their start order. -/
inductive Rail
  | vaon | vsw | vpre | vio33 | vio18 | vcore | vgd
  deriving DecidableEq, Repr

/-- The causes of a unit recovery (R109). -/
inductive UrCause
  | brownOut | external | harbourmaster | debug | commissioning | ebbWake | seawallEdge | floodRestart
  deriving DecidableEq, Repr

/-- The causes of a power-on reset (R109). -/
inductive PorCause
  | vsup
  | rail (source : Nat)
  deriving DecidableEq, Repr

/-- What one gate's leakage test finds (R306): the charge time in 0.1 µs units, the droop in mV, and whether 1.0 V was not
reached in 50 µs. -/
structure GateTest where
  tchg : Nat
  droop : Nat
  timeout : Bool
  deriving DecidableEq, Repr

/-- The AMO operations of RV32A (R3, R368). -/
inductive AmoOp
  | swap | add | xor | and | or | min | max | minu | maxu
  deriving DecidableEq, Repr

/-- What a retired instruction of an application core does, as the RISC-V specifications named in R3 define it from the core's
registers: the register written (1-31 xn, 32-63 fn, 64 fcsr, 0 none) and the flags that accrue in fcsr, the access made, the
CSR used or the trap taken. -/
inductive AppAct
  | plain (dst : Nat) (v : Word) (fflags : BitVec 5)
  | load (addr : Word) (size : Nat) (sext : Bool) (dst : Nat)
  | store (addr : Word) (size : Nat) (data : Word)
  | lr (addr : Word) (dst : Nat)
  | sc (addr data : Word) (dst : Nat)
  | amo (op : AmoOp) (addr data : Word) (dst : Nat)
  | csr (num dst : Nat) (w : Option Word)
  | trap (cause tval : Word)
  | mret
  deriving DecidableEq, Repr

/-- The balls of the boundary-scan chain as R598 names them; `other` for those EXTEST may drive. -/
inductive Ball
  | gh (k : Nat) | gl (k : Nat) | isg (k : Nat) | bolOut | safeEn | safeHcut | exc (n : Nat) | ss (n : Nat) | other (n : Nat)
  deriving DecidableEq, Repr

/-- What befalls the comparison path of an application pair at one retirement (R385, R388, R390): a FIFO, buffer or log entry
with a single- or double-bit error, an entry lost or out of order, the two comparators of the point disagreeing. -/
inductive PathFault
  | none | single | double | lost | disagree
  deriving DecidableEq, Repr

/-- An ordered-set or frame's CRC as the receiver finds it. -/
inductive FrameCheck
  | good | bad
  deriving DecidableEq, Repr

end Sys2Proof
end

