-- ==== Sys2Proof/Syntax.lean ====
section
/-!
DEFINITION. Syntax.lean: the commands of the KZ3A, one constructor per row of the opcode table (R<n> names each row's rule).
What comes from outside with a command (who issues it, the unit it concerns, a value, a sample, a pin level, the fields of a
received frame) are its operands (log entry 2).
-/

namespace Sys2Proof
open Sys2Proof.Machine

/-- The commands. -/
inductive Instr where
  /-- R60. A write to a register page offset that has no row of its own is accepted, clamped or refused whole, and clamps and refusals are logged in PAGE_CLAMP_LOG. -/
  | registerWrite (who : Initiator) (addr bytes : Nat) (v : Word)
  /-- R68. A read of an RC counter returns its value and clears it; an event in the same bus cycle is counted after the clear. -/
  | rcRead (who : Initiator) (addr bytes : Nat)
  /-- R69. A read of the low word of a counter wider than 32 bits latches the high word for that initiator. -/
  | lowWordRead (who : Initiator) (addr bytes : Nat)
  /-- R51. Writing PAGE_CTRL.EN from 0 to 1 takes an OFF page towards IDLE; on GL, GB and IS pages the write is keyed. -/
  | enableWrite (who : Initiator) (page : Nat) (mode : BitVec 2) (sel : Bool)
  /-- R51. Within 2 us of the enable the block is initialised to its BR state and the page enters IDLE. -/
  | blockInitialised (page : Nat)
  /-- R54. Writing PAGE_CTRL.EN to 0 starts a drain from RUN, or takes an IDLE page directly to OFF. -/
  | disableWrite (who : Initiator) (page : Nat) (mode : BitVec 2) (sel : Bool)
  /-- R54. The block's atomic unit ends; outputs go to the drain idle, DRAIN_MODE is applied and the page enters OFF. -/
  | drainEnd (page : Nat)
  /-- R62. Setting PAGE_CTRL.LOCK makes the page's lockable registers read-only until POR. -/
  | lockWrite (who : Initiator) (page : Nat)
  /-- R51. A block's start condition is met and its page moves from IDLE to RUN. -/
  | blockStart (page : Nat)
  /-- R51. A block's stop condition is met and its page moves from RUN to IDLE. -/
  | blockStop (page : Nat)
  /-- R64. A word written to PAGE_KEY advances, opens or fails the key sequence. -/
  | keyWord (who : Initiator) (page : Nat) (w : Word)
  /-- R64. The 10 us window of an open key sequence expires; the sequence fails and KEY_FAIL counts one. -/
  | keyTimeout (page : Nat)
  /-- R66. A swap request on PAGE_SHADOW_CTRL is held pending, ignored, refused, or taken at once on an idle page. -/
  | swapReq (who : Initiator) (page : Nat)
  /-- R66. At the page's swap point a pending swap changes ACTIVE, counts one and sets SWAP_DONE. -/
  | swapPoint (page : Nat)
  /-- R66. A COPY request starts copying the active bank into the inactive bank, one bus cycle per word. -/
  | copy (who : Initiator) (page : Nat)
  /-- R66. A bank copy ends, COPY_BUSY clears and held writes to the inactive bank are applied. -/
  | copyDone (page : Nat)
  /-- R88. A KCB access to a clock-gated page wakes the page domain and completes once the clock has returned. -/
  | pageWake (who : Initiator) (addr : Nat) (write : Option Word)
  /-- R88. A page clock not returned within 10 us ends the access in an error and raises kind 0x0E. -/
  | wakeTimeout (who : Initiator) (page : Nat)
  /-- R110. A unit recovery cuts the bridges if authority is held, then resets the items of the UR scope. -/
  | ur (cause : UrCause)
  /-- R109. A power-on reset resets everything of the POR scope, the AON domain included where its supply was lost. -/
  | por (cause : PorCause)
  /-- R20. A SECDED-protected word received across the inner quay is corrected, or discarded with the last good value held. -/
  | quayWord (cls : QuayClass) (unit : Nat) (w : BitVec 64) (err : SecErr)
  /-- R21. No valid command word for a leg in 5 decision times makes the Seawall soft-cut that bridge. -/
  | gateCommandSilence (leg : Nat)
  /-- R34. A read of SRAM or MRAM corrects a single-bit error with write-back or ends in an error on an uncorrectable word. -/
  | memoryRead (who : Option Initiator) (addr bytes : Nat) (err : SecErr)
  /-- R24. A write into an engine's input registers is staged and taken by each group only at its next start. -/
  | engineInputWrite (who : Initiator) (engine slot : Nat) (v : Word)
  /-- R73. The XO count lies outside its limits in two consecutive windows; the Seawall soft-cuts all bridges. -/
  | xoLoss (count : Nat)
  /-- R74. PLL-A loses lock; the BUS clock of the fault machinery switches to XO and the unit goes fail-silent. -/
  | pllALockLoss
  /-- R73. PLL-B loses lock; the Seawall soft-cuts all bridges and the current channels go stale. -/
  | pllBLockLoss
  /-- R73. The delay-line DLL loses lock and tap codes are forced to 0. -/
  | delayLineLockLoss
  /-- R73. Every 100 us a relock of the unlocked delay line is tried. -/
  | delayLineRelock (locked : Bool) (trim : BitVec 8)
  /-- R73. The AON clock deviates beyond 6 % against XO and the deviation is logged in AON_CAL. -/
  | aonDeviation (dev : BitVec 16)
  /-- R73. The 32.768 kHz crystal shows no edge for 1 ms and AON switches to the RC. -/
  | crystalLoss
  /-- R73. SWRC deviates beyond 10 % and the Seawall latches a self-test hard cut. -/
  | swrcDeviation
  /-- R83. A handshake-class crossing completes one transfer after its source and destination synchroniser delays. -/
  | handshakeTransfer (sluice : Nat) (w : Word)
  /-- R84. A stream-class sluice delivers a word Dd destination cycles after valid is raised. -/
  | streamWord (sluice : Nat) (w : Word) (stopped : Bool)
  /-- R85. A receiver samples a published multi-bit value on two cycles and accepts it only when both agree. -/
  | doubleSample (sluice : Nat) (a b : Word)
  /-- R86. Eight consecutive disagreements at a double-sample sluice raise kind 0x0D and mark the value stale. -/
  | sluiceDisagreement (sluice : Nat) (reader : Option Initiator)
  /-- R94. A write of AON_OSC.SRC switches the AON clock source without a glitch within 4 AON cycles. -/
  | srcChange (who : Initiator) (v : Word) (xtal : Bool)
  /-- R78. A WAKEn edge followed by a stable level for the filter time asserts a wake and starts Flood from Slack water. -/
  | wake (n : Nat)
  /-- R78. The dominant-recessive-dominant CAN wake pattern on CAN0_RX or CAN1_RX within 1 ms asserts a wake. -/
  | canWake (n : Nat)
  /-- R78. 100BASE-T1 signal energy on MA0 or MB0 for 100 us asserts a wake. -/
  | mauloWake (channel : Nat)
  /-- R76. Flood completes and the unit enters High water, or Dry dock when the seal is unconfirmed or Dry dock was requested. -/
  | floodComplete
  /-- R76. A Flood not ready for authority 300 ms after its start raises kind 0x05 at level 3. -/
  | floodTimeout
  /-- R76. A Flood step fails and Flood restarts under the unit-recovery counter. -/
  | floodStepFailure
  /-- R76. TIDE_REQ.EBB, written keyed, releases authority within 50 us and starts Ebb, or is held during Flood. -/
  | ebb (who : Initiator)
  /-- R92. TIDE_REQ.DRYDOCK_NEXT sets the AON flag that sends the next Flood to Dry dock. -/
  | drydockNext (who : Initiator)
  /-- R76. Ebb saves finish; the unit enters Slack water, or Flood through a UR when a wake source is asserted. -/
  | ebbSavesComplete (asserted : Bool)
  /-- R103. VSUP falls below 2.5 V and a POR of everything, AON included, follows. -/
  | vsupPor
  /-- R103. VSUP rises above 2.8 V, releasing POR and starting Flood. -/
  | vsupPorRelease
  /-- R103. VSUP rises above 3.5 V and enables the rail start in Flood. -/
  | vsupStart
  /-- R103. VSUP falls below 3.0 V; the event is noted at level 0. -/
  | vsupUv
  /-- R103. VSUP rises above 40 V; kind 0x06 is raised at level 1. -/
  | vsupOv
  /-- R103. VPRE falls below 5.4 V; Dredge tests are aborted and no token is granted until release. -/
  | vpreWarn
  /-- R571. VPRE rises above 5.6 V and Dredge token grants resume. -/
  | vpreWarnRelease
  /-- R103. VPRE falls below 5.0 V; the Seawall soft-cuts all bridges and releases BOL_OUT. -/
  | vpreBo
  /-- R104. VPRE stable above 5.6 V for 1 ms releases the brown-out and a UR follows. -/
  | vpreBoRelease
  /-- R109. VPRE_RST or the VCORE, VIO18, VIO33 or VSW monitor trips and a POR without the AON domain follows. -/
  | railLoss (rail : Rail)
  /-- R103. VGD falls below 9.5 V; the Seawall soft-cuts all bridges. -/
  | vgdMonitor
  /-- R107. A rail reaches its limits during start-up and the next rail in the order starts. -/
  | railInLimits (rail : Rail)
  /-- R107. A rail not within limits 5 ms after its start raises kind 0x07 at level 3 and Flood restarts. -/
  | railStartTimeout (rail : Rail)
  /-- R111. EXT_RST_N held low for at least 1 us requests a UR. -/
  | extRstN
  /-- R111. The rising edge of EXT_RST_N lets a stopped Flood resume. -/
  | extRstNRise
  /-- R123. Once the KD rails are in limits and both PLLs locked, KD leaves reset, RSTOUT_N is released and BOOT_SEL is sampled. -/
  | kdResetRelease (bootSel : BitVec 2)
  /-- R117. The boot ROM finishes verifying a bank's image and runs it or tries the next bank. -/
  | imageVerify
  /-- R123. After the march the boot ROM loads the image sections, starts VGD and AC0 jumps to ENTRY. -/
  | bootImageLoad (sections : List (Nat × List Byte))
  /-- R131. BANK_CTRL.TRY_OTHER requests that the next Flood boot the non-preferred bank on trial. -/
  | tryOther (who : Initiator)
  /-- R118. BANK_CTRL.CONFIRM during a trial makes the running bank preferred and may advance the rollback counter. -/
  | confirm (who : Initiator)
  /-- R121. UPD_CTRL.OPEN opens the update port on the inactive bank for the named target region. -/
  | updateOpen (who : Initiator) (v : Word)
  /-- R121. A ciphertext word written to UPD_DATA is decrypted and written into the target region. -/
  | updData (who : Initiator) (w : Word)
  /-- R121. UPD_CTRL.CLOSE_VERIFY closes the update port and starts verification of the inactive bank. -/
  | closeVerify (who : Initiator)
  /-- R121. Verification of the inactive bank ends, setting VERIFY_OK or VERIFY_FAIL and copying the manifest area if needed. -/
  | verifyDone
  /-- R137. At each fast boundary every channel delivers a corrected 16-bit fast sample of its phase. -/
  | fastSample (raw : List Word)
  /-- R137. At each precise boundary every channel delivers a corrected 24-bit precise sample and its amperes value. -/
  | preciseSample (raw : List Word)
  /-- R133. A current-sense common mode out of range for 1 us sets CM_FAULT and marks samples clipped. -/
  | cmFault (channel : Nat)
  /-- R142. A write of CS.CFG.GAIN loads the factory trim of the new gain and leaves the channel uncalibrated. -/
  | gainWrite (who : Initiator) (channel : Nat) (v : Word)
  /-- R144. TD.TIME.PERIOD runs out since the last service start, making a Tender service due. -/
  | tenderPeriod
  /-- R144. At the first precise boundary after the start condition the Tender chooses a channel and starts CONNECT or SELFCAL. -/
  | serviceStart
  /-- R145. TD_REQ with REQ = 1 requests a service of the named channel, or is ignored while another is pending. -/
  | tenderRequest (who : Initiator) (channel : Nat)
  /-- R145. TD_REQ with REQ = 0 withdraws a pending Tender request. -/
  | tenderWithdraw (who : Initiator)
  /-- R146. Boundary 4 + SETTLE is reached in CONNECT and the Tender enters AGREE. -/
  | settleEnd
  /-- R148. At the boundary after the 64th agreeing sample the phase stream passes to the Tender or back to the channel. -/
  | tenderSwap
  /-- R149. A calibration point's averaging ends; after the second point the coefficients are solved and judged. -/
  | calibrationPointDone (sum : Int) (clipped : Bool)
  /-- R152. The Tender's self-calibration and REFB check end; it returns to IDLE, possibly setting REF_SUSPECT. -/
  | selfcalEnd (sum1 sum2 : Int) (refb : Int)
  /-- R154. A channel entering FAULT is relieved by the Tender without an agreement run, in HOLD. -/
  | emergencyRelief (channel : Nat)
  /-- R146. The held channel is released by the Harbourmaster and the Tender goes to VERIFY. -/
  | holdRelease
  /-- R169. An input excursion shorter than N filter clocks is rejected and counted in GLITCH. -/
  | glitch (channel : Nat)
  /-- R170. A sounding input level accepted by the edge filter is timestamped and processed by the channel's mode. -/
  | acceptedEdge (channel : Nat) (a b z : Bool) (ts : Word)
  /-- R176. A new absolute position sample sets ANGLE, or is discarded as a jump. -/
  | absoluteSample (channel : Nat) (value : Nat) (ts : Word)
  /-- R178. No step for STILL.TIMEOUT reports a speed of zero and sets STILL. -/
  | standstill (channel : Nat)
  /-- R179. At the end of each TWIN window the count path forms the speed from the POS difference. -/
  | countWindow (channel : Nat)
  /-- R182. LEAD before the base tick a channel in SSI mode starts clocking one frame. -/
  | ssiFrameStart (channel : Nat)
  /-- R182. An SSI frame completes and its position is decoded, or discarded on parity error. -/
  | ssiFrameEnd (channel : Nat) (frame : BitVec 40)
  /-- R183. LEAD before the base tick the channel has its SPI controller poll the angle sensor. -/
  | spiPoll (channel : Nat)
  /-- R185. FTO latches pass without a valid framed sample; the page goes to IDLE stale and kind 0x05 is raised. -/
  | framedTimeout (channel : Nat)
  /-- R187. At 312.5 kHz the resolver tracking observer updates angle and speed from the demodulated envelopes. -/
  | observerUpdate (channel : Nat) (sinEnv cosEnv : Word) (beyond5 : Bool)
  /-- R188. Amplitude above 10 % and error below 1 deg for 1 ms take the resolver channel to RUN. -/
  | resolverLock (channel : Nat) (amplitude : Nat)
  /-- R186. Each excitation period SX checks its outputs and the resolver channels judge LOS. -/
  | excitationPeriod (bad0 bad1 : Bool) (freq : BitVec 16) (amplitudes : List Nat)
  /-- R199. A new FREQ takes effect at the positive zero crossing and the resolver channels re-lock. -/
  | excitationFreqChange
  /-- R191. Every SLACK.PER in Slack water the AON domain pulses the sensor supply and samples the sensor. -/
  | slackPulse (channel : Nat) (a b z : Bool) (agreed : Bool)
  /-- R211. A base-tick boundary releases due rate groups, judges deadlines, takes bank swaps and counts TICKNO. -/
  | baseTick (align : Option Word) (merged : Bool)
  /-- R216. A run's staged P, O and reference words become committed on one ENG cycle. -/
  | runCommit (engine cycles : Nat)
  /-- R221. CTRL.GO starts the engine program check. -/
  | go (who : Initiator) (engine : Nat)
  /-- R222. The program check ends with pass or the first failure code and operation index. -/
  | checkComplete (engine : Nat)
  /-- R225. The upper engine's partner-angle wait exceeds PAIR_TMO and takes the last value stale. -/
  | pairTimeout (engine : Nat)
  /-- R204. Engine operation with no effect. -/
  | capstanNop (engine : Nat)
  /-- R204. Engine operation copying A to DST. -/
  | capstanMov (engine : Nat)
  /-- R204. Engine binary32 addition. -/
  | capstanAdd (engine : Nat)
  /-- R204. Engine binary32 subtraction. -/
  | capstanSub (engine : Nat)
  /-- R204. Engine binary32 multiplication. -/
  | capstanMul (engine : Nat)
  /-- R204. Engine fused multiply-add rounded once. -/
  | capstanFma (engine : Nat)
  /-- R204. Engine minimumNumber of A and B. -/
  | capstanMin (engine : Nat)
  /-- R204. Engine maximumNumber of A and B. -/
  | capstanMax (engine : Nat)
  /-- R616. Engine sign operation clearing the sign bit. -/
  | capstanAbs (engine : Nat)
  /-- R616. Engine sign operation inverting the sign bit. -/
  | capstanNeg (engine : Nat)
  /-- R204. Engine selection of A or B by the sign bit of C. -/
  | capstanSel (engine : Nat)
  /-- R204. Engine correctly rounded division. -/
  | capstanDiv (engine : Nat)
  /-- R204. Engine correctly rounded square root. -/
  | capstanSqrt (engine : Nat)
  /-- R617. Engine reduction of A to one revolution with the fixed 64-bit 2 pi. -/
  | capstanWrap (engine : Nat)
  /-- R210. Engine load of a link from the tick snapshot, holding or abandoning on a stale value. -/
  | capstanSld (engine : Nat)
  /-- R204. Engine staged store of A to an output slot; a non-finite value abandons the run. -/
  | capstanSst (engine : Nat)
  /-- R204. Engine staged reference of one phase of its bridge; a non-finite value abandons the run. -/
  | capstanRef (engine : Nat)
  /-- R204. Engine Clarke transform. -/
  | capstanClk (engine : Nat)
  /-- R204. Engine inverse Clarke transform. -/
  | capstanIclk (engine : Nat)
  /-- R204. Engine Park transform. -/
  | capstanPark (engine : Nat)
  /-- R204. Engine inverse Park transform. -/
  | capstanIpark (engine : Nat)
  /-- R206. Engine PI controller with clamp and anti-windup on persistent state. -/
  | capstanPi (engine : Nat)
  /-- R206. Engine hysteresis switch on persistent state. -/
  | capstanHys (engine : Nat)
  /-- R206. Engine biquad filter in transposed direct form II. -/
  | capstanBiq (engine : Nat)
  /-- R204. Engine clamp of A between limits. -/
  | capstanLim (engine : Nat)
  /-- R206. Engine slew-rate limiter on persistent state. -/
  | capstanSlew (engine : Nat)
  /-- R207. Engine swell-table lookup, optionally handing a learning sample to the learner. -/
  | capstanSwl (engine : Nat)
  /-- R204. Engine adds the injection sample to A when its point is armed. -/
  | capstanInj (engine : Nat)
  /-- R204. Engine sends A to a capture channel, staged with the run. -/
  | capstanCap (engine : Nat)
  /-- R236. Every 200 ns all current loops predict, request edges and the coordinators issue commands to the legs. -/
  | decision
  /-- R250. A bridge standing in 111 for ZHOLD is moved to 000 by three swap edges. -/
  | zeroSwap (bridge : Nat)
  /-- R269. SW.CMD.CLEAR requests clearing of a table at the next base-tick boundary. -/
  | clear (who : Initiator) (engine : Nat) (tables : BitVec 4)
  /-- R268. SW.CMD.RESUME recomputes S and clears GUARD if the RMS is within RMSLIM. -/
  | resume (who : Initiator) (engine : Nat) (tables : BitVec 4)
  /-- R272. IJ.CMD.ARM arms the generator to start at START_TICK. -/
  | injectionArm (who : Initiator) (engine : Nat)
  /-- R272. IJ.CMD.STOP disarms the generator or ends its run at the next boundary. -/
  | injectionStop (who : Initiator) (engine : Nat)
  /-- R274. CMD.CLAIM grants NSEG segments whole or is refused. -/
  | captureClaim (who : Initiator) (engine nseg : Nat)
  /-- R274. CMD.ARM starts ring writing of capture records. -/
  | captureArm (who : Initiator) (engine : Nat)
  /-- R276. CMD.FORCE makes the next record the software trigger record. -/
  | captureForce (who : Initiator) (engine : Nat)
  /-- R274. CMD.RELEASE stops writing and starts clearing the capture's segments. -/
  | captureRelease (who : Initiator) (engine : Nat)
  /-- R274. A released segment finishes clearing and becomes free. -/
  | segmentCleared
  /-- R287. A leg's command word arrives at KP and schedules its switch actions with dead time. -/
  | commandWord (leg : Nat) (word : BitVec 16)
  /-- R288. A placed switch turn-on or turn-off takes effect at its action time. -/
  | switchAction (leg : Nat)
  /-- R291. A bridge's Seawall enable appears or is removed, starting or stopping its GB and GL pages. -/
  | seawallEnable (bridge : Nat)
  /-- R295. VGDm falls below the bridge UVLO; gates go off and the GB page leaves RUN. -/
  | vgdUvlo (bridge : Nat)
  /-- R296. A bootstrap falls below its UVLO; the high side turns off and the leg latches. -/
  | bootstrapUvlo (leg : Nat) (low : Bool)
  /-- R297. A high side on for MAXHIGH without keeper inserts a refresh pulse. -/
  | bootstrapRefresh (leg : Nat)
  /-- R300. A di/dt detector trips; the switch turns off through the soft sink and the leg latches. -/
  | didtTrip (leg : Nat) (high partnerOn : Bool)
  /-- R300. A VDS monitor trips; the switch turns off through the soft sink and the leg latches. -/
  | vdsTrip (leg : Nat) (high partnerOn : Bool)
  /-- R300. Gate readback below 2.0 V or 1 us passed changes the soft sink to the full sink. -/
  | softSinkHandover (leg : Nat)
  /-- R302. The latch cause absent for HOLD moves the leg to WAIT_EDGE. -/
  | latchHoldExpiry (leg : Nat)
  /-- R305. Gate readback not matching the driven state 2 us after action latches the leg. -/
  | readbackMismatch (leg : Nat)
  /-- R306. GL.CMD.LEAK starts the off-state gate-leakage check. -/
  | leakageCheck (who : Initiator) (leg : Nat) (v : Word)
  /-- R306. The leakage check ends with results in LEAK_HS and LEAK_LS. -/
  | leakDone (leg : Nat) (hs ls : GateTest)
  /-- R308. Keyed IS.CMD.CLOSE starts closing the isolation switch, or is denied without permit. -/
  | isClose (who : Initiator) (phase : Nat)
  /-- R308. IS.CMD.OPEN moves a closed switch to WAIT_I, or a closing one to OPENING. -/
  | isOpen (who : Initiator) (phase : Nat)
  /-- R308. The Seawall close permit rises; with AUTO the switch starts closing. -/
  | permitRise (phase : Nat)
  /-- R308. The close permit falls and the switch opens without waiting for current. -/
  | permitWithdrawn (phase : Nat)
  /-- R308. Gate readback on ends CLOSING in CLOSED. -/
  | isolationClosed (phase : Nat)
  /-- R308. Gate readback off ends OPENING in OPEN. -/
  | isolationOpened (phase : Nat)
  /-- R308. 5 us without readback on raises kind 0x05 at level 2 and the switch opens. -/
  | closeTimeout (phase : Nat)
  /-- R308. 1 us without readback off raises kind 0x05 at level 3. -/
  | openTimeout (phase : Nat)
  /-- R308. OPEN_TMO in WAIT_I elapses and the switch opens under current. -/
  | openTmo (phase : Nat)
  /-- R339. CV.CTRL.START starts both cores of an idle Cove pair at ENTRY. -/
  | coveStart (who : Initiator) (pair : Nat)
  /-- R330. CV.CTRL.SWI sets the pair's software interrupt flag. -/
  | swi (who : Initiator) (pair : Nat)
  /-- R320. A write to TIMER_LOAD sets or stops the Cove timer at once. -/
  | timerLoad (pair : Nat) (checker : Bool) (v : Word)
  /-- R330. TIMER_CNT reaches zero, sets the TIMER flag and reloads. -/
  | coveTimer (pair : Nat)
  /-- R320. A W1C write to IFLAG clears interrupt causes at once. -/
  | iflagWrite (pair : Nat) (checker : Bool) (v : Word)
  /-- R335. A write to an OUT word is held in the release buffer until the checker matches it. -/
  | outWrite (pair stream : Nat) (v : Word)
  /-- R320. A FAR_CTRL.READ write, once released, starts a far read through the pair's KCB slice. -/
  | farRead (pair : Nat)
  /-- R320. A FAR_CTRL.WRITE write, once released, starts a far write through the pair's KCB slice. -/
  | farWrite (pair : Nat)
  /-- R320. A far access ends, updating FAR_STAT and FAR_RDATA and raising FAR_DONE. -/
  | farDone (pair : Nat)
  /-- R336. A write to CHKPT closes the current Cove checkpoint window. -/
  | chkpt (pair : Nat) (checker : Bool)
  /-- R339. A write to HALTREQ halts the pair at the end of the current window. -/
  | haltreq (pair : Nat) (checker : Bool)
  /-- R331. The fast interrupt is accepted at a boundary and the shadow bank is switched in. -/
  | fastInterrupt (pair : Nat) (checker : Bool)
  /-- R331. A normal interrupt is accepted at a boundary. -/
  | normalInterrupt (pair : Nat) (checker : Bool)
  /-- R335. The checker's matching I/O write releases the held entry, or a mismatch sends the pair to FAULT. -/
  | coveRelease (pair addr : Nat) (v : Word)
  /-- R336. A Cove core closes its signature window after WIN retired instructions. -/
  | coveWindowClose (pair : Nat) (checker : Bool)
  /-- R336. When the checker closes the window the two signatures are compared. -/
  | coveSignatureCompare (pair : Nat)
  /-- R337. The BR copy of main memory into the checker copies ends and the pair rests in IDLE. -/
  | coveCopyDone (pair : Nat) (bad : List Nat)
  /-- R339. A window still open 200 us after EN was cleared is closed at the next boundary. -/
  | coveDrainTimeout (pair : Nat)
  /-- R345. Parallel-form no operation with its moves. -/
  | parallelNop (pair : Nat) (checker : Bool)
  /-- R345. Parallel fractional multiply-accumulate. -/
  | parallelMac (pair : Nat) (checker : Bool)
  /-- R345. Parallel fractional multiply-subtract. -/
  | parallelMsu (pair : Nat) (checker : Bool)
  /-- R345. Parallel fractional multiply. -/
  | parallelMpy (pair : Nat) (checker : Bool)
  /-- R345. Parallel integer addition. -/
  | parallelAdd (pair : Nat) (checker : Bool)
  /-- R345. Parallel integer subtraction. -/
  | parallelSub (pair : Nat) (checker : Bool)
  /-- R345. Parallel bitwise AND. -/
  | parallelAnd (pair : Nat) (checker : Bool)
  /-- R345. Parallel bitwise OR. -/
  | parallelOr (pair : Nat) (checker : Bool)
  /-- R345. Parallel bitwise XOR. -/
  | parallelXor (pair : Nat) (checker : Bool)
  /-- R345. Parallel binary32 addition. -/
  | parallelFadd (pair : Nat) (checker : Bool)
  /-- R345. Parallel binary32 subtraction. -/
  | parallelFsub (pair : Nat) (checker : Bool)
  /-- R345. Parallel binary32 multiplication. -/
  | parallelFmul (pair : Nat) (checker : Bool)
  /-- R345. Parallel binary32 fused multiply-add. -/
  | parallelFma (pair : Nat) (checker : Bool)
  /-- R345. Parallel accumulator addition or subtraction. -/
  | parallelAdda (pair : Nat) (checker : Bool)
  /-- R360. Parallel rounding and saturation of an accumulator into a data register. -/
  | parallelRnd (pair : Nat) (checker : Bool)
  /-- R345. Parallel clearing of an accumulator. -/
  | parallelClr (pair : Nat) (checker : Bool)
  /-- R349. Single-form integer addition. -/
  | registerAdd (pair : Nat) (checker : Bool)
  /-- R349. Single-form integer subtraction. -/
  | registerSub (pair : Nat) (checker : Bool)
  /-- R349. Single-form integer compare setting flags. -/
  | registerCmp (pair : Nat) (checker : Bool)
  /-- R349. Single-form bitwise AND. -/
  | registerAnd (pair : Nat) (checker : Bool)
  /-- R349. Single-form bitwise OR. -/
  | registerOr (pair : Nat) (checker : Bool)
  /-- R349. Single-form bitwise XOR. -/
  | registerXor (pair : Nat) (checker : Bool)
  /-- R349. Single-form bitwise NOT. -/
  | registerNot (pair : Nat) (checker : Bool)
  /-- R361. Single-form integer negation. -/
  | registerNeg (pair : Nat) (checker : Bool)
  /-- R361. Single-form integer absolute value. -/
  | registerAbs (pair : Nat) (checker : Bool)
  /-- R349. Single-form signed minimum. -/
  | registerMin (pair : Nat) (checker : Bool)
  /-- R349. Single-form signed maximum. -/
  | registerMax (pair : Nat) (checker : Bool)
  /-- R361. Single-form signed integer multiply. -/
  | registerMuli (pair : Nat) (checker : Bool)
  /-- R361. Single-form arithmetic shift right. -/
  | registerAsr (pair : Nat) (checker : Bool)
  /-- R361. Single-form logical shift right. -/
  | registerLsr (pair : Nat) (checker : Bool)
  /-- R361. Single-form shift left. -/
  | registerLsl (pair : Nat) (checker : Bool)
  /-- R349. Single-form binary32 addition. -/
  | registerFadd (pair : Nat) (checker : Bool)
  /-- R349. Single-form binary32 subtraction. -/
  | registerFsub (pair : Nat) (checker : Bool)
  /-- R349. Single-form binary32 multiplication. -/
  | registerFmul (pair : Nat) (checker : Bool)
  /-- R349. Single-form binary32 fused multiply-add. -/
  | registerFma (pair : Nat) (checker : Bool)
  /-- R349. Single-form binary32 minimumNumber. -/
  | registerFmin (pair : Nat) (checker : Bool)
  /-- R349. Single-form binary32 maximumNumber. -/
  | registerFmax (pair : Nat) (checker : Bool)
  /-- R349. Single-form clearing of the binary32 sign bit. -/
  | registerFabs (pair : Nat) (checker : Bool)
  /-- R349. Single-form inversion of the binary32 sign bit. -/
  | registerFneg (pair : Nat) (checker : Bool)
  /-- R362. Single-form reciprocal estimate. -/
  | registerFrcp (pair : Nat) (checker : Bool)
  /-- R362. Single-form reciprocal square-root estimate. -/
  | registerFrsq (pair : Nat) (checker : Bool)
  /-- R363. Single-form binary32 compare setting flags. -/
  | registerFcmp (pair : Nat) (checker : Bool)
  /-- R362. Single-form integer to binary32 conversion. -/
  | registerFlt (pair : Nat) (checker : Bool)
  /-- R362. Single-form binary32 to integer conversion with saturation. -/
  | registerFix (pair : Nat) (checker : Bool)
  /-- R362. Single-form 1.31 fraction to binary32 conversion. -/
  | registerFltq (pair : Nat) (checker : Bool)
  /-- R362. Single-form binary32 to 1.31 fraction conversion. -/
  | registerFixq (pair : Nat) (checker : Bool)
  /-- R350. Load a sign-extended immediate into a data register. -/
  | ldl (pair : Nat) (checker : Bool)
  /-- R350. Load an immediate into the high half of a data register. -/
  | ldh (pair : Nat) (checker : Bool)
  /-- R350. Add a sign-extended immediate. -/
  | addi (pair : Nat) (checker : Bool)
  /-- R350. Compare with a sign-extended immediate. -/
  | cmpi (pair : Nat) (checker : Bool)
  /-- R350. Arithmetic shift right by an immediate. -/
  | asri (pair : Nat) (checker : Bool)
  /-- R350. Logical shift right by an immediate. -/
  | lsri (pair : Nat) (checker : Bool)
  /-- R350. Shift left by an immediate. -/
  | lsli (pair : Nat) (checker : Bool)
  /-- R350. Load an address register and its circular base. -/
  | lda (pair : Nat) (checker : Bool)
  /-- R350. Add an immediate to an address register with no mode. -/
  | inca (pair : Nat) (checker : Bool)
  /-- R350. Load the LEN half of a modifier. -/
  | ldml (pair : Nat) (checker : Bool)
  /-- R350. Load the MODE and STEP half of a modifier. -/
  | ldmh (pair : Nat) (checker : Bool)
  /-- R351. Copy one numbered register to another. -/
  | classMMove (pair : Nat) (checker : Bool)
  /-- R352. Load a data register from a direct X or Y address. -/
  | directLoad (pair : Nat) (checker : Bool)
  /-- R352. Store a data register to a direct X or Y address. -/
  | directStore (pair : Nat) (checker : Bool)
  /-- R353. Shift an accumulator by a signed constant. -/
  | accumulatorShift (pair : Nat) (checker : Bool)
  /-- R354. Conditional branch after two delay slots. -/
  | bra (pair : Nat) (checker : Bool)
  /-- R354. Conditional call saving the return address in LR. -/
  | call (pair : Nat) (checker : Bool)
  /-- R354. Conditional return to LR. -/
  | ret (pair : Nat) (checker : Bool)
  /-- R355. Return from a normal interrupt restoring SR. -/
  | reti (pair : Nat) (checker : Bool)
  /-- R355. Return from the fast interrupt restoring SR and the register bank. -/
  | retf (pair : Nat) (checker : Bool)
  /-- R356. Repeat the next instruction N times. -/
  | rep (pair : Nat) (checker : Bool)
  /-- R357. One filter tap with delay-line move and address updates. -/
  | ftap (pair : Nat) (checker : Bool)
  /-- R358. An illegal Cove word has no effect and sends the pair to FAULT. -/
  | illegalInstruction (pair : Nat) (checker : Bool)
  /-- R373. The main application core retires an instruction and writes its delay-FIFO entry. -/
  | retiredInstruction (pair : Nat) (next : Word) (act : AppAct)
  /-- R373. The checker retires the same instruction 96 cycles later and compares it with the delay-FIFO entry. -/
  | checkerRetire (pair : Nat) (fetch next : Word) (act : AppAct) (path : PathFault)
  /-- R370. A machine interrupt is taken by the main core and replayed by the checker at the same retired count. -/
  | machineInterrupt (pair : Nat) (checker : Bool) (bit : Nat)
  /-- R377. A store to a quay range enters the quay buffer, stalling the core when the buffer is full. -/
  | quayStore (pair : Nat) (next addr : Word) (size : Nat) (data : Word)
  /-- R377. Both comparators match the checker's store and the entry is released to its target. -/
  | quayRelease (pair : Nat) (fetch next addr : Word) (size : Nat) (data : Word) (path : PathFault)
  /-- R378. A FENCE with W predecessor holds the main core until the quay buffer is empty. -/
  | fence (pair : Nat) (next : Word) (predW : Bool)
  /-- R381. A target reports an error for a posted store; WERR sets and kind 0x05 is raised. -/
  | writeError (pair : Nat)
  /-- R382. A register parity failure on a read starts a repair. -/
  | parityFailure (pair : Nat) (checker : Bool) (reg : Nat)
  /-- R383. A core closes its signature window. -/
  | appWindowClose (pair : Nat) (checker : Bool)
  /-- R383. When the checker closes the window the signatures are compared; a mismatch starts a repair. -/
  | appSignatureCompare (pair : Nat) (disagree : Bool)
  /-- R384. A write to kzchkpt closes the window and forms the checkpoint hash over the architectural state. -/
  | kzchkpt (pair : Nat) (next : Word) (dst : Nat) (tag : Word)
  /-- R384. The checker's checkpoint hash is compared with the main core's. -/
  | checkpointCompare (pair : Nat) (disagree : Bool)
  /-- R386. A repair ends by overwriting the bad copy and resuming, or by a restart at level 2. -/
  | repairEnd (pair : Nat) (upset : List (Bool × Nat × Word))
  /-- R387. The restart BR copy of the mirrored region ends and the pair starts or rests in IDLE. -/
  | restartCopyDone (pair : Nat) (bad : List Nat)
  /-- R393. AC.CTRL.START starts an idle application pair. -/
  | appStart (who : Initiator) (pair : Nat)
  /-- R393. A window still open 100 us after EN was cleared closes at the next boundary. -/
  | appDrainTimeout (pair : Nat)
  /-- R391. A halt request, trigger or ebreak halts the main core and the checker runs on to the same count. -/
  | debugHalt (pair : Nat)
  /-- R391. An abstract register write is applied to the main core and entered in the replay log. -/
  | debugRegisterWrite (pair reg : Nat) (v : Word)
  /-- R391. A debug system bus write is applied once, to both copies in the mirrored region. -/
  | systemBusWrite (addr size : Nat) (v : Word)
  /-- R391. Resume replays the log into the checker and restarts both cores with the lag. -/
  | debugResume (pair : Nat)
  /-- R391. A single step executes one instruction on both cores and halts again. -/
  | singleStep (pair : Nat) (next : Word) (act : AppAct)
  /-- R392. A debugger attaches; the unit releases authority and the Seawall refuses BOL_OUT. -/
  | debuggerAttach (pair : Nat)
  /-- R392. The debugger detaches; the unit stays without authority until its next Flood. -/
  | debuggerDetach (pair : Nat)
  /-- R402. A Seawall phase comparator beyond its threshold for CMP_FILT cycles soft-cuts the bridge. -/
  | phaseCurrentTrip (phase : Nat) (neg : Bool)
  /-- R402. The DC link outside its window for 16 cycles soft-cuts the bridge. -/
  | dcLinkWindow (bridge : Nat)
  /-- R402. More than EDGE_MAX edges on one leg within 100 us soft-cuts the bridge. -/
  | commandEdgeRate (leg : Nat)
  /-- R402. A gate-cluster temperature above TCL_MAX for 1 ms soft-cuts the bridge. -/
  | clusterTemperature (bridge : Nat)
  /-- R402. The Seawall's KP temperature above TKP_MAX for 1 ms makes a unit-wide soft cut. -/
  | kpTemperature
  /-- R402. A leg reports a shoot-through; the third within 1 s from one bridge latches a hard cut. -/
  | shootThroughReport (leg : Nat)
  /-- R405. A bridge soft cut ends once its causes are gone and the Harbourmaster has released the lane. -/
  | softCutEnd (bridge : Nat)
  /-- R407. The Seawall's Flood self-test completes, or a continuous check fails and latches HCAUSE 4. -/
  | seawallSelfTest (passed : Bool)
  /-- R409. A watchdog period ends and is judged, and the next question is published. -/
  | watchdogPeriod
  /-- R409. An answer written to WD_ANS is judged against the window and the expected value. -/
  | wdAns (who : Initiator) (v : Word) (inWindow : Bool)
  /-- R415. The Seawall range-checks the manifest, computes the seal and compares it with the confirmation record. -/
  | manifestCheck
  /-- R411. A valid SEAWALL_RST_N edge clears the hard cut, resets the recovery counter and requests a UR. -/
  | seawallRstN (lowUs : Nat)
  /-- R418. A valid COMMISSION_N edge in KEYED starts writing the confirmation record, otherwise is ignored. -/
  | commissionEdge (lowUs : Nat)
  /-- R410. An edge-qualified input low for 2 s sets STUCK and raises kind 0x06. -/
  | edgeInputStuck (commission : Bool)
  /-- R418. A write of SEAL_CONFIRM compared with SEAL_CALC moves CSTATE to CONFIRM_OK or records a mismatch. -/
  | sealConfirm (who : Initiator) (v : Word)
  /-- R418. Writes of SEAL_KEY with the seal and its inverse move CSTATE to KEYED. -/
  | sealKey (who : Initiator) (v : Word)
  /-- R418. 1 s after the first key word without its inverse returns CSTATE to IDLE. -/
  | sealKeyTimeout
  /-- R418. 60 s in KEYED without a commissioning edge returns CSTATE to IDLE. -/
  | keyedTimeout
  /-- R418. The confirmation record is read back; on success a UR starts Flood, otherwise WRITE_FAIL sets. -/
  | recordReadback (equal : Bool)
  /-- R430. A pennant arrives, is checked for sequence and admitted to the intake queue or dropped into the held level. -/
  | pennant (source : Nat) (word : Option (BitVec 64)) (err : SecErr)
  /-- R429. A rising error line sets its ELS bit and, in line mode, forms a record. -/
  | errorLine (source : Nat)
  /-- R428. A line without pennant, or a pennant without line, within 2 us raises kind 0x0C. -/
  | lineCheckTimeout (source : Nat)
  /-- R437. In a processing slot the Harbourmaster records an event, forms its level, opens, merges or escalates the incident and reacts. -/
  | eventProcessing
  /-- R436. An incident's quiet clock expires, closing it, releasing its lane to PROBATION or causing a UR. -/
  | quietExpiry (group : Nat)
  /-- R438. A write to ACK acknowledges open incidents. -/
  | ack (who : Initiator) (v : Word)
  /-- R442. CTRL.RELEASE releases and refills the frozen history queue. -/
  | historyRelease (who : Initiator)
  /-- R449. A Maulo port link comes up with the role from SCHED.ROLE. -/
  | linkUp (port sqi : Nat)
  /-- R467. A Maulo port link is lost and kind 0x0B is raised. -/
  | linkLoss (port : Nat)
  /-- R457. A received DATA frame is windowed, forwarded and judged test by test, and its PDUs go to the berths. -/
  | dataFrame (port : Nat) (stamp : Int) (fcs : FrameCheck) (bytes : List Byte)
  /-- R482. A valid SYNC corrects Tidemark offset and rate, sets the cycle's plan and may load TM. -/
  | syncFrame (port : Nat) (stamp : Int) (fcs : FrameCheck) (bytes : List Byte)
  /-- R476. A START frame is taken for loading or makes a cold-starting node abandon. -/
  | startFrame (port : Nat) (stamp : Int) (fcs : FrameCheck) (bytes : List Byte)
  /-- R478. A LEAD frame is received and used for link-delay measurement and path-delay tables. -/
  | leadFrame (port : Nat) (stamp : Int) (fcs : FrameCheck) (bytes : List Byte)
  /-- R478. At +0.5 us of the lead-line slot each master port sends REQ. -/
  | leadSlot (t : Int)
  /-- R478. 9 us after a REQ the slave port sends RESP. -/
  | leadResponse (port : Nat)
  /-- R478. A slave port with no REQ by +10 us sends NOTICE. -/
  | leadNotice (port : Nat)
  /-- R451. At the start of an owned slot the node sends the frame, copying its transmit berths, through the guardian. -/
  | slotStart (channel entry len : Nat) (t : Int)
  /-- R463. The slot-0 window closes and a missing SYNC counts as a miss, possibly a channel loss or holdover. -/
  | syncWindowClose (channel : Nat)
  /-- R463. At the cycle boundary the pier head decides the plan and pending schedule swaps take effect. -/
  | cycleBoundary
  /-- R482. A Tidemark slew ends after its n BUS cycles without a new SYNC. -/
  | slewEnd
  /-- R463. MS.CTRL.RETURN at the pier head requests a return to plan AB. -/
  | return (who : Initiator)
  /-- R475. A cold-start-capable node's listen time passes with no SYNC or START and it starts a cold start. -/
  | listenTimeout
  /-- R474. HOLD cycles without SYNC take a node from HOLDOVER to LISTEN. -/
  | holdoverEnd
  /-- R485. A cold-start node missing SYNC for 4 + b cycles takes over as pier head. -/
  | pierHeadTakeover
  /-- R498. BTH.COMMIT completes a transmit berth's fill buffer. -/
  | commit (who : Initiator) (berth : Nat)
  /-- R506. A CAN frame is stored in its receive buffer or the FIFO, overwriting or dropping. -/
  | canFrameReceived (ctl : Nat) (id flags : Word) (dlc : Nat) (data : List Word) (filter : Bool)
  /-- R506. A transmit buffer's frame is sent in priority order. -/
  | canTransmit (ctl : Nat)
  /-- R506. The controller enters bus-off and raises kind 0x0B. -/
  | busOff (ctl : Nat) (tec rec : BitVec 8)
  /-- R506. After the recovery sequence the controller rejoins the bus. -/
  | busRecovery (ctl : Nat)
  /-- R506. CAN.CTRL.RECOVER starts bus-off recovery. -/
  | recover (who : Initiator) (ctl : Nat)
  /-- R507. CAN.CTRL.ABORT_TX aborts pending transmission. -/
  | abortTx (who : Initiator) (ctl : Nat)
  /-- R507. A read of FIFO_POP moves the oldest frame into the FIFO window. -/
  | fifoPop (who : Initiator) (ctl : Nat)
  /-- R511. A write to SPI TX starts a controller frame. -/
  | spiTransmit (who : Initiator) (ctl : Nat) (v : Word)
  /-- R508. An SPI frame completes and its check is applied. -/
  | spiFrameDone (ctl : Nat) (rx : Word)
  /-- R509. A host frame with CMD NOP returns status and data. -/
  | hostNop
  /-- R509. A host frame with CMD READ starts a KCB read, or is refused BUSY. -/
  | hostRead (addr : Word) (early : Bool)
  /-- R510. A host frame with CMD WRITE starts a KCB write, or is refused. -/
  | hostWrite (addr data : Word) (early : Bool)
  /-- R510. A host KCB access completes and sets its data and ERR status. -/
  | hostAccessDone
  /-- R512. A SENT fast-channel message is decoded or discarded, and short serial messages assembled. -/
  | sentFrame (input : Nat) (status : BitVec 4) (data : BitVec 24) (crc : BitVec 4) (timing : Bool) (ts : Word)
  /-- R512. No valid SENT frame for TO ms raises kind 0x05. -/
  | sentTimeout (input : Nat)
  /-- R515. GA.CTRL.START starts the conversion list. -/
  | sarStart (who : Initiator) (conv : Nat)
  /-- R514. A base tick, precise boundary or continuous trigger starts the list, or is dropped while it runs. -/
  | sarTrigger (conv : Nat) (source : Nat)
  /-- R514. A SAR conversion completes and its result is stored. -/
  | sarConversion (conv : Nat) (code : BitVec 12) (above : Bool)
  /-- R517. A sensor supply outside its window for 1 ms sets OOW and raises kind 0x06. -/
  | supplyOutOfWindow (supply : Nat) (limiting : Bool)
  /-- R517. A sensor supply at 175 C turns off and latches TSD. -/
  | thermalShutdown (supply : Nat)
  /-- R517. A write of SS_CTRL.EN switches sensor supplies and clears a thermal latch. -/
  | sensorSupplyEnable (who : Initiator) (v : Word)
  /-- R522. A mooring link comes up with lane deskew. -/
  | mooringLinkUp (port : Nat)
  /-- R522. No valid code group for 1 us declares the mooring link down. -/
  | mooringLinkLoss (port : Nat)
  /-- R522. Both links to a peer down for 100 ms declare it absent. -/
  | peerAbsent (peer : Nat)
  /-- R528. A peer's RAW frame is received and forwarded in a triple. -/
  | rawFrame (port : Nat) (crc : FrameCheck) (bytes : List Byte)
  /-- R530. AGREE_T after the boundary the agreed set is formed and published. -/
  | agreeT
  /-- R535. A peer's XCHK frame is compared bit for bit and the outcome applied. -/
  | xchkFrame (port : Nat) (crc : FrameCheck) (bytes : List Byte)
  /-- R544. A STATE frame carries snapshot blocks written into the returning unit's memory. -/
  | stateFrame (port : Nat) (crc : FrameCheck) (bytes : List Byte) (phase left : Nat)
  /-- R549. Every 10 ms each unit sends HEALTH to every peer. -/
  | healthSend
  /-- R549. A peer's HEALTH report is shown in the PEERn registers. -/
  | healthFrame (port : Nat) (crc : FrameCheck) (bytes : List Byte)
  /-- R532. A HELLO frame reports a peer's state and CONFIG_SIG. -/
  | helloFrame (port : Nat) (crc : FrameCheck) (bytes : List Byte)
  /-- R549. No HEALTH for 30 ms and no link up declares a peer lost. -/
  | peerLost (peer : Nat)
  /-- R526. Every 0.5 us while BOL_OUT is asserted a BEACON is inserted on each up mooring link. -/
  | beaconSend
  /-- R526. A BEACON ordered set from a peer is received and removed from the stream. -/
  | beacon (port rank : Nat)
  /-- R538. 1.2 us without a peer beacon lets the WG present ARM. -/
  | beaconTimeout (port : Nat)
  /-- R542. A peer line disagreeing with its beacons raises kind 0x06 and counts MISMATCH. -/
  | lineMismatch (peer : Nat)
  /-- R539. With ARM present and lines released for RANK x 5 us the Seawall asserts BOL_OUT and gives enables. -/
  | claim
  /-- R539. The 2 us claim window ends without a peer assertion and the claim stands. -/
  | claimWindowEnd
  /-- R540. A peer bollard line changes; a claim withdraws or a holding unit yields on conflict. -/
  | bolInChange (line : Nat) (asserted : Bool)
  /-- R537. 2 ms after the first mooring link-up without a beacon the unit becomes CANDIDATE. -/
  | joiningTimeout
  /-- R545. At the cut boundary the sender copies the remaining dirty blocks into the cut buffer. -/
  | snapshotCut
  /-- R547. WG.CTRL.CAUGHT_UP stops step-loading and starts counting equal signatures. -/
  | caughtUp (who : Initiator)
  /-- R548. No in-step state within 1 s of CAUGHT_UP restarts the return. -/
  | returnTimeout
  /-- R533. A write of XSWAP_MASK arms a coefficient swap in step at period XSWAP_AT. -/
  | xswapMask (who : Initiator) (v : Word)
  /-- R551. The unit holding authority without Maulo time for 10 ms enters Lee mode. -/
  | leeNoTime
  /-- R570. Tokens are granted to the head Dredge request and the page is quarantined into TEST. -/
  | tokenGrant
  /-- R567. A Dredge test ends, the page returns through BR and the tokens come back. -/
  | testEnd (page : Nat) (passed : Bool)
  /-- R568. A test still running at twice its time is ended as a failure. -/
  | testTimeout (page : Nat)
  /-- R571. DR.CTRL.ABORT_ALL aborts every running test and returns all tokens. -/
  | abortAll (who : Initiator)
  /-- R577. DR.CTRL.SWEEP starts a sweep at once. -/
  | sweep (who : Initiator)
  /-- R577. Every SWEEP_S a standby starts a sweep while AUTO = 1. -/
  | sweepTimer
  /-- R576. Every 2.5 us Dredge reads and corrects one SRAM or checker-copy word. -/
  | scrubRead (err : SecErr)
  /-- R573. The boot-window memory march ends, or fails and sends Flood to Dry dock. -/
  | marchDone (passed imageMemory : Bool)
  /-- R574. The Flood run of tests ends and FLOOD_DONE sets. -/
  | floodRunDone (us : Nat)
  /-- R584. Every 50 us each buoy is sampled and moves between normal, WARN and LIMIT. -/
  | buoySample (page buoy : Nat) (reading : BitVec 16)
  /-- R598. JTAG BYPASS instruction. -/
  | jtagBypass
  /-- R598. JTAG SAMPLE/PRELOAD instruction. -/
  | jtagSamplePreload (cells : List (Ball × Bool))
  /-- R598. JTAG EXTEST, accepted only in Dry dock and never driving the observe-only cells. -/
  | jtagExtest
  /-- R598. JTAG IDCODE returning 0x1A33_0B2D. -/
  | jtagIdcode
  /-- R143. PLL-B regains lock after a loss, so the current channels start again and PLL_STAT.LOCK returns. -/
  | pllBRelock
  /-- R295. VGDm rises above the bridge UVLO plus hysteresis, so the GB page may start again under R291. -/
  | vgdUvloRelease (bridge : Nat)
  /-- R133. The current-sense common mode is back in range for 1 us, so CM_FAULT clears and the samples stop being marked clipped. -/
  | commonModeReturn (channel : Nat)
  /-- R158. CM_FAULT that has lasted more than 10 ms raises kind 0x06 at level 1 from CSk. -/
  | cmFaultLasting (channel : Nat)
  /-- R193. In Ebb and in Flood the AON counter samples SC10 and SC11 on every AON cycle and counts the steps it finds. -/
  | aonCounterSample (levels10 levels11 : BitVec 3)
  /-- R545. The sender finishes sending one snapshot STATE frame and moves on to the next blocks; at the end of a sweep it may fix the cut period. -/
  | stateFrameSent
  deriving DecidableEq, Repr

end Sys2Proof
end

