-- ==== Sys2Proof/Decode.lean ====
section
/-!
DEFINITION. Decode.lean: the command that a table word spells. The opcode table gives no row any bits, so no word spells one.
-/
namespace Sys2Proof

/-- The command of the row whose bits are `w`, of `nbits` bits: the table gives bits to no row. -/
def decodeTableWord (_nbits _w : Nat) : Option Instr := none

end Sys2Proof
end

