-- ==== Sys2Proof/Config.lean ====
section
/-!
DEFINITION. Config.lean: what an implementation fixes and the free values: constants with no body, of which nothing can be
evaluated or proved (log entries 5 to 9).
-/
namespace Sys2Proof.Config

/-- Free values (log entry 5): the value drawn at the n-th draw of the state's counter. -/
opaque freeValue : Nat → BitVec 64

/-- Factory trim of a current channel at a gain code (R142; log entry 6): OFFSET, 24-bit signed, and GAIN, 2.22. -/
opaque trimOffset : (channel gain : Nat) → BitVec 24
opaque trimGain : (channel gain : Nat) → BitVec 24

/-- Sine and cosine of the resolver observer on binary64 patterns (R187 states no arithmetic; log entry 24). -/
opaque obsSin : Nat → Nat
opaque obsCos : Nat → Nat

/-- Sine and cosine of the engines (R205: one fixed algorithm, within 2 ulp; log entry 7), on binary32 patterns. -/
opaque fsin : Nat → Nat
opaque fcos : Nat → Nat
/-- Sine of a fraction n / d of a cycle (R273; log entry 7). -/
opaque sinTurn : (n d : Nat) → Nat
/-- The LFSR output bit of R273 by order code, seed and advance (the spec gives the polynomials, not the register's form; log
entry 8). -/
opaque prbs : (order seed step : Nat) → Bool

/-- The estimates of FRCP and FRSQ (R362: one fixed algorithm, relative error at most 2^-12; log entry 29), on binary32
patterns. -/
opaque frcp : Nat → Nat
opaque frsq : Nat → Nat

/-- The 64 most significant bits of AES-128 CMAC (R3, R455) under a key of four words; log entry 30. -/
opaque cmac : List (BitVec 32) → List (BitVec 8) → BitVec 64

/-- Fuses of a part (R116, R129): the rollback counter and revoked key slots as delivered; log entry 37. -/
opaque fuseRollback : BitVec 6
opaque fuseRevoked : BitVec 3
/-- The fuse key slot whose hash SHA-256 of a public key equals, 0 to 2; any other number for none (R116). -/
opaque keySlot : List (BitVec 8) → Nat
/-- ECDSA over P-256 verifies (R3, R116): public key, r, s, and the bytes signed. -/
opaque ecdsaOk : (key r s : List (BitVec 8)) → List (BitVec 8) → Bool
/-- The keystream word of R121 under the fused key: nonce, CTR, word 0 to 3. -/
opaque updKey : List (BitVec 32) → (ctr word : Nat) → BitVec 32

/-- The identity CSRs mvendorid, marchid, mimpid and mconfigptr (R3 leaves their values to the implementation; log entry 41). -/
opaque hartInfo : (csr : Nat) → BitVec 32

end Sys2Proof.Config
end

