-- ==== Sys2Proof/Machine/Table.lean ====
section
/-!
DEFINITION. Machine/Table.lean: sparse tables as plain data: lists of (key, value) pairs, and plain numeric helpers.
-/
namespace Sys2Proof.Machine

/-- The value a table gives a key, `d` where it lists none. -/
def tget {α : Type} (d : α) : List (Nat × α) → Nat → α
  | [], _ => d
  | (k, v) :: t, i => if k = i then v else tget d t i

/-- A table with one key's value replaced or added (keys stay in rising order where they were). -/
def tput {α : Type} : List (Nat × α) → Nat → α → List (Nat × α)
  | [], i, v => [(i, v)]
  | (k, w) :: t, i, v =>
    if k = i then (i, v) :: t
    else if i < k then (i, v) :: (k, w) :: t
    else (k, w) :: tput t i v

/-- A table without a key. -/
def tdel {α : Type} : List (Nat × α) → Nat → List (Nat × α)
  | [], _ => []
  | (k, w) :: t, i => if k = i then tdel t i else (k, w) :: tdel t i

/-- Whether a table lists a key. -/
def tmem {α : Type} : List (Nat × α) → Nat → Bool
  | [], _ => false
  | (k, _) :: t, i => k = i || tmem t i

/-- `n + 1`, staying at `m` (a counter of class S or E, R15). -/
def satInc (m n : Nat) : Nat := if n < m then n + 1 else m

/-- `n + d`, staying at `m`. -/
def satAdd (m n d : Nat) : Nat := min m (n + d)

/-- `n + 1` modulo `2^w` (a counter of class W, R15). -/
def wrapInc (w n : Nat) : Nat := (n + 1) % 2 ^ w

/-- A Bool as a bit. -/
def b2n (b : Bool) : Nat := if b then 1 else 0

/-- The signed value of the low `w` bits of `n`. -/
def sgn (w n : Nat) : Int := if n % 2 ^ w < 2 ^ (w - 1) then (n % 2 ^ w : Int) else (n % 2 ^ w : Int) - 2 ^ w

/-- The low `w` bits of a signed value, two's complement. -/
def unsgn (w : Nat) (i : Int) : Nat := (i % (2 ^ w : Int)).toNat

/-- A signed value kept in `[-2^(w-1), 2^(w-1)-1]` by saturation. -/
def satSgn (w : Nat) (i : Int) : Int := max (-(2 ^ (w - 1) : Int)) (min i (2 ^ (w - 1) - 1))

/-- A value clamped into a range. -/
def clampN (lo hi n : Nat) : Nat := if n < lo then lo else if hi < n then hi else n

/-- A signed value clamped into a range. -/
def clampI (lo hi n : Int) : Int := if n < lo then lo else if hi < n then hi else n

/-- Bits `[hi:lo]` of a natural number. -/
def bitsN (n hi lo : Nat) : Nat := n / 2 ^ lo % 2 ^ (hi + 1 - lo)

/-- One bit of a natural number. -/
def bitN (n i : Nat) : Bool := n / 2 ^ i % 2 = 1

/-- A number with bit `i` set to `b`. -/
def putBitN (n i : Nat) (b : Bool) : Nat := n - (n / 2 ^ i % 2) * 2 ^ i + b2n b * 2 ^ i

/-- A number with bits `[lo+w-1:lo]` replaced. -/
def putBitsN (n lo w v : Nat) : Nat := n - (n / 2 ^ lo % 2 ^ w) * 2 ^ lo + (v % 2 ^ w) * 2 ^ lo

/-- The low `n` bits of a number in the other order. -/
def revBits (n v : Nat) : Nat := (List.range n).foldl (fun a i => 2 * a + v / 2 ^ i % 2) 0

/-- The integer quotient rounded to nearest, ties away from zero when `d > 0`. -/
def divRoundAway (n d : Int) : Int :=
  if n < 0 then -((-n * 2 + d) / (2 * d)) else (n * 2 + d) / (2 * d)

/-- Fold a state transformer over `0 .. n-1`. -/
def forN {σ : Type} (n : Nat) (f : Nat → σ → σ) (s : σ) : σ := (List.range n).foldl (fun s i => f i s) s

/-- Fold a state transformer over a list. -/
def forL {σ α : Type} (l : List α) (f : α → σ → σ) (s : σ) : σ := l.foldl (fun s a => f a s) s

end Sys2Proof.Machine
end

