-- ==== Sys2Proof/Machine/Mem.lean ====
section
/-!
DEFINITION. Machine/Mem.lean: memory as (address, byte) pairs in one canonical form, and accesses of every width (R9, R35).
-/
namespace Sys2Proof.Machine

/-- What a byte nothing has written reads as (R56, R573: 0 after the march; log entry 3). -/
def memDefault : BitVec 8 := 0#8

/-- One byte. -/
def mget : List Host.Cell → Nat → BitVec 8
  | [], _ => memDefault
  | (k, v) :: t, a => if k = a then v else mget t a

/-- Put one byte, keeping the canonical form. -/
def mset : List Host.Cell → Nat → BitVec 8 → List Host.Cell
  | [], a, v => if v = memDefault then [] else [(a, v)]
  | (k, w) :: t, a, v =>
    if k = a then (if v = memDefault then t else (a, v) :: t)
    else if a < k then (if v = memDefault then (k, w) :: t else (a, v) :: (k, w) :: t)
    else (k, w) :: mset t a v

/-- All addresses listed lie above `a`. -/
def mAbove (a : Nat) : List Host.Cell → Bool
  | [] => true
  | (k, _) :: t => a < k && mAbove a t

/-- The canonical form: addresses strictly rising, no entry equal to the default. -/
def Memory.wf : List Host.Cell → Bool
  | [] => true
  | (k, v) :: t => v != memDefault && mAbove k t && Memory.wf t

/-- `n` bytes from `a` as one little-endian number (R9). -/
def mgetN (m : List Host.Cell) (a : Nat) : Nat → Nat
  | 0 => 0
  | n + 1 => (mget m a).toNat + 256 * mgetN m (a + 1) n

/-- Put the low `n` bytes of `v` at `a`, little-endian. -/
def msetN (m : List Host.Cell) (a : Nat) : Nat → Nat → List Host.Cell
  | 0, _ => m
  | n + 1, v => msetN (mset m a (BitVec.ofNat 8 v)) (a + 1) n (v / 256)

/-- `n` zero bytes at `a`. -/
def mzero (m : List Host.Cell) (a n : Nat) : List Host.Cell :=
  m.filter (fun c => !(decide (a ≤ c.1) && decide (c.1 < a + n)))

/-- The bytes at `a .. a + n - 1` in address order. -/
def mbytes (m : List Host.Cell) (a n : Nat) : List (BitVec 8) := (List.range n).map (fun i => mget m (a + i))

/-- Copy `n` bytes from `src` to `dst`. -/
def mcopy (m : List Host.Cell) (src dst n : Nat) : List Host.Cell :=
  (m.filter (fun c => decide (src ≤ c.1) && decide (c.1 < src + n))).foldl
    (fun acc c => mset acc (dst + (c.1 - src)) c.2) (mzero m dst n)

end Sys2Proof.Machine
end

