-- ==== Sys2Proof/Machine/RegNames.lean ====
section
/-!
DEFINITION. Machine/RegNames.lean: a name for every register and register field of the register tables (R6).
-/

namespace Sys2Proof.Machine

/-! ### SYS -/
abbrev SYS_TIDE_STAT : Field := ⟨0x040, 0, 32⟩
abbrev SYS_TIDE_STAT_FLOOD_MS : Field := ⟨0x040, 16, 8⟩
abbrev SYS_TIDE_STAT_WAKE_CAUSE : Field := ⟨0x040, 8, 4⟩
abbrev SYS_TIDE_STAT_AUTH : Field := ⟨0x040, 3, 1⟩
abbrev SYS_TIDE_STAT_TIDE : Field := ⟨0x040, 0, 3⟩
abbrev SYS_TIDE_REQ : Field := ⟨0x044, 0, 32⟩
abbrev SYS_TIDE_REQ_DRYDOCK_NEXT : Field := ⟨0x044, 1, 1⟩
abbrev SYS_TIDE_REQ_EBB : Field := ⟨0x044, 0, 1⟩
abbrev SYS_KCB_STAT : Field := ⟨0x048, 0, 32⟩
abbrev SYS_KCB_STAT_ABSENT_GROUP : Field := ⟨0x048, 24, 5⟩
abbrev SYS_KCB_STAT_ABSENT_INST : Field := ⟨0x048, 16, 5⟩
abbrev SYS_KCB_STAT_ABSENT_COUNT : Field := ⟨0x048, 8, 8⟩
abbrev SYS_KCB_STAT_WAKE_TIMEOUT : Field := ⟨0x048, 1, 1⟩
abbrev SYS_KCB_STAT_PAGE_ABSENT : Field := ⟨0x048, 0, 1⟩
abbrev SYS_GPIO_CFG : Field := ⟨0x050, 0, 32⟩
abbrev SYS_GPIO_CFG_CS : Field := ⟨0x050, 8, 8⟩
abbrev SYS_GPIO_CFG_OE : Field := ⟨0x050, 0, 8⟩
abbrev SYS_GPIO_OUT : Field := ⟨0x054, 0, 32⟩
abbrev SYS_GPIO_OUT_V : Field := ⟨0x054, 0, 8⟩
abbrev SYS_GPIO_IN : Field := ⟨0x058, 0, 32⟩
abbrev SYS_GPIO_IN_V : Field := ⟨0x058, 0, 8⟩
/-! ### AON -/
abbrev AON_AON_OSC : Field := ⟨0x040, 0, 32⟩
abbrev AON_AON_OSC_SRC : Field := ⟨0x040, 0, 1⟩
abbrev AON_AON_OSC_XTAL_OK : Field := ⟨0x040, 8, 1⟩
abbrev AON_AON_OSC_XTAL_LOSS : Field := ⟨0x040, 16, 8⟩
abbrev AON_WAKE_CFG : Field := ⟨0x044, 0, 32⟩
abbrev AON_WAKE_CFG_FILT : Field := ⟨0x044, 24, 8⟩
abbrev AON_WAKE_CFG_MAULO_EN : Field := ⟨0x044, 17, 1⟩
abbrev AON_WAKE_CFG_CAN_EN : Field := ⟨0x044, 16, 1⟩
abbrev AON_WAKE_CFG_EDGE : Field := ⟨0x044, 8, 4⟩
abbrev AON_WAKE_CFG_WAKE_EN : Field := ⟨0x044, 0, 4⟩
abbrev AON_WAKE_SRC : Field := ⟨0x048, 0, 32⟩
abbrev AON_WAKE_SRC_POR : Field := ⟨0x048, 6, 1⟩
abbrev AON_WAKE_SRC_MAULO : Field := ⟨0x048, 5, 1⟩
abbrev AON_WAKE_SRC_CAN : Field := ⟨0x048, 4, 1⟩
abbrev AON_WAKE_SRC_WAKE : Field := ⟨0x048, 0, 4⟩
abbrev AON_AON_CAL : Field := ⟨0x04C, 0, 32⟩
abbrev AON_AON_CAL_DEV : Field := ⟨0x04C, 0, 16⟩
/-! ### PLA -/
abbrev PLA_PLL_STAT : Field := ⟨0x040, 0, 32⟩
abbrev PLA_PLL_STAT_LOCK : Field := ⟨0x040, 0, 1⟩
abbrev PLA_PLL_STAT_REF_OK : Field := ⟨0x040, 1, 1⟩
abbrev PLA_PLL_STAT_DL_LOCK : Field := ⟨0x040, 2, 1⟩
abbrev PLA_PLL_STAT_BYPASS : Field := ⟨0x040, 3, 1⟩
abbrev PLA_PLL_STAT_LOSS_COUNT : Field := ⟨0x040, 8, 8⟩
abbrev PLA_XO_COUNT : Field := ⟨0x044, 0, 32⟩
abbrev PLA_XO_COUNT_N : Field := ⟨0x044, 0, 10⟩
abbrev PLA_DL_TRIM : Field := ⟨0x048, 0, 32⟩
abbrev PLA_DL_TRIM_CODE : Field := ⟨0x048, 0, 8⟩
/-! ### SUP -/
abbrev SUP_SUP_STAT : Field := ⟨0x040, 0, 32⟩
abbrev SUP_SUP_STAT_VSW_OK : Field := ⟨0x040, 9, 1⟩
abbrev SUP_SUP_STAT_VGD_FAIL : Field := ⟨0x040, 8, 1⟩
abbrev SUP_SUP_STAT_VIO33_OK : Field := ⟨0x040, 7, 1⟩
abbrev SUP_SUP_STAT_VIO18_OK : Field := ⟨0x040, 6, 1⟩
abbrev SUP_SUP_STAT_VCORE_OK : Field := ⟨0x040, 5, 1⟩
abbrev SUP_SUP_STAT_VPRE_BO : Field := ⟨0x040, 4, 1⟩
abbrev SUP_SUP_STAT_VPRE_WARN : Field := ⟨0x040, 3, 1⟩
abbrev SUP_SUP_STAT_VSUP_OV : Field := ⟨0x040, 2, 1⟩
abbrev SUP_SUP_STAT_VSUP_UV : Field := ⟨0x040, 1, 1⟩
abbrev SUP_SUP_STAT_BOOST : Field := ⟨0x040, 0, 1⟩
abbrev SUP_SUP_EVT : Field := ⟨0x044, 0, 32⟩
abbrev SUP_SUP_EVT_EV : Field := ⟨0x044, 1, 8⟩
abbrev SUP_SUP_CFG : Field := ⟨0x048, 0, 32⟩
abbrev SUP_SUP_CFG_PRE_FSW : Field := ⟨0x048, 4, 1⟩
abbrev SUP_SUP_CFG_PHASE_SPREAD : Field := ⟨0x048, 1, 1⟩
abbrev SUP_SUP_CFG_SSC_EN : Field := ⟨0x048, 0, 1⟩
abbrev SUP_VSUP_MEAS : Field := ⟨0x04C, 0, 32⟩
abbrev SUP_VSUP_MEAS_VPRE : Field := ⟨0x04C, 16, 16⟩
abbrev SUP_VSUP_MEAS_VSUP : Field := ⟨0x04C, 0, 16⟩
abbrev SUP_BO_COUNT : Field := ⟨0x050, 0, 32⟩
abbrev SUP_BO_COUNT_EXT : Field := ⟨0x050, 24, 8⟩
abbrev SUP_BO_COUNT_OV : Field := ⟨0x050, 16, 8⟩
abbrev SUP_BO_COUNT_UV : Field := ⟨0x050, 8, 8⟩
abbrev SUP_BO_COUNT_BO : Field := ⟨0x050, 0, 8⟩
abbrev SUP_RST_CAUSE : Field := ⟨0x054, 0, 32⟩
abbrev SUP_RST_CAUSE_LAST_RAIL : Field := ⟨0x054, 8, 8⟩
abbrev SUP_RST_CAUSE_UR_DBG : Field := ⟨0x054, 5, 1⟩
abbrev SUP_RST_CAUSE_UR_HM : Field := ⟨0x054, 4, 1⟩
abbrev SUP_RST_CAUSE_UR_EXT : Field := ⟨0x054, 3, 1⟩
abbrev SUP_RST_CAUSE_UR_BO : Field := ⟨0x054, 2, 1⟩
abbrev SUP_RST_CAUSE_POR_RAIL : Field := ⟨0x054, 1, 1⟩
abbrev SUP_RST_CAUSE_POR_VSUP : Field := ⟨0x054, 0, 1⟩
abbrev SUP_SS_CTRL : Field := ⟨0x058, 0, 32⟩
abbrev SUP_SS_CTRL_EN : Field := ⟨0x058, 0, 4⟩
abbrev SUP_SS_STAT : Field := ⟨0x05C, 0, 32⟩
abbrev SUP_SS_STAT_TSD : Field := ⟨0x05C, 24, 4⟩
abbrev SUP_SS_STAT_ILIM : Field := ⟨0x05C, 16, 4⟩
abbrev SUP_SS_STAT_OOW : Field := ⟨0x05C, 8, 4⟩
abbrev SUP_SS_STAT_ON : Field := ⟨0x05C, 0, 4⟩
/-! ### SEC -/
abbrev SEC_BOOT_STAT : Field := ⟨0x040, 0, 32⟩
abbrev SEC_BOOT_STAT_IMG_ROLLBACK : Field := ⟨0x040, 16, 6⟩
abbrev SEC_BOOT_STAT_KEY_SLOT : Field := ⟨0x040, 8, 2⟩
abbrev SEC_BOOT_STAT_NO_IMAGE : Field := ⟨0x040, 6, 1⟩
abbrev SEC_BOOT_STAT_FALLBACK : Field := ⟨0x040, 5, 1⟩
abbrev SEC_BOOT_STAT_TRIAL : Field := ⟨0x040, 4, 1⟩
abbrev SEC_BOOT_STAT_FAIL_B : Field := ⟨0x040, 3, 1⟩
abbrev SEC_BOOT_STAT_FAIL_A : Field := ⟨0x040, 2, 1⟩
abbrev SEC_BOOT_STAT_BANK : Field := ⟨0x040, 0, 1⟩
abbrev SEC_BANK_CTRL : Field := ⟨0x044, 0, 32⟩
abbrev SEC_BANK_CTRL_PREF : Field := ⟨0x044, 8, 1⟩
abbrev SEC_BANK_CTRL_CONFIRM : Field := ⟨0x044, 1, 1⟩
abbrev SEC_BANK_CTRL_TRY_OTHER : Field := ⟨0x044, 0, 1⟩
abbrev SEC_ROLLBACK : Field := ⟨0x048, 0, 32⟩
abbrev SEC_ROLLBACK_REVOKED : Field := ⟨0x048, 8, 3⟩
abbrev SEC_ROLLBACK_COUNT : Field := ⟨0x048, 0, 6⟩
abbrev SEC_UPD_CTRL : Field := ⟨0x04C, 0, 32⟩
abbrev SEC_UPD_CTRL_TARGET : Field := ⟨0x04C, 4, 1⟩
abbrev SEC_UPD_CTRL_CLOSE_VERIFY : Field := ⟨0x04C, 1, 1⟩
abbrev SEC_UPD_CTRL_OPEN : Field := ⟨0x04C, 0, 1⟩
abbrev SEC_UPD_NONCE : Field := ⟨0x050, 0, 32⟩
abbrev SEC_UPD_DATA : Field := ⟨0x05C, 0, 32⟩
abbrev SEC_UPD_STAT : Field := ⟨0x060, 0, 32⟩
abbrev SEC_UPD_STAT_WORDS : Field := ⟨0x060, 8, 24⟩
abbrev SEC_UPD_STAT_OVERRUN : Field := ⟨0x060, 4, 1⟩
abbrev SEC_UPD_STAT_VERIFY_FAIL : Field := ⟨0x060, 3, 1⟩
abbrev SEC_UPD_STAT_VERIFY_OK : Field := ⟨0x060, 2, 1⟩
abbrev SEC_UPD_STAT_BUSY : Field := ⟨0x060, 1, 1⟩
abbrev SEC_UPD_STAT_OPEN : Field := ⟨0x060, 0, 1⟩
/-! ### CS -/
abbrev CS_CFG : Field := ⟨0x040, 0, 32⟩
abbrev CS_CFG_TD_EXCLUDE : Field := ⟨0x040, 16, 1⟩
abbrev CS_CFG_INVERT : Field := ⟨0x040, 4, 1⟩
abbrev CS_CFG_GAIN : Field := ⟨0x040, 0, 2⟩
abbrev CS_SCALE : Field := ⟨0x044, 0, 32⟩
abbrev CS_STAT : Field := ⟨0x048, 0, 32⟩
abbrev CS_STAT_RELIEVED : Field := ⟨0x048, 4, 1⟩
abbrev CS_STAT_CALIBRATING : Field := ⟨0x048, 3, 1⟩
abbrev CS_STAT_CM_FAULT : Field := ⟨0x048, 2, 1⟩
abbrev CS_STAT_OVR : Field := ⟨0x048, 1, 1⟩
abbrev CS_STAT_STALE : Field := ⟨0x048, 0, 1⟩
abbrev CS_FAST : Field := ⟨0x04C, 0, 32⟩
abbrev CS_FAST_RELIEF : Field := ⟨0x04C, 18, 1⟩
abbrev CS_FAST_CLIP : Field := ⟨0x04C, 17, 1⟩
abbrev CS_FAST_STALE : Field := ⟨0x04C, 16, 1⟩
abbrev CS_FAST_CODE : Field := ⟨0x04C, 0, 16⟩
abbrev CS_PRECISE : Field := ⟨0x050, 0, 32⟩
abbrev CS_PRECISE_RELIEF : Field := ⟨0x050, 26, 1⟩
abbrev CS_PRECISE_CLIP : Field := ⟨0x050, 25, 1⟩
abbrev CS_PRECISE_STALE : Field := ⟨0x050, 24, 1⟩
abbrev CS_PRECISE_CODE : Field := ⟨0x050, 0, 24⟩
abbrev CS_AMPS : Field := ⟨0x054, 0, 32⟩
abbrev CS_OFFSET : Field := ⟨0x058, 0, 32⟩
abbrev CS_GAIN : Field := ⟨0x05C, 0, 32⟩
abbrev CS_GAIN_V : Field := ⟨0x05C, 0, 24⟩
abbrev CS_CNT : Field := ⟨0x060, 0, 32⟩
abbrev CS_CNT_REJECT : Field := ⟨0x060, 24, 8⟩
abbrev CS_CNT_ABORT : Field := ⟨0x060, 16, 8⟩
abbrev CS_CNT_OVR : Field := ⟨0x060, 0, 16⟩
abbrev CS_CAL : Field := ⟨0x064, 0, 32⟩
abbrev CS_CAL_AGE : Field := ⟨0x064, 16, 16⟩
abbrev CS_CAL_COUNT : Field := ⟨0x064, 0, 16⟩
/-! ### CST -/
abbrev CST_CFG : Field := ⟨0x040, 0, 32⟩
abbrev CST_CFG_INVERT : Field := ⟨0x040, 4, 1⟩
abbrev CST_CFG_GAIN : Field := ⟨0x040, 0, 2⟩
abbrev CST_SCALE : Field := ⟨0x044, 0, 32⟩
abbrev CST_STAT : Field := ⟨0x048, 0, 32⟩
abbrev CST_STAT_RELIEVED : Field := ⟨0x048, 4, 1⟩
abbrev CST_STAT_CALIBRATING : Field := ⟨0x048, 3, 1⟩
abbrev CST_STAT_CM_FAULT : Field := ⟨0x048, 2, 1⟩
abbrev CST_STAT_OVR : Field := ⟨0x048, 1, 1⟩
abbrev CST_STAT_STALE : Field := ⟨0x048, 0, 1⟩
abbrev CST_FAST : Field := ⟨0x04C, 0, 32⟩
abbrev CST_FAST_RELIEF : Field := ⟨0x04C, 18, 1⟩
abbrev CST_FAST_CLIP : Field := ⟨0x04C, 17, 1⟩
abbrev CST_FAST_STALE : Field := ⟨0x04C, 16, 1⟩
abbrev CST_FAST_CODE : Field := ⟨0x04C, 0, 16⟩
abbrev CST_PRECISE : Field := ⟨0x050, 0, 32⟩
abbrev CST_PRECISE_RELIEF : Field := ⟨0x050, 26, 1⟩
abbrev CST_PRECISE_CLIP : Field := ⟨0x050, 25, 1⟩
abbrev CST_PRECISE_STALE : Field := ⟨0x050, 24, 1⟩
abbrev CST_PRECISE_CODE : Field := ⟨0x050, 0, 24⟩
abbrev CST_AMPS : Field := ⟨0x054, 0, 32⟩
abbrev CST_OFFSET : Field := ⟨0x058, 0, 32⟩
abbrev CST_GAIN : Field := ⟨0x05C, 0, 32⟩
abbrev CST_GAIN_V : Field := ⟨0x05C, 0, 24⟩
abbrev CST_CNT : Field := ⟨0x060, 0, 32⟩
abbrev CST_CNT_REJECT : Field := ⟨0x060, 24, 8⟩
abbrev CST_CNT_ABORT : Field := ⟨0x060, 16, 8⟩
abbrev CST_CNT_OVR : Field := ⟨0x060, 0, 16⟩
abbrev CST_CAL : Field := ⟨0x064, 0, 32⟩
abbrev CST_CAL_AGE : Field := ⟨0x064, 16, 16⟩
abbrev CST_CAL_COUNT : Field := ⟨0x064, 0, 16⟩
abbrev CST_TD_CTRL : Field := ⟨0x080, 0, 32⟩
abbrev CST_TD_CTRL_EMERG_EN : Field := ⟨0x080, 1, 1⟩
abbrev CST_TD_CTRL_ROT_EN : Field := ⟨0x080, 0, 1⟩
abbrev CST_TD_REQ : Field := ⟨0x084, 0, 32⟩
abbrev CST_TD_REQ_REQ : Field := ⟨0x084, 8, 1⟩
abbrev CST_TD_REQ_CH : Field := ⟨0x084, 0, 5⟩
abbrev CST_TD_TIME : Field := ⟨0x088, 0, 32⟩
abbrev CST_TD_TIME_SETTLE : Field := ⟨0x088, 16, 8⟩
abbrev CST_TD_TIME_PERIOD : Field := ⟨0x088, 0, 16⟩
abbrev CST_TD_LIMIT : Field := ⟨0x08C, 0, 32⟩
abbrev CST_TD_LIMIT_NCAL : Field := ⟨0x08C, 16, 16⟩
abbrev CST_TD_LIMIT_OFS_LIM : Field := ⟨0x08C, 12, 4⟩
abbrev CST_TD_LIMIT_GAIN_LIM : Field := ⟨0x08C, 8, 4⟩
abbrev CST_TD_LIMIT_WINDOW : Field := ⟨0x08C, 0, 8⟩
abbrev CST_TD_STAT : Field := ⟨0x090, 0, 32⟩
abbrev CST_TD_STAT_MAXDIFF : Field := ⟨0x090, 16, 8⟩
abbrev CST_TD_STAT_REQ_IGNORED : Field := ⟨0x090, 15, 1⟩
abbrev CST_TD_STAT_REF_SUSPECT : Field := ⟨0x090, 14, 1⟩
abbrev CST_TD_STAT_EMERG : Field := ⟨0x090, 13, 1⟩
abbrev CST_TD_STAT_REQ_PENDING : Field := ⟨0x090, 12, 1⟩
abbrev CST_TD_STAT_PHASE : Field := ⟨0x090, 8, 3⟩
abbrev CST_TD_STAT_CH : Field := ⟨0x090, 0, 5⟩
abbrev CST_TD_CNT : Field := ⟨0x094, 0, 32⟩
abbrev CST_TD_CNT_ABORTS : Field := ⟨0x094, 16, 16⟩
abbrev CST_TD_CNT_SWAPS : Field := ⟨0x094, 0, 16⟩
abbrev CST_TD_REF : Field := ⟨0x098, 0, 32⟩
abbrev CST_TD_REF_V : Field := ⟨0x098, 0, 16⟩
/-! ### SC -/
abbrev SC_MODE : Field := ⟨0x040, 0, 32⟩
abbrev SC_MODE_DIR_INV : Field := ⟨0x040, 8, 1⟩
abbrev SC_MODE_MODE : Field := ⟨0x040, 0, 4⟩
abbrev SC_FILT : Field := ⟨0x044, 0, 32⟩
abbrev SC_FILT_FCLK : Field := ⟨0x044, 8, 2⟩
abbrev SC_FILT_N : Field := ⟨0x044, 0, 8⟩
abbrev SC_GEOM : Field := ⟨0x048, 0, 32⟩
abbrev SC_GEOM_PP : Field := ⟨0x048, 27, 5⟩
abbrev SC_GEOM_CPR : Field := ⟨0x048, 0, 25⟩
abbrev SC_EOFS : Field := ⟨0x04C, 0, 32⟩
abbrev SC_ZCFG : Field := ⟨0x050, 0, 32⟩
abbrev SC_ZCFG_ZMODE : Field := ⟨0x050, 30, 2⟩
abbrev SC_ZCFG_ZGATE : Field := ⟨0x050, 28, 2⟩
abbrev SC_ZCFG_ZTOL : Field := ⟨0x050, 24, 4⟩
abbrev SC_ZCFG_Z_OFS : Field := ⟨0x050, 0, 24⟩
abbrev SC_SPDCFG : Field := ⟨0x054, 0, 32⟩
abbrev SC_SPDCFG_XOVER : Field := ⟨0x054, 16, 16⟩
abbrev SC_SPDCFG_SPAN : Field := ⟨0x054, 8, 4⟩
abbrev SC_SPDCFG_TWIN : Field := ⟨0x054, 0, 8⟩
abbrev SC_STILL : Field := ⟨0x058, 0, 32⟩
abbrev SC_STILL_TIMEOUT : Field := ⟨0x058, 0, 11⟩
abbrev SC_FRAME : Field := ⟨0x05C, 0, 32⟩
abbrev SC_FRAME_SRC : Field := ⟨0x05C, 28, 4⟩
abbrev SC_FRAME_GRAY : Field := ⟨0x05C, 27, 1⟩
abbrev SC_FRAME_PAR : Field := ⟨0x05C, 26, 1⟩
abbrev SC_FRAME_SENTFMT : Field := ⟨0x05C, 24, 2⟩
abbrev SC_FRAME_WIDTH : Field := ⟨0x05C, 19, 5⟩
abbrev SC_FRAME_LSB : Field := ⟨0x05C, 14, 5⟩
abbrev SC_FRAME_FLEN : Field := ⟨0x05C, 8, 6⟩
abbrev SC_FRAME_CLKDIV : Field := ⟨0x05C, 0, 8⟩
abbrev SC_TIMING : Field := ⟨0x060, 0, 32⟩
abbrev SC_TIMING_RXDLY : Field := ⟨0x060, 24, 8⟩
abbrev SC_TIMING_LAT : Field := ⟨0x060, 16, 8⟩
abbrev SC_TIMING_LEAD : Field := ⟨0x060, 8, 8⟩
abbrev SC_TIMING_FTO : Field := ⟨0x060, 0, 8⟩
abbrev SC_RSLV : Field := ⟨0x064, 0, 32⟩
abbrev SC_RSLV_RPP : Field := ⟨0x064, 28, 4⟩
abbrev SC_RSLV_EXC : Field := ⟨0x064, 24, 1⟩
abbrev SC_RSLV_BW : Field := ⟨0x064, 16, 8⟩
abbrev SC_RSLV_AMIN : Field := ⟨0x064, 8, 8⟩
abbrev SC_RSLV_AMAX : Field := ⟨0x064, 0, 8⟩
abbrev SC_SLACK : Field := ⟨0x068, 0, 32⟩
abbrev SC_SLACK_SLK_EN : Field := ⟨0x068, 31, 1⟩
abbrev SC_SLACK_SS : Field := ⟨0x068, 28, 2⟩
abbrev SC_SLACK_TON : Field := ⟨0x068, 16, 8⟩
abbrev SC_SLACK_PER : Field := ⟨0x068, 0, 16⟩
abbrev SC_STAT : Field := ⟨0x080, 0, 32⟩
abbrev SC_STAT_POS_VALID : Field := ⟨0x080, 9, 1⟩
abbrev SC_STAT_DIR : Field := ⟨0x080, 8, 1⟩
abbrev SC_STAT_SRC : Field := ⟨0x080, 7, 1⟩
abbrev SC_STAT_STILL : Field := ⟨0x080, 6, 1⟩
abbrev SC_STAT_OLD : Field := ⟨0x080, 5, 1⟩
abbrev SC_STAT_LOS : Field := ⟨0x080, 4, 1⟩
abbrev SC_STAT_LOT : Field := ⟨0x080, 3, 1⟩
abbrev SC_STAT_STALE : Field := ⟨0x080, 0, 1⟩
abbrev SC_POS : Field := ⟨0x084, 0, 32⟩
abbrev SC_REV : Field := ⟨0x088, 0, 32⟩
abbrev SC_ANGLE : Field := ⟨0x08C, 0, 32⟩
abbrev SC_ANGLE_V : Field := ⟨0x08C, 0, 25⟩
abbrev SC_SPEED : Field := ⟨0x090, 0, 32⟩
abbrev SC_ANGLE_M : Field := ⟨0x094, 0, 32⟩
abbrev SC_ANGLE_E : Field := ⟨0x098, 0, 32⟩
abbrev SC_EDGE_TS : Field := ⟨0x09C, 0, 32⟩
abbrev SC_LATCH_TS : Field := ⟨0x0A0, 0, 32⟩
abbrev SC_ERRCNT : Field := ⟨0x0A4, 0, 32⟩
abbrev SC_ERRCNT_GLITCH : Field := ⟨0x0A4, 24, 8⟩
abbrev SC_ERRCNT_ZERR : Field := ⟨0x0A4, 16, 8⟩
abbrev SC_ERRCNT_DERR : Field := ⟨0x0A4, 0, 16⟩
abbrev SC_SLACK_POS : Field := ⟨0x0A8, 0, 32⟩
abbrev SC_SLACK_STAT : Field := ⟨0x0AC, 0, 32⟩
abbrev SC_SLACK_STAT_MISSED : Field := ⟨0x0AC, 16, 8⟩
abbrev SC_SLACK_STAT_ACTIVE : Field := ⟨0x0AC, 2, 1⟩
abbrev SC_SLACK_STAT_LOST : Field := ⟨0x0AC, 1, 1⟩
abbrev SC_SLACK_STAT_VALID : Field := ⟨0x0AC, 0, 1⟩
/-! ### SX -/
abbrev SX_EXC : Field := ⟨0x040, 0, 32⟩
abbrev SX_EXC_EN1 : Field := ⟨0x040, 31, 1⟩
abbrev SX_EXC_EN0 : Field := ⟨0x040, 30, 1⟩
abbrev SX_EXC_AMP1 : Field := ⟨0x040, 16, 8⟩
abbrev SX_EXC_AMP0 : Field := ⟨0x040, 8, 8⟩
abbrev SX_EXC_FREQ : Field := ⟨0x040, 0, 8⟩
abbrev SX_EXC_STAT : Field := ⟨0x044, 0, 32⟩
abbrev SX_EXC_STAT_FAIL1 : Field := ⟨0x044, 17, 1⟩
abbrev SX_EXC_STAT_FAIL0 : Field := ⟨0x044, 16, 1⟩
abbrev SX_EXC_STAT_FREQ_MEAS : Field := ⟨0x044, 0, 16⟩
/-! ### CE -/
abbrev CE_CFG : Field := ⟨0x040, 0, 32⟩
abbrev CE_CFG_PAIR_TMO : Field := ⟨0x040, 16, 16⟩
abbrev CE_CFG_PAIR : Field := ⟨0x040, 8, 1⟩
abbrev CE_CTRL : Field := ⟨0x044, 0, 32⟩
abbrev CE_CTRL_GO : Field := ⟨0x044, 0, 1⟩
abbrev CE_STAT : Field := ⟨0x048, 0, 32⟩
abbrev CE_STAT_CHECK : Field := ⟨0x048, 24, 8⟩
abbrev CE_STAT_CHECK_OP : Field := ⟨0x048, 16, 8⟩
abbrev CE_STAT_OLDBANK_OPEN : Field := ⟨0x048, 12, 1⟩
abbrev CE_STAT_OPEN : Field := ⟨0x048, 8, 4⟩
abbrev CE_STAT_RELEASED : Field := ⟨0x048, 4, 4⟩
abbrev CE_TICK_CFG : Field := ⟨0x04C, 0, 32⟩
abbrev CE_TICK_CFG_SYNC : Field := ⟨0x04C, 31, 1⟩
abbrev CE_TICK_CFG_PHASE : Field := ⟨0x04C, 16, 10⟩
abbrev CE_TICK_CFG_PERIOD : Field := ⟨0x04C, 0, 8⟩
abbrev CE_TICKNO : Field := ⟨0x050, 0, 32⟩
abbrev CE_TICK_SKIP : Field := ⟨0x054, 0, 32⟩
abbrev CE_TICK_SKIP_RESYNCS : Field := ⟨0x054, 24, 8⟩
abbrev CE_TICK_SKIP_FREE : Field := ⟨0x054, 8, 1⟩
abbrev CE_TICK_SKIP_MERGED : Field := ⟨0x054, 0, 8⟩
abbrev CE_GRP_SCHED : Field := ⟨0x060, 0, 32⟩
abbrev CE_GRP_SCHED_EN : Field := ⟨0x060, 31, 1⟩
abbrev CE_GRP_SCHED_PHASE : Field := ⟨0x060, 8, 8⟩
abbrev CE_GRP_SCHED_N : Field := ⟨0x060, 0, 8⟩
abbrev CE_GRP_RANGE : Field := ⟨0x064, 0, 32⟩
abbrev CE_GRP_RANGE_END : Field := ⟨0x064, 8, 8⟩
abbrev CE_GRP_RANGE_START : Field := ⟨0x064, 0, 8⟩
abbrev CE_GRP_TIME : Field := ⟨0x080, 0, 32⟩
abbrev CE_GRP_TIME_WCET : Field := ⟨0x080, 16, 16⟩
abbrev CE_GRP_TIME_LAST : Field := ⟨0x080, 0, 16⟩
abbrev CE_GRP_CNT : Field := ⟨0x084, 0, 32⟩
abbrev CE_GRP_CNT_ABANDON : Field := ⟨0x084, 16, 16⟩
abbrev CE_GRP_CNT_LATE : Field := ⟨0x084, 0, 16⟩
abbrev CE_GRP_FLAGS : Field := ⟨0x088, 0, 32⟩
abbrev CE_GRP_FLAGS_CONS_ABND : Field := ⟨0x088, 24, 2⟩
abbrev CE_GRP_FLAGS_CONS_LATE : Field := ⟨0x088, 20, 2⟩
abbrev CE_GRP_FLAGS_STALE_SEEN : Field := ⟨0x088, 8, 1⟩
abbrev CE_GRP_FLAGS_NF : Field := ⟨0x088, 4, 1⟩
abbrev CE_GRP_FLAGS_UF : Field := ⟨0x088, 3, 1⟩
abbrev CE_GRP_FLAGS_OF : Field := ⟨0x088, 2, 1⟩
abbrev CE_GRP_FLAGS_DZ : Field := ⟨0x088, 1, 1⟩
abbrev CE_GRP_FLAGS_NV : Field := ⟨0x088, 0, 1⟩
abbrev CE_LINK : Field := ⟨0x0C0, 0, 32⟩
abbrev CE_LINK_TYPE : Field := ⟨0x0C0, 28, 4⟩
abbrev CE_LINK_SRC : Field := ⟨0x0C0, 0, 28⟩
abbrev CE_X : Field := ⟨0x140, 0, 32⟩
abbrev CE_XMASK : Field := ⟨0x1C0, 0, 32⟩
abbrev CE_OUT : Field := ⟨0x200, 0, 32⟩
abbrev CE_REF : Field := ⟨0x280, 0, 32⟩
abbrev CE_C : Field := ⟨0x400, 0, 32⟩
/-! ### HL -/
abbrev HL_CFG : Field := ⟨0x040, 0, 32⟩
abbrev HL_CFG_BAND_AUTO : Field := ⟨0x040, 18, 1⟩
abbrev HL_CFG_PLACE_EN : Field := ⟨0x040, 17, 1⟩
abbrev HL_CFG_PRED_EN : Field := ⟨0x040, 16, 1⟩
abbrev HL_CFG_SETTLE : Field := ⟨0x040, 8, 5⟩
abbrev HL_CFG_SH : Field := ⟨0x040, 4, 3⟩
abbrev HL_CFG_KSH : Field := ⟨0x040, 0, 4⟩
abbrev HL_PRED : Field := ⟨0x044, 0, 32⟩
abbrev HL_PRED_ZC : Field := ⟨0x044, 16, 8⟩
abbrev HL_PRED_TGATE : Field := ⟨0x044, 0, 8⟩
abbrev HL_COAST : Field := ⟨0x048, 0, 32⟩
abbrev HL_COAST_LIMIT : Field := ⟨0x048, 0, 5⟩
abbrev HL_ERRLIM : Field := ⟨0x04C, 0, 32⟩
abbrev HL_ERRLIM_ERRT : Field := ⟨0x04C, 24, 8⟩
abbrev HL_ERRLIM_LIM : Field := ⟨0x04C, 0, 16⟩
abbrev HL_BAND : Field := ⟨0x080, 0, 32⟩
abbrev HL_BAND_HMAX : Field := ⟨0x080, 16, 16⟩
abbrev HL_BAND_HMIN : Field := ⟨0x080, 0, 16⟩
abbrev HL_HINIT : Field := ⟨0x084, 0, 32⟩
abbrev HL_HINIT_V : Field := ⟨0x084, 0, 16⟩
abbrev HL_STAT : Field := ⟨0x0C0, 0, 32⟩
abbrev HL_STAT_H : Field := ⟨0x0C0, 16, 16⟩
abbrev HL_STAT_LEG : Field := ⟨0x0C0, 10, 2⟩
abbrev HL_STAT_SUBST : Field := ⟨0x0C0, 9, 1⟩
abbrev HL_STAT_COAST : Field := ⟨0x0C0, 8, 1⟩
abbrev HL_STAT_LOWF : Field := ⟨0x0C0, 4, 1⟩
abbrev HL_STAT_BAND_MIN : Field := ⟨0x0C0, 3, 1⟩
abbrev HL_STAT_BAND_MAX : Field := ⟨0x0C0, 2, 1⟩
abbrev HL_STAT_REFUSING : Field := ⟨0x0C0, 1, 1⟩
abbrev HL_REFC : Field := ⟨0x0C4, 0, 32⟩
abbrev HL_REFC_REF_STALE : Field := ⟨0x0C4, 16, 1⟩
abbrev HL_REFC_R : Field := ⟨0x0C4, 0, 16⟩
abbrev HL_PERIOD : Field := ⟨0x0C8, 0, 32⟩
abbrev HL_PERIOD_PEAK : Field := ⟨0x0C8, 16, 16⟩
abbrev HL_PERIOD_T : Field := ⟨0x0C8, 0, 16⟩
abbrev HL_SLOPE : Field := ⟨0x0CC, 0, 32⟩
abbrev HL_SLOPE_S_HIGH : Field := ⟨0x0CC, 16, 16⟩
abbrev HL_SLOPE_S_LOW : Field := ⟨0x0CC, 0, 16⟩
abbrev HL_CNT : Field := ⟨0x0D0, 0, 32⟩
abbrev HL_CNT_REFUSED : Field := ⟨0x0D0, 16, 16⟩
abbrev HL_CNT_COASTED : Field := ⟨0x0D0, 0, 16⟩
abbrev HL_CNT2 : Field := ⟨0x0D4, 0, 32⟩
abbrev HL_CNT2_LOWF : Field := ⟨0x0D4, 16, 16⟩
abbrev HL_CNT2_ERRRUNS : Field := ⟨0x0D4, 0, 8⟩
abbrev HL_EDGES : Field := ⟨0x0D8, 0, 32⟩
abbrev HL_EDGES_N : Field := ⟨0x0D8, 0, 32⟩
/-! ### HC -/
abbrev HC_CFG : Field := ⟨0x040, 0, 32⟩
abbrev HC_CFG_SPREAD : Field := ⟨0x040, 16, 11⟩
abbrev HC_CFG_ZHOLD : Field := ⟨0x040, 8, 8⟩
abbrev HC_CFG_MAXE : Field := ⟨0x040, 5, 2⟩
abbrev HC_CFG_ZSWAP : Field := ⟨0x040, 4, 1⟩
abbrev HC_CFG_ZMODE : Field := ⟨0x040, 0, 2⟩
abbrev HC_FWIN : Field := ⟨0x080, 0, 32⟩
abbrev HC_FWIN_FMAX : Field := ⟨0x080, 20, 10⟩
abbrev HC_FWIN_FTGT : Field := ⟨0x080, 10, 10⟩
abbrev HC_FWIN_FMIN : Field := ⟨0x080, 0, 10⟩
abbrev HC_STAT : Field := ⟨0x0C0, 0, 32⟩
abbrev HC_STAT_DEFERRED : Field := ⟨0x0C0, 16, 3⟩
abbrev HC_STAT_SWAP_BUSY : Field := ⟨0x0C0, 8, 1⟩
abbrev HC_STAT_VEC : Field := ⟨0x0C0, 0, 3⟩
abbrev HC_CNT : Field := ⟨0x0C4, 0, 32⟩
abbrev HC_CNT_DEFER : Field := ⟨0x0C4, 16, 16⟩
abbrev HC_CNT_ZSUB : Field := ⟨0x0C4, 0, 16⟩
abbrev HC_ZSWAPS : Field := ⟨0x0C8, 0, 32⟩
abbrev HC_ZSWAPS_N : Field := ⟨0x0C8, 0, 32⟩
abbrev HC_TMIN : Field := ⟨0x0CC, 0, 32⟩
abbrev HC_TMIN_V : Field := ⟨0x0CC, 0, 24⟩
/-! ### SW -/
abbrev SW_CMD : Field := ⟨0x040, 0, 32⟩
abbrev SW_CMD_RESUME : Field := ⟨0x040, 8, 4⟩
abbrev SW_CMD_CLEAR : Field := ⟨0x040, 0, 4⟩
abbrev SW_RESTORE : Field := ⟨0x044, 0, 32⟩
abbrev SW_RESTORE_V : Field := ⟨0x044, 0, 4⟩
abbrev SW_TBL_CFG : Field := ⟨0x080, 0, 32⟩
abbrev SW_TBL_CFG_USE : Field := ⟨0x080, 31, 1⟩
abbrev SW_TBL_CFG_LRN : Field := ⟨0x080, 30, 1⟩
abbrev SW_TBL_CFG_GUARD_ZERO : Field := ⟨0x080, 29, 1⟩
abbrev SW_TBL_CFG_TEACH : Field := ⟨0x080, 24, 2⟩
abbrev SW_TBL_CFG_SPD_SC : Field := ⟨0x080, 16, 4⟩
abbrev SW_TBL_CFG_LEAD : Field := ⟨0x080, 0, 10⟩
abbrev SW_TBL_GAIN : Field := ⟨0x084, 0, 32⟩
abbrev SW_TBL_LAMBDA : Field := ⟨0x088, 0, 32⟩
abbrev SW_TBL_ALPHA : Field := ⟨0x08C, 0, 32⟩
abbrev SW_TBL_WMIN : Field := ⟨0x090, 0, 32⟩
abbrev SW_TBL_WMAX : Field := ⟨0x094, 0, 32⟩
abbrev SW_TBL_SPD_MUL : Field := ⟨0x098, 0, 32⟩
abbrev SW_TBL_RMSLIM : Field := ⟨0x09C, 0, 32⟩
abbrev SW_TBL_BMAX : Field := ⟨0x0A0, 0, 32⟩
abbrev SW_TBL_TAG : Field := ⟨0x0A4, 0, 32⟩
abbrev SW_TBL_TAG_V : Field := ⟨0x0A4, 0, 16⟩
abbrev SW_TBL_STAT : Field := ⟨0x0A8, 0, 32⟩
abbrev SW_TBL_STAT_GUARD : Field := ⟨0x0A8, 2, 1⟩
abbrev SW_TBL_STAT_FROZEN : Field := ⟨0x0A8, 1, 1⟩
abbrev SW_TBL_STAT_LEARNED : Field := ⟨0x0A8, 0, 1⟩
abbrev SW_TBL_RMS : Field := ⟨0x0AC, 0, 32⟩
abbrev SW_TBL_UPDATES : Field := ⟨0x0B0, 0, 32⟩
abbrev SW_TBL_UPDATES_N : Field := ⟨0x0B0, 0, 32⟩
abbrev SW_TBL_CNT : Field := ⟨0x0B4, 0, 32⟩
abbrev SW_TBL_CNT_FROZEN : Field := ⟨0x0B4, 16, 16⟩
abbrev SW_TBL_CNT_IGNORED : Field := ⟨0x0B4, 8, 8⟩
abbrev SW_TBL_CNT_CLAMPED : Field := ⟨0x0B4, 0, 8⟩
/-! ### IJ -/
abbrev IJ_CFG : Field := ⟨0x040, 0, 32⟩
abbrev IJ_CFG_WAVE : Field := ⟨0x040, 0, 3⟩
abbrev IJ_CMD : Field := ⟨0x044, 0, 32⟩
abbrev IJ_CMD_STOP : Field := ⟨0x044, 1, 1⟩
abbrev IJ_CMD_ARM : Field := ⟨0x044, 0, 1⟩
abbrev IJ_AMP : Field := ⟨0x048, 0, 32⟩
abbrev IJ_LIMIT : Field := ⟨0x04C, 0, 32⟩
abbrev IJ_POINTS : Field := ⟨0x050, 0, 32⟩
abbrev IJ_POINTS_V : Field := ⟨0x050, 0, 16⟩
abbrev IJ_START_TICK : Field := ⟨0x054, 0, 32⟩
abbrev IJ_DUR : Field := ⟨0x058, 0, 32⟩
abbrev IJ_DUR_N : Field := ⟨0x058, 0, 24⟩
abbrev IJ_PAR : Field := ⟨0x05C, 0, 32⟩
abbrev IJ_MSC : Field := ⟨0x080, 0, 32⟩
abbrev IJ_MSC_HARM : Field := ⟨0x080, 24, 8⟩
abbrev IJ_MSC_WEIGHT : Field := ⟨0x080, 16, 8⟩
abbrev IJ_MSC_PHASE : Field := ⟨0x080, 0, 16⟩
abbrev IJ_STAT : Field := ⟨0x0C0, 0, 32⟩
abbrev IJ_STAT_ABORTED : Field := ⟨0x0C0, 9, 1⟩
abbrev IJ_STAT_LATE_START : Field := ⟨0x0C0, 8, 1⟩
abbrev IJ_STAT_GEN : Field := ⟨0x0C0, 0, 2⟩
abbrev IJ_SAMPLE : Field := ⟨0x0C4, 0, 32⟩
abbrev IJ_ELAPSED : Field := ⟨0x0C8, 0, 32⟩
abbrev IJ_ELAPSED_N : Field := ⟨0x0C8, 0, 24⟩
/-! ### CP -/
abbrev CP_SEGMAP : Field := ⟨0x040, 0, 32⟩
abbrev CP_POOL : Field := ⟨0x060, 0, 32⟩
abbrev CP_POOL_FREE : Field := ⟨0x060, 16, 7⟩
abbrev CP_REFUSED : Field := ⟨0x064, 0, 32⟩
abbrev CP_REFUSED_N : Field := ⟨0x064, 0, 16⟩
abbrev CP_CAP_CFG : Field := ⟨0x080, 0, 32⟩
abbrev CP_CAP_CFG_DEC : Field := ⟨0x080, 24, 8⟩
abbrev CP_CAP_CFG_CHMASK : Field := ⟨0x080, 16, 8⟩
abbrev CP_CAP_CFG_GRP : Field := ⟨0x080, 12, 2⟩
abbrev CP_CAP_CFG_TCH : Field := ⟨0x080, 8, 3⟩
abbrev CP_CAP_CFG_TRIG : Field := ⟨0x080, 4, 2⟩
abbrev CP_CAP_TLEVEL : Field := ⟨0x084, 0, 32⟩
abbrev CP_CAP_TSRC : Field := ⟨0x088, 0, 32⟩
abbrev CP_CAP_TSRC_TLVL : Field := ⟨0x088, 12, 2⟩
abbrev CP_CAP_TSRC_SRC : Field := ⟨0x088, 0, 10⟩
abbrev CP_CAP_PRE : Field := ⟨0x08C, 0, 32⟩
abbrev CP_CAP_PRE_N : Field := ⟨0x08C, 0, 17⟩
abbrev CP_CAP_CMD : Field := ⟨0x090, 0, 32⟩
abbrev CP_CAP_CMD_NSEG : Field := ⟨0x090, 8, 7⟩
abbrev CP_CAP_CMD_RELEASE : Field := ⟨0x090, 3, 1⟩
abbrev CP_CAP_CMD_FORCE : Field := ⟨0x090, 2, 1⟩
abbrev CP_CAP_CMD_ARM : Field := ⟨0x090, 1, 1⟩
abbrev CP_CAP_CMD_CLAIM : Field := ⟨0x090, 0, 1⟩
abbrev CP_CAP_STAT : Field := ⟨0x094, 0, 32⟩
abbrev CP_CAP_STAT_NSEG : Field := ⟨0x094, 16, 7⟩
abbrev CP_CAP_STAT_PRE_SHORT : Field := ⟨0x094, 10, 1⟩
abbrev CP_CAP_STAT_CUT : Field := ⟨0x094, 9, 1⟩
abbrev CP_CAP_STAT_REFUSED : Field := ⟨0x094, 8, 1⟩
abbrev CP_CAP_STAT_STATE : Field := ⟨0x094, 0, 3⟩
abbrev CP_CAP_SEGLO : Field := ⟨0x098, 0, 32⟩
abbrev CP_CAP_SEGHI : Field := ⟨0x09C, 0, 32⟩
abbrev CP_CAP_CAP : Field := ⟨0x0A0, 0, 32⟩
abbrev CP_CAP_CAP_SIZE : Field := ⟨0x0A0, 24, 4⟩
abbrev CP_CAP_CAP_N : Field := ⟨0x0A0, 0, 17⟩
abbrev CP_CAP_TRIGREC : Field := ⟨0x0A4, 0, 32⟩
abbrev CP_CAP_TRIGREC_N : Field := ⟨0x0A4, 0, 17⟩
abbrev CP_CAP_FIRST : Field := ⟨0x0A8, 0, 32⟩
abbrev CP_CAP_FIRST_N : Field := ⟨0x0A8, 0, 17⟩
abbrev CP_CAP_COUNT : Field := ⟨0x0AC, 0, 32⟩
abbrev CP_CAP_COUNT_N : Field := ⟨0x0AC, 0, 32⟩
/-! ### GL -/
abbrev GL_DRV : Field := ⟨0x040, 0, 32⟩
abbrev GL_DRV_SOFT : Field := ⟨0x040, 16, 4⟩
abbrev GL_DRV_SNK_HS : Field := ⟨0x040, 12, 4⟩
abbrev GL_DRV_SRC_HS : Field := ⟨0x040, 8, 4⟩
abbrev GL_DRV_SNK_LS : Field := ⟨0x040, 4, 4⟩
abbrev GL_DRV_SRC_LS : Field := ⟨0x040, 0, 4⟩
abbrev GL_DT : Field := ⟨0x044, 0, 32⟩
abbrev GL_DT_V : Field := ⟨0x044, 0, 11⟩
abbrev GL_DIDT : Field := ⟨0x048, 0, 32⟩
abbrev GL_DIDT_HS_EN : Field := ⟨0x048, 31, 1⟩
abbrev GL_DIDT_LS_EN : Field := ⟨0x048, 30, 1⟩
abbrev GL_DIDT_TH : Field := ⟨0x048, 8, 5⟩
abbrev GL_DIDT_BLANK : Field := ⟨0x048, 0, 6⟩
abbrev GL_VDS : Field := ⟨0x04C, 0, 32⟩
abbrev GL_VDS_EN : Field := ⟨0x04C, 31, 1⟩
abbrev GL_VDS_TH : Field := ⟨0x04C, 8, 5⟩
abbrev GL_VDS_BLANK : Field := ⟨0x04C, 0, 6⟩
abbrev GL_BOOT : Field := ⟨0x050, 0, 32⟩
abbrev GL_BOOT_KEEP_EN : Field := ⟨0x050, 31, 1⟩
abbrev GL_BOOT_UV_TH : Field := ⟨0x050, 24, 4⟩
abbrev GL_BOOT_MAXHIGH : Field := ⟨0x050, 12, 10⟩
abbrev GL_BOOT_RFW : Field := ⟨0x050, 0, 8⟩
abbrev GL_LEAK : Field := ⟨0x054, 0, 32⟩
abbrev GL_LEAK_LIM : Field := ⟨0x054, 0, 10⟩
abbrev GL_FLTCFG : Field := ⟨0x058, 0, 32⟩
abbrev GL_FLTCFG_HOLD : Field := ⟨0x058, 0, 8⟩
abbrev GL_CMD : Field := ⟨0x05C, 0, 32⟩
abbrev GL_CMD_LEAK : Field := ⟨0x05C, 0, 1⟩
abbrev GL_STAT : Field := ⟨0x080, 0, 32⟩
abbrev GL_STAT_CMD : Field := ⟨0x080, 14, 2⟩
abbrev GL_STAT_OUT : Field := ⟨0x080, 12, 2⟩
abbrev GL_STAT_DT_OPEN : Field := ⟨0x080, 11, 1⟩
abbrev GL_STAT_REFRESH : Field := ⟨0x080, 10, 1⟩
abbrev GL_STAT_GH_ON : Field := ⟨0x080, 9, 1⟩
abbrev GL_STAT_GL_ON : Field := ⟨0x080, 8, 1⟩
abbrev GL_STAT_LEAK_BUSY : Field := ⟨0x080, 6, 1⟩
abbrev GL_STAT_BST_UV : Field := ⟨0x080, 5, 1⟩
abbrev GL_STAT_EN_SW : Field := ⟨0x080, 4, 1⟩
abbrev GL_STAT_WAIT_EDGE : Field := ⟨0x080, 2, 1⟩
abbrev GL_STAT_LATCHED : Field := ⟨0x080, 1, 1⟩
abbrev GL_FLT : Field := ⟨0x084, 0, 32⟩
abbrev GL_FLT_SHOOT : Field := ⟨0x084, 7, 1⟩
abbrev GL_FLT_MISMATCH : Field := ⟨0x084, 6, 1⟩
abbrev GL_FLT_CROSS : Field := ⟨0x084, 5, 1⟩
abbrev GL_FLT_BST_UV : Field := ⟨0x084, 4, 1⟩
abbrev GL_FLT_VDS_LS : Field := ⟨0x084, 3, 1⟩
abbrev GL_FLT_VDS_HS : Field := ⟨0x084, 2, 1⟩
abbrev GL_FLT_DIDT_LS : Field := ⟨0x084, 1, 1⟩
abbrev GL_FLT_DIDT_HS : Field := ⟨0x084, 0, 1⟩
abbrev GL_CNT : Field := ⟨0x088, 0, 32⟩
abbrev GL_CNT_SC : Field := ⟨0x088, 24, 8⟩
abbrev GL_CNT_BST_UV : Field := ⟨0x088, 16, 8⟩
abbrev GL_CNT_CROSS : Field := ⟨0x088, 8, 8⟩
abbrev GL_CNT_MISMATCH : Field := ⟨0x088, 0, 8⟩
abbrev GL_REFRESHES : Field := ⟨0x08C, 0, 32⟩
abbrev GL_LEAK_HS : Field := ⟨0x090, 0, 32⟩
abbrev GL_LEAK_HS_TCHG : Field := ⟨0x090, 20, 12⟩
abbrev GL_LEAK_HS_DROOP : Field := ⟨0x090, 10, 10⟩
abbrev GL_LEAK_HS_BST_LOW : Field := ⟨0x090, 3, 1⟩
abbrev GL_LEAK_HS_TIMEOUT : Field := ⟨0x090, 2, 1⟩
abbrev GL_LEAK_HS_FAIL : Field := ⟨0x090, 1, 1⟩
abbrev GL_LEAK_HS_VALID : Field := ⟨0x090, 0, 1⟩
abbrev GL_LEAK_LS : Field := ⟨0x094, 0, 32⟩
abbrev GL_LEAK_LS_TCHG : Field := ⟨0x094, 20, 12⟩
abbrev GL_LEAK_LS_DROOP : Field := ⟨0x094, 10, 10⟩
abbrev GL_LEAK_LS_TIMEOUT : Field := ⟨0x094, 2, 1⟩
abbrev GL_LEAK_LS_FAIL : Field := ⟨0x094, 1, 1⟩
abbrev GL_LEAK_LS_VALID : Field := ⟨0x094, 0, 1⟩
/-! ### GB -/
abbrev GB_CFG : Field := ⟨0x040, 0, 32⟩
abbrev GB_CFG_VGD_UV : Field := ⟨0x040, 8, 4⟩
abbrev GB_CFG_IDLE : Field := ⟨0x040, 0, 1⟩
abbrev GB_STAT : Field := ⟨0x044, 0, 32⟩
abbrev GB_STAT_LEGFLT : Field := ⟨0x044, 8, 3⟩
abbrev GB_STAT_CUT_FORM : Field := ⟨0x044, 4, 1⟩
abbrev GB_STAT_CUT : Field := ⟨0x044, 3, 1⟩
abbrev GB_STAT_EN_SW : Field := ⟨0x044, 2, 1⟩
abbrev GB_STAT_VGD_UV : Field := ⟨0x044, 1, 1⟩
abbrev GB_MEAS : Field := ⟨0x048, 0, 32⟩
abbrev GB_MEAS_VGD : Field := ⟨0x048, 16, 16⟩
abbrev GB_MEAS_DCP : Field := ⟨0x048, 0, 16⟩
abbrev GB_CNT : Field := ⟨0x04C, 0, 32⟩
abbrev GB_CNT_CUTS : Field := ⟨0x04C, 8, 8⟩
abbrev GB_CNT_VGD_UV : Field := ⟨0x04C, 0, 8⟩
/-! ### IS -/
abbrev IS_CFG : Field := ⟨0x040, 0, 32⟩
abbrev IS_CFG_AUTO : Field := ⟨0x040, 31, 1⟩
abbrev IS_CFG_OPEN_TMO : Field := ⟨0x040, 16, 12⟩
abbrev IS_CFG_IOPEN : Field := ⟨0x040, 0, 15⟩
abbrev IS_CMD : Field := ⟨0x044, 0, 32⟩
abbrev IS_CMD_OPEN : Field := ⟨0x044, 1, 1⟩
abbrev IS_CMD_CLOSE : Field := ⟨0x044, 0, 1⟩
abbrev IS_STAT : Field := ⟨0x048, 0, 32⟩
abbrev IS_STAT_PERMIT : Field := ⟨0x048, 10, 1⟩
abbrev IS_STAT_VGS_ON : Field := ⟨0x048, 9, 1⟩
abbrev IS_STAT_VGS_OFF : Field := ⟨0x048, 8, 1⟩
abbrev IS_STAT_SW : Field := ⟨0x048, 0, 3⟩
abbrev IS_CNT : Field := ⟨0x04C, 0, 32⟩
abbrev IS_CNT_FORCED : Field := ⟨0x04C, 16, 16⟩
abbrev IS_CNT_DENIED : Field := ⟨0x04C, 8, 8⟩
abbrev IS_CNT_FAILS : Field := ⟨0x04C, 0, 8⟩
/-! ### CV -/
abbrev CV_CFG : Field := ⟨0x040, 0, 32⟩
abbrev CV_CFG_CRIT : Field := ⟨0x040, 31, 1⟩
abbrev CV_CFG_FIQ_SRC : Field := ⟨0x040, 16, 5⟩
abbrev CV_CFG_ENTRY : Field := ⟨0x040, 0, 16⟩
abbrev CV_CHK : Field := ⟨0x044, 0, 32⟩
abbrev CV_CHK_WIN : Field := ⟨0x044, 0, 17⟩
abbrev CV_IRQ_EN : Field := ⟨0x048, 0, 32⟩
abbrev CV_IRQ_EN_V : Field := ⟨0x048, 0, 12⟩
abbrev CV_CTRL : Field := ⟨0x04C, 0, 32⟩
abbrev CV_CTRL_SWI : Field := ⟨0x04C, 8, 1⟩
abbrev CV_CTRL_START : Field := ⟨0x04C, 0, 1⟩
abbrev CV_STAT : Field := ⟨0x050, 0, 32⟩
abbrev CV_STAT_PC : Field := ⟨0x050, 16, 16⟩
abbrev CV_STAT_FACT : Field := ⟨0x050, 9, 1⟩
abbrev CV_STAT_IACT : Field := ⟨0x050, 8, 1⟩
abbrev CV_STAT_HALTED : Field := ⟨0x050, 0, 1⟩
abbrev CV_RETIRED : Field := ⟨0x054, 0, 32⟩
abbrev CV_WINDOWS : Field := ⟨0x058, 0, 32⟩
abbrev CV_DIVERGE : Field := ⟨0x05C, 0, 32⟩
abbrev CV_DIVERGE_CAUSE : Field := ⟨0x05C, 24, 8⟩
abbrev CV_DIVERGE_RETIRED : Field := ⟨0x05C, 0, 24⟩
abbrev CV_EXC : Field := ⟨0x060, 0, 32⟩
abbrev CV_EXC_CAUSE : Field := ⟨0x060, 24, 8⟩
abbrev CV_EXC_PC : Field := ⟨0x060, 0, 16⟩
abbrev CV_LINK : Field := ⟨0x080, 0, 32⟩
abbrev CV_LINK_TYPE : Field := ⟨0x080, 28, 4⟩
abbrev CV_LINK_SRC : Field := ⟨0x080, 0, 28⟩
abbrev CV_OUT : Field := ⟨0x100, 0, 32⟩
/-! ### AC -/
abbrev AC_CFG : Field := ⟨0x040, 0, 32⟩
abbrev AC_CFG_CRIT : Field := ⟨0x040, 31, 1⟩
abbrev AC_CFG_RESTART : Field := ⟨0x040, 30, 1⟩
abbrev AC_ENTRY : Field := ⟨0x044, 0, 32⟩
abbrev AC_ENTRY_V : Field := ⟨0x044, 1, 31⟩
abbrev AC_CTRL : Field := ⟨0x048, 0, 32⟩
abbrev AC_CTRL_START : Field := ⟨0x048, 0, 1⟩
abbrev AC_STAT : Field := ⟨0x04C, 0, 32⟩
abbrev AC_STAT_DBG_ATTACHED : Field := ⟨0x04C, 12, 1⟩
abbrev AC_STAT_DBG_HALTED : Field := ⟨0x04C, 11, 1⟩
abbrev AC_STAT_REPAIRING : Field := ⟨0x04C, 10, 1⟩
abbrev AC_STAT_QSTALL : Field := ⟨0x04C, 9, 1⟩
abbrev AC_STAT_CHKPT_BUSY : Field := ⟨0x04C, 8, 1⟩
abbrev AC_PC : Field := ⟨0x050, 0, 32⟩
abbrev AC_RETIRED : Field := ⟨0x054, 0, 32⟩
abbrev AC_WINDOWS : Field := ⟨0x058, 0, 32⟩
abbrev AC_DIVERGE : Field := ⟨0x05C, 0, 32⟩
abbrev AC_DIVERGE_CAUSE : Field := ⟨0x05C, 24, 8⟩
abbrev AC_DIVERGE_RETIRED : Field := ⟨0x05C, 0, 24⟩
abbrev AC_CNT : Field := ⟨0x060, 0, 32⟩
abbrev AC_CNT_RESTARTS : Field := ⟨0x060, 16, 16⟩
abbrev AC_CNT_REPAIRS : Field := ⟨0x060, 0, 16⟩
abbrev AC_EIRQ : Field := ⟨0x064, 0, 32⟩
abbrev AC_EIRQ_V : Field := ⟨0x064, 0, 21⟩
abbrev AC_MTIMECMP_LO : Field := ⟨0x068, 0, 32⟩
abbrev AC_MTIMECMP_HI : Field := ⟨0x06C, 0, 32⟩
abbrev AC_REPLAY : Field := ⟨0x070, 0, 32⟩
abbrev AC_REPLAY_V : Field := ⟨0x070, 0, 7⟩
/-! ### QG -/
abbrev QG_STAT : Field := ⟨0x040, 0, 32⟩
abbrev QG_STAT_WERR : Field := ⟨0x040, 9, 1⟩
abbrev QG_STAT_FULL_SEEN : Field := ⟨0x040, 8, 1⟩
abbrev QG_STAT_OCC : Field := ⟨0x040, 0, 6⟩
abbrev QG_CNT : Field := ⟨0x044, 0, 32⟩
abbrev QG_CNT_STALLS : Field := ⟨0x044, 16, 16⟩
abbrev QG_CNT_FORCED : Field := ⟨0x044, 0, 16⟩
abbrev QG_RELEASED : Field := ⟨0x048, 0, 32⟩
abbrev QG_WERR_ADDR : Field := ⟨0x04C, 0, 32⟩
abbrev QG_RANGE_BASE : Field := ⟨0x080, 0, 32⟩
abbrev QG_RANGE_BASE_BASE : Field := ⟨0x080, 8, 24⟩
abbrev QG_RANGE_BASE_FENCE : Field := ⟨0x080, 1, 1⟩
abbrev QG_RANGE_BASE_EN : Field := ⟨0x080, 0, 1⟩
abbrev QG_RANGE_LIMIT : Field := ⟨0x084, 0, 32⟩
abbrev QG_RANGE_LIMIT_LIMIT : Field := ⟨0x084, 8, 24⟩
abbrev QG_RANGE_LIMIT_LOW : Field := ⟨0x084, 0, 8⟩
/-! ### SEAWALL -/
abbrev SEAWALL_STAT : Field := ⟨0x040, 0, 32⟩
abbrev SEAWALL_STAT_HCAUSE : Field := ⟨0x040, 20, 4⟩
abbrev SEAWALL_STAT_HARD : Field := ⟨0x040, 19, 1⟩
abbrev SEAWALL_STAT_UNIT_SOFT : Field := ⟨0x040, 18, 1⟩
abbrev SEAWALL_STAT_SOFT : Field := ⟨0x040, 12, 6⟩
abbrev SEAWALL_STAT_ENABLE : Field := ⟨0x040, 6, 6⟩
abbrev SEAWALL_STAT_BOL_IN1 : Field := ⟨0x040, 5, 1⟩
abbrev SEAWALL_STAT_BOL_IN0 : Field := ⟨0x040, 4, 1⟩
abbrev SEAWALL_STAT_BOL_OUT : Field := ⟨0x040, 3, 1⟩
abbrev SEAWALL_STAT_CONFIRMED : Field := ⟨0x040, 2, 1⟩
abbrev SEAWALL_STAT_SEAL_OK : Field := ⟨0x040, 1, 1⟩
abbrev SEAWALL_STAT_SELFTEST_OK : Field := ⟨0x040, 0, 1⟩
abbrev SEAWALL_UCAUSE : Field := ⟨0x044, 0, 32⟩
abbrev SEAWALL_UCAUSE_QUAY : Field := ⟨0x044, 6, 1⟩
abbrev SEAWALL_UCAUSE_KP_TEMP : Field := ⟨0x044, 5, 1⟩
abbrev SEAWALL_UCAUSE_WD : Field := ⟨0x044, 4, 1⟩
abbrev SEAWALL_UCAUSE_VGD : Field := ⟨0x044, 3, 1⟩
abbrev SEAWALL_UCAUSE_VPRE_BO : Field := ⟨0x044, 2, 1⟩
abbrev SEAWALL_UCAUSE_PLLB : Field := ⟨0x044, 1, 1⟩
abbrev SEAWALL_UCAUSE_XO : Field := ⟨0x044, 0, 1⟩
abbrev SEAWALL_BCAUSE : Field := ⟨0x048, 0, 32⟩
abbrev SEAWALL_BCAUSE_V : Field := ⟨0x048, 0, 30⟩
abbrev SEAWALL_SEAL_CALC : Field := ⟨0x04C, 0, 32⟩
abbrev SEAWALL_SEAL_CONFIRM : Field := ⟨0x050, 0, 32⟩
abbrev SEAWALL_SEAL_KEY : Field := ⟨0x054, 0, 32⟩
abbrev SEAWALL_COMM : Field := ⟨0x058, 0, 32⟩
abbrev SEAWALL_COMM_COUNT : Field := ⟨0x058, 16, 8⟩
abbrev SEAWALL_COMM_KEY_FAIL : Field := ⟨0x058, 12, 4⟩
abbrev SEAWALL_COMM_WRITE_FAIL : Field := ⟨0x058, 10, 1⟩
abbrev SEAWALL_COMM_RANGE_FAIL : Field := ⟨0x058, 9, 1⟩
abbrev SEAWALL_COMM_MISMATCH : Field := ⟨0x058, 8, 1⟩
abbrev SEAWALL_COMM_CSTATE : Field := ⟨0x058, 0, 3⟩
abbrev SEAWALL_WD_Q : Field := ⟨0x05C, 0, 32⟩
abbrev SEAWALL_WD_Q_FAIL_CNT : Field := ⟨0x05C, 24, 8⟩
abbrev SEAWALL_WD_Q_GOOD : Field := ⟨0x05C, 16, 8⟩
abbrev SEAWALL_WD_Q_Q : Field := ⟨0x05C, 0, 16⟩
abbrev SEAWALL_WD_ANS : Field := ⟨0x060, 0, 32⟩
abbrev SEAWALL_WD_ANS_K : Field := ⟨0x060, 16, 2⟩
abbrev SEAWALL_WD_ANS_A : Field := ⟨0x060, 0, 16⟩
abbrev SEAWALL_INPUTS : Field := ⟨0x064, 0, 32⟩
abbrev SEAWALL_INPUTS_HC_COUNT : Field := ⟨0x064, 24, 8⟩
abbrev SEAWALL_INPUTS_IGNORED : Field := ⟨0x064, 16, 8⟩
abbrev SEAWALL_INPUTS_COMM_STUCK : Field := ⟨0x064, 9, 1⟩
abbrev SEAWALL_INPUTS_RST_STUCK : Field := ⟨0x064, 8, 1⟩
abbrev SEAWALL_INPUTS_COMM_LVL : Field := ⟨0x064, 1, 1⟩
abbrev SEAWALL_INPUTS_RST_LVL : Field := ⟨0x064, 0, 1⟩
abbrev SEAWALL_SHOOT : Field := ⟨0x068, 0, 32⟩
abbrev SEAWALL_SHOOT_N : Field := ⟨0x068, 0, 12⟩
abbrev SEAWALL_CMP_POS : Field := ⟨0x06C, 0, 32⟩
abbrev SEAWALL_CMP_POS_V : Field := ⟨0x06C, 0, 18⟩
abbrev SEAWALL_CMP_NEG : Field := ⟨0x070, 0, 32⟩
abbrev SEAWALL_CMP_NEG_V : Field := ⟨0x070, 0, 18⟩
abbrev SEAWALL_WGID : Field := ⟨0x074, 0, 32⟩
abbrev SEAWALL_VERSION : Field := ⟨0x078, 0, 32⟩
abbrev SEAWALL_UNIT : Field := ⟨0x07C, 0, 32⟩
abbrev SEAWALL_UNIT_BENCH : Field := ⟨0x07C, 8, 1⟩
abbrev SEAWALL_UNIT_RANK : Field := ⟨0x07C, 4, 2⟩
abbrev SEAWALL_UNIT_GSIZE : Field := ⟨0x07C, 0, 2⟩
/-! ### HM -/
abbrev HM_STAT : Field := ⟨0x040, 0, 32⟩
abbrev HM_STAT_FROZEN : Field := ⟨0x040, 31, 1⟩
abbrev HM_STAT_HARD_REQ : Field := ⟨0x040, 30, 1⟩
abbrev HM_STAT_UNIT_REC : Field := ⟨0x040, 24, 4⟩
abbrev HM_STAT_LEVEL : Field := ⟨0x040, 18, 2⟩
abbrev HM_STAT_MFST : Field := ⟨0x040, 17, 1⟩
abbrev HM_STAT_BYPASS : Field := ⟨0x040, 16, 1⟩
abbrev HM_STAT_NOPEN : Field := ⟨0x040, 0, 6⟩
abbrev HM_OPEN : Field := ⟨0x044, 0, 32⟩
abbrev HM_PROBATION : Field := ⟨0x048, 0, 32⟩
abbrev HM_ACKED : Field := ⟨0x04C, 0, 32⟩
abbrev HM_ACK : Field := ⟨0x050, 0, 32⟩
abbrev HM_CTRL : Field := ⟨0x054, 0, 32⟩
abbrev HM_CTRL_RELEASE : Field := ⟨0x054, 0, 1⟩
abbrev HM_GRP_MODE : Field := ⟨0x058, 0, 32⟩
abbrev HM_GRP_MODE_HI : Field := ⟨0x058, 14, 16⟩
abbrev HM_GRP_MODE_MID : Field := ⟨0x058, 5, 8⟩
abbrev HM_GRP_MODE_LOW : Field := ⟨0x058, 0, 4⟩
abbrev HM_LINE_LVL0 : Field := ⟨0x05C, 0, 32⟩
abbrev HM_LINE_LVL1 : Field := ⟨0x060, 0, 32⟩
abbrev HM_REACT1 : Field := ⟨0x064, 0, 32⟩
abbrev HM_REACT1_B27 : Field := ⟨0x064, 27, 2⟩
abbrev HM_REACT1_B24 : Field := ⟨0x064, 24, 2⟩
abbrev HM_REACT1_B14 : Field := ⟨0x064, 14, 8⟩
abbrev HM_REACT1_B5 : Field := ⟨0x064, 5, 8⟩
abbrev HM_REACT1_B3 : Field := ⟨0x064, 3, 1⟩
abbrev HM_RECUR_EN : Field := ⟨0x068, 0, 32⟩
abbrev HM_RECUR_EN_HI : Field := ⟨0x068, 11, 21⟩
abbrev HM_RECUR_EN_LOW : Field := ⟨0x068, 0, 10⟩
abbrev HM_RECUR_CFG : Field := ⟨0x06C, 0, 32⟩
abbrev HM_RECUR_CFG_N : Field := ⟨0x06C, 16, 3⟩
abbrev HM_RECUR_CFG_W : Field := ⟨0x06C, 0, 16⟩
abbrev HM_LIMITS : Field := ⟨0x070, 0, 32⟩
abbrev HM_LIMITS_QUIET : Field := ⟨0x070, 16, 16⟩
abbrev HM_LIMITS_UNIT_LIMIT : Field := ⟨0x070, 0, 4⟩
abbrev HM_CNT : Field := ⟨0x074, 0, 32⟩
abbrev HM_CNT_DROPPED : Field := ⟨0x074, 16, 16⟩
abbrev HM_CNT_LOST : Field := ⟨0x074, 8, 8⟩
abbrev HM_CNT_OVERRUNS : Field := ⟨0x074, 0, 8⟩
abbrev HM_ESC : Field := ⟨0x078, 0, 32⟩
abbrev HM_ESC_ESCALATED : Field := ⟨0x078, 16, 16⟩
abbrev HM_ESC_ESC_CAP : Field := ⟨0x078, 0, 16⟩
abbrev HM_QUEUE : Field := ⟨0x07C, 0, 32⟩
abbrev HM_QUEUE_PEAK : Field := ⟨0x07C, 16, 7⟩
abbrev HM_QUEUE_OCC : Field := ⟨0x07C, 0, 7⟩
abbrev HM_RING : Field := ⟨0x080, 0, 32⟩
abbrev HM_ELS : Field := ⟨0x0C0, 0, 32⟩
/-! ### MA -/
abbrev MA_CFG : Field := ⟨0x040, 0, 32⟩
abbrev MA_CFG_PORTS : Field := ⟨0x040, 1, 2⟩
abbrev MA_CFG_RING : Field := ⟨0x040, 0, 1⟩
abbrev MA_STAT : Field := ⟨0x044, 0, 32⟩
abbrev MA_STAT_MISS : Field := ⟨0x044, 8, 3⟩
abbrev MA_STAT_PLAN_REQ : Field := ⟨0x044, 3, 1⟩
abbrev MA_STAT_PLAN : Field := ⟨0x044, 2, 1⟩
abbrev MA_STAT_SYNCED : Field := ⟨0x044, 1, 1⟩
abbrev MA_STAT_TX_EN : Field := ⟨0x044, 0, 1⟩
abbrev MA_RX_OK : Field := ⟨0x048, 0, 32⟩
abbrev MA_RX_ERR : Field := ⟨0x04C, 0, 32⟩
abbrev MA_RX_ERR_FCS : Field := ⟨0x04C, 24, 8⟩
abbrev MA_RX_ERR_E2E : Field := ⟨0x04C, 16, 8⟩
abbrev MA_RX_ERR_MAC : Field := ⟨0x04C, 8, 8⟩
abbrev MA_RX_ERR_HDR : Field := ⟨0x04C, 0, 8⟩
abbrev MA_RX_DUP : Field := ⟨0x050, 0, 32⟩
abbrev MA_TX : Field := ⟨0x054, 0, 32⟩
abbrev MA_FWD_DROP : Field := ⟨0x058, 0, 32⟩
abbrev MA_FWD_DROP_N : Field := ⟨0x058, 0, 16⟩
abbrev MA_SEQ : Field := ⟨0x05C, 0, 32⟩
abbrev MA_SEQ_BACK : Field := ⟨0x05C, 16, 16⟩
abbrev MA_SEQ_GAP : Field := ⟨0x05C, 0, 16⟩
abbrev MA_TGUARD : Field := ⟨0x060, 0, 32⟩
abbrev MA_TGUARD_N : Field := ⟨0x060, 0, 16⟩
/-! ### PORT -/
abbrev PORT_STAT : Field := ⟨0x040, 0, 32⟩
abbrev PORT_STAT_LINK_LOSS : Field := ⟨0x040, 16, 16⟩
abbrev PORT_STAT_SQI : Field := ⟨0x040, 8, 3⟩
abbrev PORT_STAT_ROLE : Field := ⟨0x040, 1, 1⟩
abbrev PORT_STAT_LINK : Field := ⟨0x040, 0, 1⟩
abbrev PORT_CNT : Field := ⟨0x044, 0, 32⟩
abbrev PORT_CNT_SYM : Field := ⟨0x044, 0, 16⟩
abbrev PORT_LDELAY : Field := ⟨0x048, 0, 32⟩
abbrev PORT_LDCNT : Field := ⟨0x04C, 0, 32⟩
abbrev PORT_LDCNT_REJECT : Field := ⟨0x04C, 8, 8⟩
abbrev PORT_LDCNT_TAKEN : Field := ⟨0x04C, 0, 8⟩
abbrev PORT_PATH : Field := ⟨0x080, 0, 32⟩
/-! ### MS -/
abbrev MS_NODE : Field := ⟨0x040, 0, 32⟩
abbrev MS_NODE_ID : Field := ⟨0x040, 0, 5⟩
abbrev MS_ETYPE : Field := ⟨0x044, 0, 32⟩
abbrev MS_ETYPE_V : Field := ⟨0x044, 0, 16⟩
abbrev MS_MCAST_LO : Field := ⟨0x048, 0, 32⟩
abbrev MS_MCAST_HI : Field := ⟨0x04C, 0, 32⟩
abbrev MS_MCAST_HI_B0H : Field := ⟨0x04C, 9, 7⟩
abbrev MS_MCAST_HI_GRP : Field := ⟨0x04C, 8, 1⟩
abbrev MS_MCAST_HI_B1 : Field := ⟨0x04C, 0, 8⟩
abbrev MS_CTRL : Field := ⟨0x050, 0, 32⟩
abbrev MS_CTRL_RETURN : Field := ⟨0x050, 0, 1⟩
abbrev MS_SWAP_AT : Field := ⟨0x054, 0, 32⟩
abbrev MS_STAT : Field := ⟨0x058, 0, 32⟩
abbrev MS_STAT_CHECK : Field := ⟨0x058, 24, 8⟩
abbrev MS_STAT_CHECK_ENTRY : Field := ⟨0x058, 16, 8⟩
abbrev MS_STAT_SWAP_LATE : Field := ⟨0x058, 9, 1⟩
abbrev MS_STAT_PLAN : Field := ⟨0x058, 8, 1⟩
abbrev MS_CYCLE : Field := ⟨0x05C, 0, 32⟩
abbrev MS_PLANCNT : Field := ⟨0x060, 0, 32⟩
abbrev MS_PLANCNT_RETURNS : Field := ⟨0x060, 16, 16⟩
abbrev MS_PLANCNT_SINGLES : Field := ⟨0x060, 0, 16⟩
abbrev MS_MAC_KEY : Field := ⟨0x080, 0, 32⟩
abbrev MS_TM_LO : Field := ⟨0x0C0, 0, 32⟩
abbrev MS_TM_HI : Field := ⟨0x0C4, 0, 32⟩
abbrev MS_RATE : Field := ⟨0x0C8, 0, 32⟩
abbrev MS_OFFSET : Field := ⟨0x0CC, 0, 32⟩
abbrev MS_TSTAT : Field := ⟨0x0D0, 0, 32⟩
abbrev MS_TSTAT_CLEAN : Field := ⟨0x0D0, 24, 8⟩
abbrev MS_TSTAT_PH_ID : Field := ⟨0x0D0, 16, 5⟩
abbrev MS_TSTAT_PH_RANK : Field := ⟨0x0D0, 12, 2⟩
abbrev MS_TSTAT_OVER : Field := ⟨0x0D0, 8, 2⟩
abbrev MS_TSTAT_MISS : Field := ⟨0x0D0, 4, 4⟩
abbrev MS_TSTAT_PH : Field := ⟨0x0D0, 3, 1⟩
abbrev MS_TSTAT_STATE : Field := ⟨0x0D0, 0, 3⟩
abbrev MS_TIME_CFG : Field := ⟨0x0D4, 0, 32⟩
abbrev MS_TIME_CFG_CS_ID3 : Field := ⟨0x0D4, 25, 5⟩
abbrev MS_TIME_CFG_CS_V3 : Field := ⟨0x0D4, 24, 1⟩
abbrev MS_TIME_CFG_CS_ID2 : Field := ⟨0x0D4, 17, 5⟩
abbrev MS_TIME_CFG_CS_V2 : Field := ⟨0x0D4, 16, 1⟩
abbrev MS_TIME_CFG_CS_ID1 : Field := ⟨0x0D4, 9, 5⟩
abbrev MS_TIME_CFG_CS_V1 : Field := ⟨0x0D4, 8, 1⟩
abbrev MS_TIME_CFG_HOLD : Field := ⟨0x0D4, 4, 4⟩
abbrev MS_TIME_CFG_KR : Field := ⟨0x0D4, 0, 4⟩
abbrev MS_TCNT : Field := ⟨0x0D8, 0, 32⟩
abbrev MS_TCNT_LISTENS : Field := ⟨0x0D8, 24, 8⟩
abbrev MS_TCNT_ABANDONS : Field := ⟨0x0D8, 16, 8⟩
abbrev MS_TCNT_TAKEOVERS : Field := ⟨0x0D8, 8, 8⟩
abbrev MS_TCNT_HOLDOVERS : Field := ⟨0x0D8, 0, 8⟩
abbrev MS_PH_START : Field := ⟨0x0DC, 0, 32⟩
abbrev MS_EL : Field := ⟨0x100, 0, 32⟩
abbrev MS_EL_MA_EARLY : Field := ⟨0x100, 24, 8⟩
abbrev MS_EL_MA_LATE : Field := ⟨0x100, 16, 8⟩
abbrev MS_EL_MB_EARLY : Field := ⟨0x100, 8, 8⟩
abbrev MS_EL_MB_LATE : Field := ⟨0x100, 0, 8⟩
abbrev MS_SCHED : Field := ⟨0x400, 0, 32⟩
abbrev MS_SCHED_AUTO_RETURN : Field := ⟨0x400, 31, 1⟩
abbrev MS_SCHED_ROLE : Field := ⟨0x400, 16, 4⟩
abbrev MS_SCHED_CYCLE : Field := ⟨0x400, 0, 13⟩
abbrev MS_TAB0 : Field := ⟨0x800, 0, 32⟩
abbrev MS_TAB0_EN : Field := ⟨0x800, 31, 1⟩
abbrev MS_TAB0_CRIT : Field := ⟨0x800, 30, 1⟩
abbrev MS_TAB0_SENDER : Field := ⟨0x800, 24, 5⟩
abbrev MS_TAB0_START : Field := ⟨0x800, 0, 17⟩
abbrev MS_TAB1 : Field := ⟨0x804, 0, 32⟩
abbrev MS_TAB1_GUARD : Field := ⟨0x804, 24, 8⟩
abbrev MS_TAB1_SRC_CH : Field := ⟨0x804, 23, 1⟩
abbrev MS_TAB1_SRC_SLOT : Field := ⟨0x804, 16, 6⟩
abbrev MS_TAB1_LEN : Field := ⟨0x804, 0, 11⟩
/-! ### BTH -/
abbrev BTH_COMMIT : Field := ⟨0x040, 0, 32⟩
abbrev BTH_COMMIT_V : Field := ⟨0x040, 0, 8⟩
abbrev BTH_OVW : Field := ⟨0x044, 0, 32⟩
abbrev BTH_OVW_LAST : Field := ⟨0x044, 24, 8⟩
abbrev BTH_OVW_N : Field := ⟨0x044, 0, 16⟩
abbrev BTH_UNMATCHED : Field := ⟨0x048, 0, 32⟩
abbrev BTH_UNMATCHED_N : Field := ⟨0x048, 0, 16⟩
abbrev BTH_BSTAT : Field := ⟨0x400, 0, 32⟩
abbrev BTH_BSTAT_BUF : Field := ⟨0x400, 31, 1⟩
abbrev BTH_BSTAT_VALID : Field := ⟨0x400, 30, 1⟩
abbrev BTH_BSTAT_SEEN : Field := ⟨0x400, 24, 6⟩
abbrev BTH_BSTAT_AGE : Field := ⟨0x400, 16, 8⟩
abbrev BTH_BSTAT_COPY : Field := ⟨0x400, 0, 16⟩
abbrev BTH_BERTH0 : Field := ⟨0x800, 0, 32⟩
abbrev BTH_BERTH0_EN : Field := ⟨0x800, 31, 1⟩
abbrev BTH_BERTH0_DIR : Field := ⟨0x800, 30, 1⟩
abbrev BTH_BERTH0_CH : Field := ⟨0x800, 29, 1⟩
abbrev BTH_BERTH0_MAC : Field := ⟨0x800, 28, 1⟩
abbrev BTH_BERTH0_SLOT : Field := ⟨0x800, 22, 6⟩
abbrev BTH_BERTH0_DATA_ID : Field := ⟨0x800, 0, 16⟩
abbrev BTH_BERTH1 : Field := ⟨0x804, 0, 32⟩
abbrev BTH_BERTH1_BASE : Field := ⟨0x804, 16, 16⟩
abbrev BTH_BERTH1_DLEN : Field := ⟨0x804, 0, 11⟩
/-! ### CAN -/
abbrev CAN_CFG : Field := ⟨0x040, 0, 32⟩
abbrev CAN_CFG_AUTO_REC : Field := ⟨0x040, 8, 1⟩
abbrev CAN_CFG_FD_EN : Field := ⟨0x040, 1, 1⟩
abbrev CAN_CFG_BRS_EN : Field := ⟨0x040, 0, 1⟩
abbrev CAN_NBT : Field := ⟨0x044, 0, 32⟩
abbrev CAN_NBT_PRESC : Field := ⟨0x044, 24, 8⟩
abbrev CAN_NBT_TSEG1 : Field := ⟨0x044, 16, 8⟩
abbrev CAN_NBT_TSEG2 : Field := ⟨0x044, 8, 7⟩
abbrev CAN_NBT_SJW : Field := ⟨0x044, 0, 7⟩
abbrev CAN_DBT : Field := ⟨0x048, 0, 32⟩
abbrev CAN_DBT_TDCO : Field := ⟨0x048, 24, 8⟩
abbrev CAN_DBT_PRESC : Field := ⟨0x048, 16, 4⟩
abbrev CAN_DBT_TSEG1 : Field := ⟨0x048, 8, 5⟩
abbrev CAN_DBT_TSEG2 : Field := ⟨0x048, 4, 3⟩
abbrev CAN_DBT_SJW : Field := ⟨0x048, 0, 3⟩
abbrev CAN_CTRL : Field := ⟨0x04C, 0, 32⟩
abbrev CAN_CTRL_RECOVER : Field := ⟨0x04C, 1, 1⟩
abbrev CAN_CTRL_ABORT_TX : Field := ⟨0x04C, 0, 1⟩
abbrev CAN_STAT : Field := ⟨0x050, 0, 32⟩
abbrev CAN_STAT_REC : Field := ⟨0x050, 16, 8⟩
abbrev CAN_STAT_TEC : Field := ⟨0x050, 8, 8⟩
abbrev CAN_STAT_BUS_OFF : Field := ⟨0x050, 2, 1⟩
abbrev CAN_STAT_PASSIVE : Field := ⟨0x050, 1, 1⟩
abbrev CAN_STAT_SYNCED : Field := ⟨0x050, 0, 1⟩
abbrev CAN_CNT : Field := ⟨0x054, 0, 32⟩
abbrev CAN_CNT_MB_OVW : Field := ⟨0x054, 16, 16⟩
abbrev CAN_CNT_FIFO_DROP : Field := ⟨0x054, 0, 16⟩
abbrev CAN_FIFO : Field := ⟨0x058, 0, 32⟩
abbrev CAN_FIFO_HELD : Field := ⟨0x058, 0, 6⟩
abbrev CAN_FIFO_POP : Field := ⟨0x05C, 0, 32⟩
abbrev CAN_FIFO_WIN : Field := ⟨0x100, 0, 32⟩
abbrev CAN_MB : Field := ⟨0x400, 0, 32⟩
/-! ### SPI -/
abbrev SPI_CFG : Field := ⟨0x040, 0, 32⟩
abbrev SPI_CFG_TARGET : Field := ⟨0x040, 31, 1⟩
abbrev SPI_CFG_HOST_WR : Field := ⟨0x040, 30, 1⟩
abbrev SPI_CFG_BITS : Field := ⟨0x040, 8, 5⟩
abbrev SPI_CFG_LSB_FIRST : Field := ⟨0x040, 5, 1⟩
abbrev SPI_CFG_MODE : Field := ⟨0x040, 3, 2⟩
abbrev SPI_CFG_DIV : Field := ⟨0x040, 0, 3⟩
abbrev SPI_CSMAP : Field := ⟨0x044, 0, 32⟩
abbrev SPI_CSMAP_V : Field := ⟨0x044, 0, 8⟩
abbrev SPI_CHK : Field := ⟨0x048, 0, 32⟩
abbrev SPI_CHK_V : Field := ⟨0x048, 0, 2⟩
abbrev SPI_SC_CMD : Field := ⟨0x050, 0, 32⟩
abbrev SPI_TX : Field := ⟨0x080, 0, 32⟩
abbrev SPI_RX : Field := ⟨0x084, 0, 32⟩
abbrev SPI_CNT : Field := ⟨0x088, 0, 32⟩
abbrev SPI_CNT_HOST_BUSY : Field := ⟨0x088, 16, 16⟩
abbrev SPI_CNT_CHKERR : Field := ⟨0x088, 0, 16⟩
/-! ### SENT -/
abbrev SENT_CFG : Field := ⟨0x040, 0, 32⟩
abbrev SENT_CFG_TICK : Field := ⟨0x040, 16, 10⟩
abbrev SENT_CFG_PAUSE : Field := ⟨0x040, 3, 1⟩
abbrev SENT_CFG_CRC : Field := ⟨0x040, 1, 1⟩
abbrev SENT_CFG_SSM_EN : Field := ⟨0x040, 0, 1⟩
abbrev SENT_FILT : Field := ⟨0x044, 0, 32⟩
abbrev SENT_FILT_FCLK : Field := ⟨0x044, 8, 2⟩
abbrev SENT_FILT_N : Field := ⟨0x044, 0, 8⟩
abbrev SENT_TO : Field := ⟨0x048, 0, 32⟩
abbrev SENT_TO_V : Field := ⟨0x048, 0, 8⟩
abbrev SENT_FAST : Field := ⟨0x050, 0, 32⟩
abbrev SENT_FAST_STATUS : Field := ⟨0x050, 28, 4⟩
abbrev SENT_FAST_DATA : Field := ⟨0x050, 0, 24⟩
abbrev SENT_FAST_TS : Field := ⟨0x054, 0, 32⟩
abbrev SENT_SSM : Field := ⟨0x058, 0, 32⟩
abbrev SENT_SSM_ID : Field := ⟨0x058, 16, 4⟩
abbrev SENT_SSM_DATA : Field := ⟨0x058, 0, 16⟩
abbrev SENT_ERR : Field := ⟨0x05C, 0, 32⟩
abbrev SENT_ERR_N : Field := ⟨0x05C, 0, 16⟩
/-! ### GA -/
abbrev GA_CFG : Field := ⟨0x040, 0, 32⟩
abbrev GA_CFG_TRIG : Field := ⟨0x040, 8, 2⟩
abbrev GA_CFG_LAST : Field := ⟨0x040, 0, 4⟩
abbrev GA_CTRL : Field := ⟨0x044, 0, 32⟩
abbrev GA_CTRL_START : Field := ⟨0x044, 0, 1⟩
abbrev GA_OVR : Field := ⟨0x048, 0, 32⟩
abbrev GA_OVR_N : Field := ⟨0x048, 0, 8⟩
abbrev GA_SEQ : Field := ⟨0x080, 0, 32⟩
abbrev GA_SEQ_IN : Field := ⟨0x080, 0, 4⟩
abbrev GA_RES : Field := ⟨0x0C0, 0, 32⟩
abbrev GA_RES_TICKNO : Field := ⟨0x0C0, 16, 16⟩
abbrev GA_RES_CLIP : Field := ⟨0x0C0, 13, 1⟩
abbrev GA_RES_STALE : Field := ⟨0x0C0, 12, 1⟩
abbrev GA_RES_CODE : Field := ⟨0x0C0, 0, 12⟩
/-! ### MP -/
abbrev MP_STAT : Field := ⟨0x040, 0, 32⟩
abbrev MP_STAT_PEER_RANK : Field := ⟨0x040, 16, 2⟩
abbrev MP_STAT_LANES : Field := ⟨0x040, 8, 2⟩
abbrev MP_STAT_BEACON : Field := ⟨0x040, 2, 1⟩
abbrev MP_STAT_DESKEW_OK : Field := ⟨0x040, 1, 1⟩
abbrev MP_STAT_LINK : Field := ⟨0x040, 0, 1⟩
abbrev MP_RX : Field := ⟨0x044, 0, 32⟩
abbrev MP_TX : Field := ⟨0x048, 0, 32⟩
abbrev MP_CNT : Field := ⟨0x04C, 0, 32⟩
abbrev MP_CNT_CRC : Field := ⟨0x04C, 16, 16⟩
abbrev MP_CNT_LOSSES : Field := ⟨0x04C, 8, 8⟩
abbrev MP_CNT_DUP : Field := ⟨0x04C, 0, 8⟩
/-! ### BOL -/
abbrev BOL_STAT : Field := ⟨0x040, 0, 32⟩
abbrev BOL_STAT_CONFLICT : Field := ⟨0x040, 10, 1⟩
abbrev BOL_STAT_ARM : Field := ⟨0x040, 9, 1⟩
abbrev BOL_STAT_CLAIM_WIN : Field := ⟨0x040, 8, 1⟩
abbrev BOL_STAT_IN1 : Field := ⟨0x040, 3, 1⟩
abbrev BOL_STAT_IN0 : Field := ⟨0x040, 2, 1⟩
abbrev BOL_STAT_OUT : Field := ⟨0x040, 1, 1⟩
abbrev BOL_CNT : Field := ⟨0x044, 0, 32⟩
abbrev BOL_CNT_CLAIMS : Field := ⟨0x044, 24, 8⟩
abbrev BOL_CNT_WITHDRAWALS : Field := ⟨0x044, 16, 8⟩
abbrev BOL_CNT_CONFLICTS : Field := ⟨0x044, 8, 8⟩
abbrev BOL_CNT_MISMATCH : Field := ⟨0x044, 0, 8⟩
abbrev BOL_LAST_TAKE : Field := ⟨0x048, 0, 32⟩
abbrev BOL_LAST_TAKE_T : Field := ⟨0x048, 0, 16⟩
/-! ### WG -/
abbrev WG_CFG : Field := ⟨0x040, 0, 32⟩
abbrev WG_CFG_SIG_GRP : Field := ⟨0x040, 28, 4⟩
abbrev WG_CFG_XGRP : Field := ⟨0x040, 24, 2⟩
abbrev WG_CFG_AGREE_T : Field := ⟨0x040, 16, 8⟩
abbrev WG_CFG_LOG_DEPTH : Field := ⟨0x040, 8, 8⟩
abbrev WG_CFG_PERIOD_TICKS : Field := ⟨0x040, 0, 8⟩
abbrev WG_STAT : Field := ⟨0x044, 0, 32⟩
abbrev WG_STAT_STATE : Field := ⟨0x044, 28, 4⟩
abbrev WG_STAT_RANK : Field := ⟨0x044, 26, 2⟩
abbrev WG_STAT_GSIZE : Field := ⟨0x044, 24, 2⟩
abbrev WG_STAT_STEP : Field := ⟨0x044, 16, 8⟩
abbrev WG_STAT_XSWAP_LATE : Field := ⟨0x044, 15, 1⟩
abbrev WG_STAT_XTRUNC : Field := ⟨0x044, 14, 1⟩
abbrev WG_STAT_LEE : Field := ⟨0x044, 12, 1⟩
abbrev WG_STAT_READY : Field := ⟨0x044, 11, 1⟩
abbrev WG_STAT_DETACHED : Field := ⟨0x044, 10, 1⟩
abbrev WG_STAT_ARMED : Field := ⟨0x044, 9, 1⟩
abbrev WG_STAT_AUTH : Field := ⟨0x044, 8, 1⟩
abbrev WG_STAT_PEER1_READY : Field := ⟨0x044, 5, 1⟩
abbrev WG_STAT_PEER0_READY : Field := ⟨0x044, 4, 1⟩
abbrev WG_CTRL : Field := ⟨0x048, 0, 32⟩
abbrev WG_CTRL_CAUGHT_UP : Field := ⟨0x048, 0, 1⟩
abbrev WG_PERIOD : Field := ⟨0x04C, 0, 32⟩
abbrev WG_AGREE_SIG : Field := ⟨0x050, 0, 32⟩
abbrev WG_STATE_SIG : Field := ⟨0x054, 0, 32⟩
abbrev WG_APP_SIG : Field := ⟨0x058, 0, 32⟩
abbrev WG_XSWAP_AT : Field := ⟨0x05C, 0, 32⟩
abbrev WG_XSWAP_MASK : Field := ⟨0x060, 0, 32⟩
abbrev WG_XSWAP_MASK_V : Field := ⟨0x060, 0, 6⟩
abbrev WG_CNT : Field := ⟨0x064, 0, 32⟩
abbrev WG_CNT_XDIS : Field := ⟨0x064, 24, 8⟩
abbrev WG_CNT_SIGDIS : Field := ⟨0x064, 16, 8⟩
abbrev WG_CNT_RESYNCS : Field := ⟨0x064, 8, 8⟩
abbrev WG_CNT_DISPUTES : Field := ⟨0x064, 0, 8⟩
abbrev WG_CNT2 : Field := ⟨0x068, 0, 32⟩
abbrev WG_CNT2_LATE_PEER : Field := ⟨0x068, 16, 16⟩
abbrev WG_CNT2_NOCMP : Field := ⟨0x068, 0, 16⟩
abbrev WG_SNAP_STAT : Field := ⟨0x06C, 0, 32⟩
abbrev WG_SNAP_STAT_PHASE : Field := ⟨0x06C, 28, 4⟩
abbrev WG_SNAP_STAT_LEFT : Field := ⟨0x06C, 0, 24⟩
abbrev WG_LOG_BASE : Field := ⟨0x070, 0, 32⟩
abbrev WG_LOG_BASE_BASE : Field := ⟨0x070, 12, 20⟩
abbrev WG_LOG_FIRST : Field := ⟨0x074, 0, 32⟩
abbrev WG_CUT : Field := ⟨0x078, 0, 32⟩
abbrev WG_CONFIG_SIG : Field := ⟨0x07C, 0, 32⟩
abbrev WG_PEER_STAT : Field := ⟨0x080, 0, 32⟩
abbrev WG_PEER_STAT_STATE : Field := ⟨0x080, 28, 4⟩
abbrev WG_PEER_STAT_RANK : Field := ⟨0x080, 26, 2⟩
abbrev WG_PEER_STAT_AGE : Field := ⟨0x080, 16, 8⟩
abbrev WG_PEER_STAT_STEP : Field := ⟨0x080, 8, 8⟩
abbrev WG_PEER_STAT_READY : Field := ⟨0x080, 1, 1⟩
abbrev WG_PEER_STAT_PRESENT : Field := ⟨0x080, 0, 1⟩
abbrev WG_PEER_SWEEP : Field := ⟨0x084, 0, 32⟩
abbrev WG_PEER_SWEEP_PASSED : Field := ⟨0x084, 31, 1⟩
abbrev WG_PEER_SWEEP_N : Field := ⟨0x084, 0, 16⟩
abbrev WG_PEER_SIG : Field := ⟨0x088, 0, 32⟩
abbrev WG_FWIN : Field := ⟨0x100, 0, 32⟩
abbrev WG_REG_BASE : Field := ⟨0x140, 0, 32⟩
abbrev WG_REG_BASE_BLOCK : Field := ⟨0x140, 8, 24⟩
abbrev WG_REG_BASE_EN : Field := ⟨0x140, 0, 1⟩
abbrev WG_REG_LEN : Field := ⟨0x144, 0, 32⟩
abbrev WG_REG_LEN_N : Field := ⟨0x144, 0, 15⟩
abbrev WG_AGREE : Field := ⟨0x400, 0, 32⟩
abbrev WG_AGREE_SRC : Field := ⟨0x400, 28, 4⟩
abbrev WG_AGREE_RULE : Field := ⟨0x400, 26, 2⟩
abbrev WG_AGREE_INT : Field := ⟨0x400, 25, 1⟩
abbrev WG_AGREE_SEL : Field := ⟨0x400, 0, 20⟩
abbrev WG_WIN : Field := ⟨0x800, 0, 32⟩
abbrev WG_AGREED : Field := ⟨0xC00, 0, 32⟩
/-! ### DR -/
abbrev DR_CFG : Field := ⟨0x040, 0, 32⟩
abbrev DR_CFG_SWEEP_S : Field := ⟨0x040, 24, 8⟩
abbrev DR_CFG_AUTO : Field := ⟨0x040, 8, 1⟩
abbrev DR_CFG_IDLE_EN : Field := ⟨0x040, 0, 1⟩
abbrev DR_CTRL : Field := ⟨0x044, 0, 32⟩
abbrev DR_CTRL_ABORT_ALL : Field := ⟨0x044, 1, 1⟩
abbrev DR_CTRL_SWEEP : Field := ⟨0x044, 0, 1⟩
abbrev DR_STAT : Field := ⟨0x048, 0, 32⟩
abbrev DR_STAT_TOKENS_FREE : Field := ⟨0x048, 27, 5⟩
abbrev DR_STAT_RUNNING : Field := ⟨0x048, 16, 7⟩
abbrev DR_STAT_PHASE : Field := ⟨0x048, 8, 3⟩
abbrev DR_STAT_QUEUED : Field := ⟨0x048, 2, 6⟩
abbrev DR_STAT_WARN_HOLD : Field := ⟨0x048, 1, 1⟩
abbrev DR_SWEEPS : Field := ⟨0x04C, 0, 32⟩
abbrev DR_SWEEPS_PASSED : Field := ⟨0x04C, 31, 1⟩
abbrev DR_SWEEPS_N : Field := ⟨0x04C, 0, 16⟩
abbrev DR_LAST_FAIL : Field := ⟨0x050, 0, 32⟩
abbrev DR_LAST_FAIL_GROUP : Field := ⟨0x050, 24, 5⟩
abbrev DR_LAST_FAIL_INST : Field := ⟨0x050, 16, 5⟩
abbrev DR_LAST_FAIL_TEST : Field := ⟨0x050, 0, 8⟩
abbrev DR_CNT : Field := ⟨0x054, 0, 32⟩
abbrev DR_CNT_ABORTS : Field := ⟨0x054, 16, 16⟩
abbrev DR_CNT_FAILS : Field := ⟨0x054, 0, 16⟩
abbrev DR_FLOOD_US : Field := ⟨0x058, 0, 32⟩
abbrev DR_FLOOD_US_N : Field := ⟨0x058, 0, 16⟩
abbrev DR_SCRUB : Field := ⟨0x05C, 0, 32⟩
abbrev DR_FAILMAP : Field := ⟨0x060, 0, 32⟩
/-! ### BYT -/
abbrev BYT_TH : Field := ⟨0x080, 0, 32⟩
abbrev BYT_TH_B : Field := ⟨0x080, 16, 16⟩
abbrev BYT_TH_A : Field := ⟨0x080, 0, 16⟩
abbrev BYT_CFG : Field := ⟨0x084, 0, 32⟩
abbrev BYT_CFG_MODE : Field := ⟨0x084, 30, 2⟩
abbrev BYT_CFG_FILT : Field := ⟨0x084, 24, 4⟩
abbrev BYT_CFG_HYST : Field := ⟨0x084, 0, 16⟩
abbrev BYT_VAL : Field := ⟨0x088, 0, 32⟩
abbrev BYT_VAL_STATE : Field := ⟨0x088, 30, 2⟩
abbrev BYT_VAL_STALE : Field := ⟨0x088, 29, 1⟩
abbrev BYT_VAL_READ : Field := ⟨0x088, 0, 16⟩
abbrev BYT_CNT : Field := ⟨0x08C, 0, 32⟩
abbrev BYT_CNT_EXC : Field := ⟨0x08C, 16, 16⟩
abbrev BYT_CNT_WARN : Field := ⟨0x08C, 0, 16⟩
/-! ### BYV -/
abbrev BYV_TH : Field := ⟨0x080, 0, 32⟩
abbrev BYV_TH_B : Field := ⟨0x080, 16, 16⟩
abbrev BYV_TH_A : Field := ⟨0x080, 0, 16⟩
abbrev BYV_CFG : Field := ⟨0x084, 0, 32⟩
abbrev BYV_CFG_MODE : Field := ⟨0x084, 30, 2⟩
abbrev BYV_CFG_FILT : Field := ⟨0x084, 24, 4⟩
abbrev BYV_CFG_HYST : Field := ⟨0x084, 0, 16⟩
abbrev BYV_VAL : Field := ⟨0x088, 0, 32⟩
abbrev BYV_VAL_STATE : Field := ⟨0x088, 30, 2⟩
abbrev BYV_VAL_STALE : Field := ⟨0x088, 29, 1⟩
abbrev BYV_VAL_READ : Field := ⟨0x088, 0, 16⟩
abbrev BYV_CNT : Field := ⟨0x08C, 0, 32⟩
abbrev BYV_CNT_EXC : Field := ⟨0x08C, 16, 16⟩
abbrev BYV_CNT_WARN : Field := ⟨0x08C, 0, 16⟩
/-! ### BYP -/
abbrev BYP_TH : Field := ⟨0x080, 0, 32⟩
abbrev BYP_TH_B : Field := ⟨0x080, 16, 16⟩
abbrev BYP_TH_A : Field := ⟨0x080, 0, 16⟩
abbrev BYP_CFG : Field := ⟨0x084, 0, 32⟩
abbrev BYP_CFG_MODE : Field := ⟨0x084, 30, 2⟩
abbrev BYP_CFG_FILT : Field := ⟨0x084, 24, 4⟩
abbrev BYP_CFG_HYST : Field := ⟨0x084, 0, 16⟩
abbrev BYP_VAL : Field := ⟨0x088, 0, 32⟩
abbrev BYP_VAL_STATE : Field := ⟨0x088, 30, 2⟩
abbrev BYP_VAL_STALE : Field := ⟨0x088, 29, 1⟩
abbrev BYP_VAL_READ : Field := ⟨0x088, 0, 16⟩
abbrev BYP_CNT : Field := ⟨0x08C, 0, 32⟩
abbrev BYP_CNT_EXC : Field := ⟨0x08C, 16, 16⟩
abbrev BYP_CNT_WARN : Field := ⟨0x08C, 0, 16⟩

end Sys2Proof.Machine
end

