-- ==== Sys2Proof/Machine/RegTable.lean ====
section
/-!
DEFINITION. Machine/RegTable.lean: the block registers of every page kind, with access codes, reset values, legal sets and marks
(Lockable, Keyed, Idle only, banked), from the register tables of the block chapters (R90-R97, R125-R131, R159-R165 and so on).
-/

namespace Sys2Proof.Machine

/-- The block registers of the SYS page (R91, R92, R93, R516). -/
def regsSYS : List RegDesc := [
  { off := 0x040, reset := 0x00000001#32, fields := [{ lo := 16, width := 8, acc := .ro }, { lo := 8, width := 4, acc := .ro }, { lo := 3, width := 1, acc := .ro }, { lo := 0, width := 3, acc := .ro }] },  -- TIDE_STAT
  { off := 0x044, keyed := true, fields := [{ lo := 1, width := 1, acc := .wo }, { lo := 0, width := 1, acc := .wo }] },  -- TIDE_REQ
  { off := 0x048, fields := [{ lo := 24, width := 5, acc := .ro }, { lo := 16, width := 5, acc := .ro }, { lo := 8, width := 8, acc := .ro }, { lo := 1, width := 1, acc := .w1c }, { lo := 0, width := 1, acc := .w1c }] },  -- KCB_STAT
  { off := 0x050, fields := [{ lo := 8, width := 8, acc := .rw }, { lo := 0, width := 8, acc := .rw }] },  -- GPIO_CFG
  { off := 0x054, fields := [{ lo := 0, width := 8, acc := .rw }] },  -- GPIO_OUT
  { off := 0x058, fields := [{ lo := 0, width := 8, acc := .ro }] }  -- GPIO_IN
  ]

/-- The block registers of the AON page (R94, R95, R96). -/
def regsAON : List RegDesc := [
  { off := 0x040, fields := [{ lo := 0, width := 1, acc := .rw }, { lo := 8, width := 1, acc := .ro }, { lo := 16, width := 8, acc := .ro }] },  -- AON_OSC
  { off := 0x044, reset := 0x40000000#32, fields := [{ lo := 24, width := 8, acc := .rw, legal := .range 1 255 }, { lo := 17, width := 1, acc := .rw }, { lo := 16, width := 1, acc := .rw }, { lo := 8, width := 4, acc := .rw }, { lo := 0, width := 4, acc := .rw }] },  -- WAKE_CFG
  { off := 0x048, reset := 0x00000040#32, fields := [{ lo := 6, width := 1, acc := .w1c }, { lo := 5, width := 1, acc := .w1c }, { lo := 4, width := 1, acc := .w1c }, { lo := 0, width := 4, acc := .w1c }] },  -- WAKE_SRC
  { off := 0x04C, fields := [{ lo := 0, width := 16, acc := .ro }] }  -- AON_CAL
  ]

/-- The block registers of the PLA pages (R97). -/
def regsPLA : List RegDesc := [
  { off := 0x040, fields := [{ lo := 0, width := 1, acc := .ro }, { lo := 1, width := 1, acc := .ro }, { lo := 2, width := 1, acc := .ro }, { lo := 3, width := 1, acc := .ro }, { lo := 8, width := 8, acc := .ro }] },  -- PLL_STAT
  { off := 0x044, fields := [{ lo := 0, width := 10, acc := .ro }] },  -- XO_COUNT
  { off := 0x048, fields := [{ lo := 0, width := 8, acc := .ro }] }  -- DL_TRIM
  ]

/-- The block registers of the SUP page (R125, R126, R127, R128, R518). -/
def regsSUP : List RegDesc := [
  { off := 0x040, fields := [{ lo := 9, width := 1, acc := .ro }, { lo := 8, width := 1, acc := .ro }, { lo := 7, width := 1, acc := .ro }, { lo := 6, width := 1, acc := .ro }, { lo := 5, width := 1, acc := .ro }, { lo := 4, width := 1, acc := .ro }, { lo := 3, width := 1, acc := .ro }, { lo := 2, width := 1, acc := .ro }, { lo := 1, width := 1, acc := .ro }, { lo := 0, width := 1, acc := .ro }] },  -- SUP_STAT
  { off := 0x044, fields := [{ lo := 1, width := 8, acc := .w1c }] },  -- SUP_EVT
  { off := 0x048, reset := 0x00000003#32, lock := true, fields := [{ lo := 4, width := 1, acc := .rw }, { lo := 1, width := 1, acc := .rw }, { lo := 0, width := 1, acc := .rw }] },  -- SUP_CFG
  { off := 0x04C, fields := [{ lo := 16, width := 16, acc := .ro }, { lo := 0, width := 16, acc := .ro }] },  -- VSUP_MEAS
  { off := 0x050, fields := [{ lo := 24, width := 8, acc := .ro }, { lo := 16, width := 8, acc := .ro }, { lo := 8, width := 8, acc := .ro }, { lo := 0, width := 8, acc := .ro }] },  -- BO_COUNT
  { off := 0x054, fields := [{ lo := 8, width := 8, acc := .ro }, { lo := 5, width := 1, acc := .w1c }, { lo := 4, width := 1, acc := .w1c }, { lo := 3, width := 1, acc := .w1c }, { lo := 2, width := 1, acc := .w1c }, { lo := 1, width := 1, acc := .w1c }, { lo := 0, width := 1, acc := .w1c }] },  -- RST_CAUSE
  { off := 0x058, fields := [{ lo := 0, width := 4, acc := .rw }] },  -- SS_CTRL
  { off := 0x05C, fields := [{ lo := 24, width := 4, acc := .ro }, { lo := 16, width := 4, acc := .ro }, { lo := 8, width := 4, acc := .ro }, { lo := 0, width := 4, acc := .ro }] }  -- SS_STAT
  ]

/-- The block registers of the SEC page (R129, R130, R131). -/
def regsSEC : List RegDesc := [
  { off := 0x040, fields := [{ lo := 16, width := 6, acc := .ro }, { lo := 8, width := 2, acc := .ro }, { lo := 6, width := 1, acc := .ro }, { lo := 5, width := 1, acc := .ro }, { lo := 4, width := 1, acc := .ro }, { lo := 3, width := 1, acc := .ro }, { lo := 2, width := 1, acc := .ro }, { lo := 0, width := 1, acc := .ro }] },  -- BOOT_STAT
  { off := 0x044, keyed := true, fields := [{ lo := 8, width := 1, acc := .ro }, { lo := 1, width := 1, acc := .wo }, { lo := 0, width := 1, acc := .wo }] },  -- BANK_CTRL
  { off := 0x048, fields := [{ lo := 8, width := 3, acc := .ro }, { lo := 0, width := 6, acc := .ro }] },  -- ROLLBACK
  { off := 0x04C, keyed := true, fields := [{ lo := 4, width := 1, acc := .wo }, { lo := 1, width := 1, acc := .wo }, { lo := 0, width := 1, acc := .wo }] },  -- UPD_CTRL
  { off := 0x050, n := 3, fields := [{ lo := 0, width := 32, acc := .wo }] },  -- UPD_NONCE
  { off := 0x05C, fields := [{ lo := 0, width := 32, acc := .wo }] },  -- UPD_DATA
  { off := 0x060, fields := [{ lo := 8, width := 24, acc := .ro }, { lo := 4, width := 1, acc := .ro }, { lo := 3, width := 1, acc := .ro }, { lo := 2, width := 1, acc := .ro }, { lo := 1, width := 1, acc := .ro }, { lo := 0, width := 1, acc := .ro }] }  -- UPD_STAT
  ]

/-- The block registers of the CS page (R159, R160, R161, R162). -/
def regsCS : List RegDesc := [
  { off := 0x040, lock := true, fields := [{ lo := 16, width := 1, acc := .rw }, { lo := 4, width := 1, acc := .rw, idle := true }, { lo := 0, width := 2, acc := .rw, idle := true }] },  -- CFG
  { off := 0x044, reset := 0x43480000#32, fields := [{ lo := 0, width := 32, acc := .rw, legal := .f32 0x3DCCCCCD#32 0x461C4000#32 0x3DCCCCCD#32 }] },  -- SCALE
  { off := 0x048, reset := 0x00000001#32, fields := [{ lo := 4, width := 1, acc := .ro }, { lo := 3, width := 1, acc := .ro }, { lo := 2, width := 1, acc := .ro }, { lo := 1, width := 1, acc := .ro }, { lo := 0, width := 1, acc := .ro }] },  -- STAT
  { off := 0x04C, reset := 0x00010000#32, fields := [{ lo := 18, width := 1, acc := .ro }, { lo := 17, width := 1, acc := .ro }, { lo := 16, width := 1, acc := .ro }, { lo := 0, width := 16, acc := .ro }] },  -- FAST
  { off := 0x050, reset := 0x01000000#32, fields := [{ lo := 26, width := 1, acc := .ro }, { lo := 25, width := 1, acc := .ro }, { lo := 24, width := 1, acc := .ro }, { lo := 0, width := 24, acc := .ro }] },  -- PRECISE
  { off := 0x054, fields := [{ lo := 0, width := 32, acc := .ro }] },  -- AMPS
  { off := 0x058, fields := [{ lo := 0, width := 32, acc := .ro }] },  -- OFFSET
  { off := 0x05C, reset := 0x00400000#32, fields := [{ lo := 0, width := 24, acc := .ro }] },  -- GAIN
  { off := 0x060, fields := [{ lo := 24, width := 8, acc := .rc }, { lo := 16, width := 8, acc := .rc }, { lo := 0, width := 16, acc := .rc }] },  -- CNT
  { off := 0x064, reset := 0xFFFF0000#32, fields := [{ lo := 16, width := 16, acc := .ro }, { lo := 0, width := 16, acc := .ro }] }  -- CAL
  ]

/-- The block registers of the CST page (R159, R161, R162, R164, R165). -/
def regsCST : List RegDesc := [
  { off := 0x040, fields := [{ lo := 4, width := 1, acc := .ro }, { lo := 0, width := 2, acc := .ro }] },  -- CFG
  { off := 0x044, reset := 0x43480000#32, fields := [{ lo := 0, width := 32, acc := .ro }] },  -- SCALE
  { off := 0x048, reset := 0x00000001#32, fields := [{ lo := 4, width := 1, acc := .ro }, { lo := 3, width := 1, acc := .ro }, { lo := 2, width := 1, acc := .ro }, { lo := 1, width := 1, acc := .ro }, { lo := 0, width := 1, acc := .ro }] },  -- STAT
  { off := 0x04C, reset := 0x00010000#32, fields := [{ lo := 18, width := 1, acc := .ro }, { lo := 17, width := 1, acc := .ro }, { lo := 16, width := 1, acc := .ro }, { lo := 0, width := 16, acc := .ro }] },  -- FAST
  { off := 0x050, reset := 0x01000000#32, fields := [{ lo := 26, width := 1, acc := .ro }, { lo := 25, width := 1, acc := .ro }, { lo := 24, width := 1, acc := .ro }, { lo := 0, width := 24, acc := .ro }] },  -- PRECISE
  { off := 0x054, fields := [{ lo := 0, width := 32, acc := .ro }] },  -- AMPS
  { off := 0x058, fields := [{ lo := 0, width := 32, acc := .ro }] },  -- OFFSET
  { off := 0x05C, reset := 0x00400000#32, fields := [{ lo := 0, width := 24, acc := .ro }] },  -- GAIN
  { off := 0x060, fields := [{ lo := 24, width := 8, acc := .rc }, { lo := 16, width := 8, acc := .rc }, { lo := 0, width := 16, acc := .rc }] },  -- CNT
  { off := 0x064, reset := 0xFFFF0000#32, fields := [{ lo := 16, width := 16, acc := .ro }, { lo := 0, width := 16, acc := .ro }] },  -- CAL
  { off := 0x080, reset := 0x00000003#32, lock := true, fields := [{ lo := 1, width := 1, acc := .rw }, { lo := 0, width := 1, acc := .rw }] },  -- TD_CTRL
  { off := 0x084, fields := [{ lo := 8, width := 1, acc := .wo }, { lo := 0, width := 5, acc := .wo }] },  -- TD_REQ
  { off := 0x088, reset := 0x002007D0#32, lock := true, fields := [{ lo := 16, width := 8, acc := .rw, legal := .range 8 255 }, { lo := 0, width := 16, acc := .rw, legal := .range 100 60000 }] },  -- TD_TIME
  { off := 0x08C, reset := 0x01005414#32, lock := true, fields := [{ lo := 16, width := 16, acc := .rw, legal := .range 64 4096 }, { lo := 12, width := 4, acc := .rw, legal := .range 1 15 }, { lo := 8, width := 4, acc := .rw, legal := .range 1 15 }, { lo := 0, width := 8, acc := .rw, legal := .range 5 200 }] },  -- TD_LIMIT
  { off := 0x090, reset := 0x0000001F#32, fields := [{ lo := 16, width := 8, acc := .ro }, { lo := 15, width := 1, acc := .w1c }, { lo := 14, width := 1, acc := .ro }, { lo := 13, width := 1, acc := .ro }, { lo := 12, width := 1, acc := .ro }, { lo := 8, width := 3, acc := .ro }, { lo := 0, width := 5, acc := .ro }] },  -- TD_STAT
  { off := 0x094, fields := [{ lo := 16, width := 16, acc := .rc }, { lo := 0, width := 16, acc := .rc }] },  -- TD_CNT
  { off := 0x098, fields := [{ lo := 0, width := 16, acc := .ro }] }  -- TD_REF
  ]

/-- The block registers of the SC page (R195, R196, R197, R198). -/
def regsSC : List RegDesc := [
  { off := 0x040, lock := true, idle := true, fields := [{ lo := 8, width := 1, acc := .rw }, { lo := 0, width := 4, acc := .rw, legal := .range 0 6 }] },  -- MODE
  { off := 0x044, reset := 0x00000104#32, lock := true, fields := [{ lo := 8, width := 2, acc := .rw, legal := .range 0 2 }, { lo := 0, width := 8, acc := .rw, legal := .range 1 255 }] },  -- FILT
  { off := 0x048, reset := 0x08001000#32, lock := true, idle := true, fields := [{ lo := 27, width := 5, acc := .rw, legal := .range 1 31 }, { lo := 0, width := 25, acc := .rw, legal := .range 4 16777216 }] },  -- GEOM
  { off := 0x04C, lock := true, fields := [{ lo := 0, width := 32, acc := .rw, legal := .f32 0xC0490FDB#32 0x40490FDB#32 0x00000000#32 }] },  -- EOFS
  { off := 0x050, lock := true, fields := [{ lo := 30, width := 2, acc := .rw, legal := .range 0 2 }, { lo := 28, width := 2, acc := .rw }, { lo := 24, width := 4, acc := .rw }, { lo := 0, width := 24, acc := .rw }] },  -- ZCFG
  { off := 0x054, reset := 0x01400405#32, lock := true, fields := [{ lo := 16, width := 16, acc := .rw, legal := .range 1 65535 }, { lo := 8, width := 4, acc := .rw, legal := .range 1 8 }, { lo := 0, width := 8, acc := .rw, legal := .range 1 255 }] },  -- SPDCFG
  { off := 0x058, reset := 0x00000064#32, lock := true, fields := [{ lo := 0, width := 11, acc := .rw, legal := .range 1 2000 }] },  -- STILL
  { off := 0x05C, reset := 0x00C0590A#32, lock := true, idle := true, fields := [{ lo := 28, width := 4, acc := .rw }, { lo := 27, width := 1, acc := .rw }, { lo := 26, width := 1, acc := .rw }, { lo := 24, width := 2, acc := .rw, legal := .range 0 2 }, { lo := 19, width := 5, acc := .rw, legal := .range 8 24 }, { lo := 14, width := 5, acc := .rw }, { lo := 8, width := 6, acc := .rw, legal := .range 8 40 }, { lo := 0, width := 8, acc := .rw, legal := .range 1 64 }] },  -- FRAME
  { off := 0x060, reset := 0x00003203#32, lock := true, fields := [{ lo := 24, width := 8, acc := .rw }, { lo := 16, width := 8, acc := .rw }, { lo := 8, width := 8, acc := .rw, legal := .range 0 199 }, { lo := 0, width := 8, acc := .rw, legal := .range 1 255 }] },  -- TIMING
  { off := 0x064, reset := 0x10323296#32, lock := true, idle := true, fields := [{ lo := 28, width := 4, acc := .rw, legal := .range 1 8 }, { lo := 24, width := 1, acc := .rw }, { lo := 16, width := 8, acc := .rw, legal := .range 10 200 }, { lo := 8, width := 8, acc := .rw, legal := .range 10 100 }, { lo := 0, width := 8, acc := .rw, legal := .range 100 250 }] },  -- RSLV
  { off := 0x068, reset := 0x000A0032#32, lock := true, fields := [{ lo := 31, width := 1, acc := .rw }, { lo := 28, width := 2, acc := .rw }, { lo := 16, width := 8, acc := .rw, legal := .range 5 100 }, { lo := 0, width := 16, acc := .rw, legal := .range 1 1000 }] },  -- SLACK
  { off := 0x080, reset := 0x00000001#32, fields := [{ lo := 9, width := 1, acc := .ro }, { lo := 8, width := 1, acc := .ro }, { lo := 7, width := 1, acc := .ro }, { lo := 6, width := 1, acc := .ro }, { lo := 5, width := 1, acc := .ro }, { lo := 4, width := 1, acc := .ro }, { lo := 3, width := 1, acc := .ro }, { lo := 0, width := 1, acc := .ro }] },  -- STAT
  { off := 0x084, fields := [{ lo := 0, width := 32, acc := .ro }] },  -- POS
  { off := 0x088, fields := [{ lo := 0, width := 32, acc := .ro }] },  -- REV
  { off := 0x08C, fields := [{ lo := 0, width := 25, acc := .ro }] },  -- ANGLE
  { off := 0x090, fields := [{ lo := 0, width := 32, acc := .ro }] },  -- SPEED
  { off := 0x094, fields := [{ lo := 0, width := 32, acc := .ro }] },  -- ANGLE_M
  { off := 0x098, fields := [{ lo := 0, width := 32, acc := .ro }] },  -- ANGLE_E
  { off := 0x09C, fields := [{ lo := 0, width := 32, acc := .ro }] },  -- EDGE_TS
  { off := 0x0A0, fields := [{ lo := 0, width := 32, acc := .ro }] },  -- LATCH_TS
  { off := 0x0A4, fields := [{ lo := 24, width := 8, acc := .rc }, { lo := 16, width := 8, acc := .rc }, { lo := 0, width := 16, acc := .rc }] },  -- ERRCNT
  { off := 0x0A8, fields := [{ lo := 0, width := 32, acc := .ro }] },  -- SLACK_POS
  { off := 0x0AC, fields := [{ lo := 16, width := 8, acc := .ro }, { lo := 2, width := 1, acc := .ro }, { lo := 1, width := 1, acc := .ro }, { lo := 0, width := 1, acc := .ro }] }  -- SLACK_STAT
  ]

/-- The block registers of the SX page (R199). -/
def regsSX : List RegDesc := [
  { off := 0x040, reset := 0x00323264#32, lock := true, idle := true, fields := [{ lo := 31, width := 1, acc := .rw }, { lo := 30, width := 1, acc := .rw }, { lo := 16, width := 8, acc := .rw, legal := .range 10 100 }, { lo := 8, width := 8, acc := .rw, legal := .range 10 100 }, { lo := 0, width := 8, acc := .rw, legal := .range 20 200 }] },  -- EXC
  { off := 0x044, fields := [{ lo := 17, width := 1, acc := .ro }, { lo := 16, width := 1, acc := .ro }, { lo := 0, width := 16, acc := .ro }] }  -- EXC_STAT
  ]

/-- The block registers of the CE page (R208, R230, R231, R232, R233, R234, R235). -/
def regsCE : List RegDesc := [
  { off := 0x040, reset := 0x01900000#32, lock := true, idle := true, fields := [{ lo := 16, width := 16, acc := .rw, legal := .range 40 4000 }, { lo := 8, width := 1, acc := .rw }] },  -- CFG
  { off := 0x044, fields := [{ lo := 0, width := 1, acc := .wo }] },  -- CTRL
  { off := 0x048, fields := [{ lo := 24, width := 8, acc := .ro }, { lo := 16, width := 8, acc := .ro }, { lo := 12, width := 1, acc := .ro }, { lo := 8, width := 4, acc := .ro }, { lo := 4, width := 4, acc := .ro }] },  -- STAT
  { off := 0x04C, reset := 0x00000014#32, lock := true, fields := [{ lo := 31, width := 1, acc := .rw }, { lo := 16, width := 10, acc := .rw }, { lo := 0, width := 8, acc := .rw, legal := .range 10 200 }] },  -- TICK_CFG
  { off := 0x050, fields := [{ lo := 0, width := 32, acc := .ro }] },  -- TICKNO
  { off := 0x054, fields := [{ lo := 24, width := 8, acc := .ro }, { lo := 8, width := 1, acc := .ro }, { lo := 0, width := 8, acc := .ro }] },  -- TICK_SKIP
  { off := 0x060, n := 4, stride := 8, reset := 0x00000001#32, lock := true, idle := true, fields := [{ lo := 31, width := 1, acc := .rw }, { lo := 8, width := 8, acc := .rw }, { lo := 0, width := 8, acc := .rw, legal := .range 1 255 }] },  -- GRP_SCHED
  { off := 0x064, n := 4, stride := 8, lock := true, idle := true, fields := [{ lo := 8, width := 8, acc := .rw }, { lo := 0, width := 8, acc := .rw }] },  -- GRP_RANGE
  { off := 0x080, n := 4, stride := 16, fields := [{ lo := 16, width := 16, acc := .ro }, { lo := 0, width := 16, acc := .ro }] },  -- GRP_TIME
  { off := 0x084, n := 4, stride := 16, fields := [{ lo := 16, width := 16, acc := .rc }, { lo := 0, width := 16, acc := .rc }] },  -- GRP_CNT
  { off := 0x088, n := 4, stride := 16, fields := [{ lo := 24, width := 2, acc := .ro }, { lo := 20, width := 2, acc := .ro }, { lo := 8, width := 1, acc := .w1c }, { lo := 4, width := 1, acc := .w1c }, { lo := 3, width := 1, acc := .w1c }, { lo := 2, width := 1, acc := .w1c }, { lo := 1, width := 1, acc := .w1c }, { lo := 0, width := 1, acc := .w1c }] },  -- GRP_FLAGS
  { off := 0x0C0, n := 32, lock := true, idle := true, fields := [{ lo := 28, width := 4, acc := .rw, legal := .above 6 0 }, { lo := 0, width := 28, acc := .rw }] },  -- LINK
  { off := 0x140, n := 32, fields := [{ lo := 0, width := 32, acc := .rw }] },  -- X
  { off := 0x1C0, lock := true, fields := [{ lo := 0, width := 32, acc := .rw }] },  -- XMASK
  { off := 0x200, n := 32, fields := [{ lo := 0, width := 32, acc := .ro }] },  -- OUT
  { off := 0x280, n := 3, fields := [{ lo := 0, width := 32, acc := .ro }] },  -- REF
  { off := 0x400, n := 256, banked := true, fields := [{ lo := 0, width := 32, acc := .rw }] }  -- C
  ]

/-- The block registers of the HL page (R257, R258, R259). -/
def regsHL : List RegDesc := [
  { off := 0x040, reset := 0x00070523#32, lock := true, idle := true, fields := [{ lo := 18, width := 1, acc := .rw }, { lo := 17, width := 1, acc := .rw }, { lo := 16, width := 1, acc := .rw }, { lo := 8, width := 5, acc := .rw, legal := .range 4 31 }, { lo := 4, width := 3, acc := .rw }, { lo := 0, width := 4, acc := .rw }] },  -- CFG
  { off := 0x044, reset := 0x00400028#32, lock := true, fields := [{ lo := 16, width := 8, acc := .rw }, { lo := 0, width := 8, acc := .rw }] },  -- PRED
  { off := 0x048, reset := 0x0000000F#32, lock := true, fields := [{ lo := 0, width := 5, acc := .rw }] },  -- COAST
  { off := 0x04C, reset := 0x10002000#32, lock := true, fields := [{ lo := 24, width := 8, acc := .rw, legal := .range 1 255 }, { lo := 0, width := 16, acc := .rw, legal := .range 1 32767 }] },  -- ERRLIM
  { off := 0x080, reset := 0x10000040#32, banked := true, fields := [{ lo := 16, width := 16, acc := .rw, legal := .range 16 16383 }, { lo := 0, width := 16, acc := .rw, legal := .range 16 16383 }] },  -- BAND
  { off := 0x084, reset := 0x00000400#32, banked := true, fields := [{ lo := 0, width := 16, acc := .rw }] },  -- HINIT
  { off := 0x0C0, fields := [{ lo := 16, width := 16, acc := .ro }, { lo := 10, width := 2, acc := .ro }, { lo := 9, width := 1, acc := .ro }, { lo := 8, width := 1, acc := .ro }, { lo := 4, width := 1, acc := .ro }, { lo := 3, width := 1, acc := .ro }, { lo := 2, width := 1, acc := .ro }, { lo := 1, width := 1, acc := .ro }] },  -- STAT
  { off := 0x0C4, fields := [{ lo := 16, width := 1, acc := .ro }, { lo := 0, width := 16, acc := .ro }] },  -- REFC
  { off := 0x0C8, fields := [{ lo := 16, width := 16, acc := .ro }, { lo := 0, width := 16, acc := .ro }] },  -- PERIOD
  { off := 0x0CC, fields := [{ lo := 16, width := 16, acc := .ro }, { lo := 0, width := 16, acc := .ro }] },  -- SLOPE
  { off := 0x0D0, fields := [{ lo := 16, width := 16, acc := .rc }, { lo := 0, width := 16, acc := .rc }] },  -- CNT
  { off := 0x0D4, fields := [{ lo := 16, width := 16, acc := .rc }, { lo := 0, width := 8, acc := .rc }] },  -- CNT2
  { off := 0x0D8, fields := [{ lo := 0, width := 32, acc := .ro }] }  -- EDGES
  ]

/-- The block registers of the HC page (R260, R261, R262). -/
def regsHC : List RegDesc := [
  { off := 0x040, reset := 0x00802841#32, lock := true, idle := true, fields := [{ lo := 16, width := 11, acc := .rw, legal := .range 0 1279 }, { lo := 8, width := 8, acc := .rw, legal := .range 5 200 }, { lo := 5, width := 2, acc := .rw, legal := .range 1 3 }, { lo := 4, width := 1, acc := .rw }, { lo := 0, width := 2, acc := .rw, legal := .range 0 2 }] },  -- CFG
  { off := 0x080, reset := 0x1904B0C8#32, banked := true, fields := [{ lo := 20, width := 10, acc := .rw, legal := .range 10 1000 }, { lo := 10, width := 10, acc := .rw, legal := .range 10 1000 }, { lo := 0, width := 10, acc := .rw, legal := .range 10 1000 }] },  -- FWIN
  { off := 0x0C0, fields := [{ lo := 16, width := 3, acc := .ro }, { lo := 8, width := 1, acc := .ro }, { lo := 0, width := 3, acc := .ro }] },  -- STAT
  { off := 0x0C4, fields := [{ lo := 16, width := 16, acc := .rc }, { lo := 0, width := 16, acc := .rc }] },  -- CNT
  { off := 0x0C8, fields := [{ lo := 0, width := 32, acc := .ro }] },  -- ZSWAPS
  { off := 0x0CC, reset := 0x00013880#32, fields := [{ lo := 0, width := 24, acc := .ro }] }  -- TMIN
  ]

/-- The block registers of the SW page (R279, R280). -/
def regsSW : List RegDesc := [
  { off := 0x040, fields := [{ lo := 8, width := 4, acc := .wo }, { lo := 0, width := 4, acc := .wo }] },  -- CMD
  { off := 0x044, fields := [{ lo := 0, width := 4, acc := .ro }] },  -- RESTORE
  { off := 0x080, n := 4, stride := 64, reset := 0x00000040#32, lock := true, fields := [{ lo := 31, width := 1, acc := .rw }, { lo := 30, width := 1, acc := .rw }, { lo := 29, width := 1, acc := .rw }, { lo := 24, width := 2, acc := .rw }, { lo := 16, width := 4, acc := .rw, legal := .range 0 11 }, { lo := 0, width := 10, acc := .rw, legal := .range 0 511 }] },  -- TBL_CFG
  { off := 0x084, n := 4, stride := 64, fields := [{ lo := 0, width := 32, acc := .rw, legal := .f32 0x00000000#32 0x3F800000#32 0x00000000#32 }] },  -- TBL_GAIN
  { off := 0x088, n := 4, stride := 64, reset := 0x3F800000#32, fields := [{ lo := 0, width := 32, acc := .rw, legal := .f32 0x3F666666#32 0x3F800000#32 0x3F800000#32 }] },  -- TBL_LAMBDA
  { off := 0x08C, n := 4, stride := 64, reset := 0x3F800000#32, fields := [{ lo := 0, width := 32, acc := .rw, legal := .f32 0x37800000#32 0x3F800000#32 0x3F800000#32 }] },  -- TBL_ALPHA
  { off := 0x090, n := 4, stride := 64, fields := [{ lo := 0, width := 32, acc := .rw, legal := .f32 0x00000000#32 0x461C4000#32 0x00000000#32 }] },  -- TBL_WMIN
  { off := 0x094, n := 4, stride := 64, reset := 0x461C4000#32, fields := [{ lo := 0, width := 32, acc := .rw, legal := .f32 0x00000000#32 0x461C4000#32 0x461C4000#32 }] },  -- TBL_WMAX
  { off := 0x098, n := 4, stride := 64, reset := 0x3F800000#32, fields := [{ lo := 0, width := 32, acc := .rw, legal := .f32 0xC47A0000#32 0x447A0000#32 0x3F800000#32 }] },  -- TBL_SPD_MUL
  { off := 0x09C, n := 4, stride := 64, reset := 0x7F7FFFFF#32, fields := [{ lo := 0, width := 32, acc := .rw, legal := .f32 0x00000000#32 0x7F7FFFFF#32 0x7F7FFFFF#32 }] },  -- TBL_RMSLIM
  { off := 0x0A0, n := 4, stride := 64, reset := 0x7F7FFFFF#32, fields := [{ lo := 0, width := 32, acc := .rw, legal := .f32 0x00000000#32 0x7F7FFFFF#32 0x7F7FFFFF#32 }] },  -- TBL_BMAX
  { off := 0x0A4, n := 4, stride := 64, fields := [{ lo := 0, width := 16, acc := .rw }] },  -- TBL_TAG
  { off := 0x0A8, n := 4, stride := 64, fields := [{ lo := 2, width := 1, acc := .ro }, { lo := 1, width := 1, acc := .ro }, { lo := 0, width := 1, acc := .ro }] },  -- TBL_STAT
  { off := 0x0AC, n := 4, stride := 64, fields := [{ lo := 0, width := 32, acc := .ro }] },  -- TBL_RMS
  { off := 0x0B0, n := 4, stride := 64, fields := [{ lo := 0, width := 32, acc := .ro }] },  -- TBL_UPDATES
  { off := 0x0B4, n := 4, stride := 64, fields := [{ lo := 16, width := 16, acc := .rc }, { lo := 8, width := 8, acc := .rc }, { lo := 0, width := 8, acc := .rc }] }  -- TBL_CNT
  ]

/-- The block registers of the IJ page (R281). -/
def regsIJ : List RegDesc := [
  { off := 0x040, lock := true, idle := true, fields := [{ lo := 0, width := 3, acc := .rw, legal := .range 0 4 }] },  -- CFG
  { off := 0x044, fields := [{ lo := 1, width := 1, acc := .wo }, { lo := 0, width := 1, acc := .wo }] },  -- CMD
  { off := 0x048, idle := true, fields := [{ lo := 0, width := 32, acc := .rw }] },  -- AMP
  { off := 0x04C, lock := true, fields := [{ lo := 0, width := 32, acc := .rw, legal := .f32 0x00000000#32 0x461C4000#32 0x00000000#32 }] },  -- LIMIT
  { off := 0x050, idle := true, fields := [{ lo := 0, width := 16, acc := .rw }] },  -- POINTS
  { off := 0x054, idle := true, fields := [{ lo := 0, width := 32, acc := .rw }] },  -- START_TICK
  { off := 0x058, reset := 0x0000C350#32, idle := true, fields := [{ lo := 0, width := 24, acc := .rw, legal := .range 1 16777215 }] },  -- DUR
  { off := 0x05C, n := 3, idle := true, fields := [{ lo := 0, width := 32, acc := .rw }] },  -- PAR
  { off := 0x080, n := 8, idle := true, fields := [{ lo := 24, width := 8, acc := .rw }, { lo := 16, width := 8, acc := .rw }, { lo := 0, width := 16, acc := .rw }] },  -- MSC
  { off := 0x0C0, fields := [{ lo := 9, width := 1, acc := .w1c }, { lo := 8, width := 1, acc := .w1c }, { lo := 0, width := 2, acc := .ro }] },  -- STAT
  { off := 0x0C4, fields := [{ lo := 0, width := 32, acc := .ro }] },  -- SAMPLE
  { off := 0x0C8, fields := [{ lo := 0, width := 24, acc := .ro }] }  -- ELAPSED
  ]

/-- The block registers of the CP page (R282, R283). -/
def regsCP : List RegDesc := [
  { off := 0x040, n := 8, fields := [{ lo := 0, width := 32, acc := .ro }] },  -- SEGMAP
  { off := 0x060, reset := 0x00400000#32, fields := [{ lo := 16, width := 7, acc := .ro }] },  -- POOL
  { off := 0x064, fields := [{ lo := 0, width := 16, acc := .rc }] },  -- REFUSED
  { off := 0x080, n := 6, stride := 64, reset := 0x01010000#32, fields := [{ lo := 24, width := 8, acc := .rw, legal := .range 1 255 }, { lo := 16, width := 8, acc := .rw, legal := .range 1 255 }, { lo := 12, width := 2, acc := .rw }, { lo := 8, width := 3, acc := .rw }, { lo := 4, width := 2, acc := .rw }] },  -- CAP_CFG
  { off := 0x084, n := 6, stride := 64, fields := [{ lo := 0, width := 32, acc := .rw }] },  -- CAP_TLEVEL
  { off := 0x088, n := 6, stride := 64, fields := [{ lo := 12, width := 2, acc := .rw }, { lo := 0, width := 10, acc := .rw, legal := .range 0 639 }] },  -- CAP_TSRC
  { off := 0x08C, n := 6, stride := 64, fields := [{ lo := 0, width := 17, acc := .rw }] },  -- CAP_PRE
  { off := 0x090, n := 6, stride := 64, fields := [{ lo := 8, width := 7, acc := .wo }, { lo := 3, width := 1, acc := .wo }, { lo := 2, width := 1, acc := .wo }, { lo := 1, width := 1, acc := .wo }, { lo := 0, width := 1, acc := .wo }] },  -- CAP_CMD
  { off := 0x094, n := 6, stride := 64, fields := [{ lo := 16, width := 7, acc := .ro }, { lo := 10, width := 1, acc := .ro }, { lo := 9, width := 1, acc := .w1c }, { lo := 8, width := 1, acc := .w1c }, { lo := 0, width := 3, acc := .ro }] },  -- CAP_STAT
  { off := 0x098, n := 6, stride := 64, fields := [{ lo := 0, width := 32, acc := .ro }] },  -- CAP_SEGLO
  { off := 0x09C, n := 6, stride := 64, fields := [{ lo := 0, width := 32, acc := .ro }] },  -- CAP_SEGHI
  { off := 0x0A0, n := 6, stride := 64, fields := [{ lo := 24, width := 4, acc := .ro }, { lo := 0, width := 17, acc := .ro }] },  -- CAP_CAP
  { off := 0x0A4, n := 6, stride := 64, fields := [{ lo := 0, width := 17, acc := .ro }] },  -- CAP_TRIGREC
  { off := 0x0A8, n := 6, stride := 64, fields := [{ lo := 0, width := 17, acc := .ro }] },  -- CAP_FIRST
  { off := 0x0AC, n := 6, stride := 64, fields := [{ lo := 0, width := 32, acc := .ro }] }  -- CAP_COUNT
  ]

/-- The block registers of the GL page (R306, R313, R314, R315, R316). -/
def regsGL : List RegDesc := [
  { off := 0x040, reset := 0x00013333#32, lock := true, idle := true, fields := [{ lo := 16, width := 4, acc := .rw }, { lo := 12, width := 4, acc := .rw }, { lo := 8, width := 4, acc := .rw }, { lo := 4, width := 4, acc := .rw }, { lo := 0, width := 4, acc := .rw }] },  -- DRV
  { off := 0x044, reset := 0x00000028#32, lock := true, idle := true, fields := [{ lo := 0, width := 11, acc := .rw, legal := .range 8 2000 }] },  -- DT
  { off := 0x048, reset := 0xC0000E14#32, lock := true, fields := [{ lo := 31, width := 1, acc := .rw }, { lo := 30, width := 1, acc := .rw }, { lo := 8, width := 5, acc := .rw }, { lo := 0, width := 6, acc := .rw, legal := .range 5 50 }] },  -- DIDT
  { off := 0x04C, reset := 0x8000090A#32, lock := true, fields := [{ lo := 31, width := 1, acc := .rw }, { lo := 8, width := 5, acc := .rw }, { lo := 0, width := 6, acc := .rw, legal := .range 3 40 }] },  -- VDS
  { off := 0x050, reset := 0x84032014#32, lock := true, fields := [{ lo := 31, width := 1, acc := .rw }, { lo := 24, width := 4, acc := .rw, legal := .range 0 12 }, { lo := 12, width := 10, acc := .rw, legal := .range 5 1000 }, { lo := 0, width := 8, acc := .rw, legal := .range 5 200 }] },  -- BOOT
  { off := 0x054, reset := 0x00000064#32, lock := true, fields := [{ lo := 0, width := 10, acc := .rw, legal := .range 10 1000 }] },  -- LEAK
  { off := 0x058, reset := 0x0000000A#32, lock := true, fields := [{ lo := 0, width := 8, acc := .rw, legal := .range 1 255 }] },  -- FLTCFG
  { off := 0x05C, fields := [{ lo := 0, width := 1, acc := .wo }] },  -- CMD
  { off := 0x080, fields := [{ lo := 14, width := 2, acc := .ro }, { lo := 12, width := 2, acc := .ro }, { lo := 11, width := 1, acc := .ro }, { lo := 10, width := 1, acc := .ro }, { lo := 9, width := 1, acc := .ro }, { lo := 8, width := 1, acc := .ro }, { lo := 6, width := 1, acc := .ro }, { lo := 5, width := 1, acc := .ro }, { lo := 4, width := 1, acc := .ro }, { lo := 2, width := 1, acc := .ro }, { lo := 1, width := 1, acc := .ro }] },  -- STAT
  { off := 0x084, fields := [{ lo := 7, width := 1, acc := .w1c }, { lo := 6, width := 1, acc := .w1c }, { lo := 5, width := 1, acc := .w1c }, { lo := 4, width := 1, acc := .w1c }, { lo := 3, width := 1, acc := .w1c }, { lo := 2, width := 1, acc := .w1c }, { lo := 1, width := 1, acc := .w1c }, { lo := 0, width := 1, acc := .w1c }] },  -- FLT
  { off := 0x088, fields := [{ lo := 24, width := 8, acc := .rc }, { lo := 16, width := 8, acc := .rc }, { lo := 8, width := 8, acc := .rc }, { lo := 0, width := 8, acc := .rc }] },  -- CNT
  { off := 0x08C, fields := [{ lo := 0, width := 32, acc := .ro }] },  -- REFRESHES
  { off := 0x090, fields := [{ lo := 20, width := 12, acc := .ro }, { lo := 10, width := 10, acc := .ro }, { lo := 3, width := 1, acc := .ro }, { lo := 2, width := 1, acc := .ro }, { lo := 1, width := 1, acc := .ro }, { lo := 0, width := 1, acc := .ro }] },  -- LEAK_HS
  { off := 0x094, fields := [{ lo := 20, width := 12, acc := .ro }, { lo := 10, width := 10, acc := .ro }, { lo := 2, width := 1, acc := .ro }, { lo := 1, width := 1, acc := .ro }, { lo := 0, width := 1, acc := .ro }] }  -- LEAK_LS
  ]

/-- The block registers of the GB page (R317). -/
def regsGB : List RegDesc := [
  { off := 0x040, reset := 0x00000400#32, lock := true, idle := true, fields := [{ lo := 8, width := 4, acc := .rw, legal := .range 0 10 }, { lo := 0, width := 1, acc := .rw }] },  -- CFG
  { off := 0x044, fields := [{ lo := 8, width := 3, acc := .ro }, { lo := 4, width := 1, acc := .ro }, { lo := 3, width := 1, acc := .ro }, { lo := 2, width := 1, acc := .ro }, { lo := 1, width := 1, acc := .ro }] },  -- STAT
  { off := 0x048, fields := [{ lo := 16, width := 16, acc := .ro }, { lo := 0, width := 16, acc := .ro }] },  -- MEAS
  { off := 0x04C, fields := [{ lo := 8, width := 8, acc := .rc }, { lo := 0, width := 8, acc := .rc }] }  -- CNT
  ]

/-- The block registers of the IS page (R318). -/
def regsIS : List RegDesc := [
  { off := 0x040, reset := 0x00C80666#32, lock := true, fields := [{ lo := 31, width := 1, acc := .rw }, { lo := 16, width := 12, acc := .rw, legal := .range 1 1000 }, { lo := 0, width := 15, acc := .rw, legal := .range 0 29491 }] },  -- CFG
  { off := 0x044, fields := [{ lo := 1, width := 1, acc := .wo }, { lo := 0, width := 1, acc := .wo, keyed := true }] },  -- CMD
  { off := 0x048, fields := [{ lo := 10, width := 1, acc := .ro }, { lo := 9, width := 1, acc := .ro }, { lo := 8, width := 1, acc := .ro }, { lo := 0, width := 3, acc := .ro }] },  -- STAT
  { off := 0x04C, fields := [{ lo := 16, width := 16, acc := .rc }, { lo := 8, width := 8, acc := .rc }, { lo := 0, width := 8, acc := .rc }] }  -- CNT
  ]

/-- The block registers of the CV page (R341, R342, R343). -/
def regsCV : List RegDesc := [
  { off := 0x040, reset := 0x001F0000#32, lock := true, idle := true, fields := [{ lo := 31, width := 1, acc := .rw }, { lo := 16, width := 5, acc := .rw }, { lo := 0, width := 16, acc := .rw }] },  -- CFG
  { off := 0x044, reset := 0x00001000#32, lock := true, idle := true, fields := [{ lo := 0, width := 17, acc := .rw, legal := .range 256 65536 }] },  -- CHK
  { off := 0x048, lock := true, fields := [{ lo := 0, width := 12, acc := .rw }] },  -- IRQ_EN
  { off := 0x04C, fields := [{ lo := 8, width := 1, acc := .wo }, { lo := 0, width := 1, acc := .wo }] },  -- CTRL
  { off := 0x050, fields := [{ lo := 16, width := 16, acc := .ro }, { lo := 9, width := 1, acc := .ro }, { lo := 8, width := 1, acc := .ro }, { lo := 0, width := 1, acc := .ro }] },  -- STAT
  { off := 0x054, fields := [{ lo := 0, width := 32, acc := .ro }] },  -- RETIRED
  { off := 0x058, fields := [{ lo := 0, width := 32, acc := .ro }] },  -- WINDOWS
  { off := 0x05C, fields := [{ lo := 24, width := 8, acc := .ro }, { lo := 0, width := 24, acc := .ro }] },  -- DIVERGE
  { off := 0x060, fields := [{ lo := 24, width := 8, acc := .ro }, { lo := 0, width := 16, acc := .ro }] },  -- EXC
  { off := 0x080, n := 32, lock := true, idle := true, fields := [{ lo := 28, width := 4, acc := .rw, legal := .above 5 0 }, { lo := 0, width := 28, acc := .rw }] },  -- LINK
  { off := 0x100, n := 16, fields := [{ lo := 0, width := 32, acc := .ro }] }  -- OUT
  ]

/-- The block registers of the AC page (R393, R395, R396, R397). -/
def regsAC : List RegDesc := [
  { off := 0x040, lock := true, idle := true, fields := [{ lo := 31, width := 1, acc := .rw }, { lo := 30, width := 1, acc := .rw }] },  -- CFG
  { off := 0x044, reset := 0x30000000#32, lock := true, idle := true, fields := [{ lo := 1, width := 31, acc := .rw }] },  -- ENTRY
  { off := 0x048, fields := [{ lo := 0, width := 1, acc := .wo }] },  -- CTRL
  { off := 0x04C, fields := [{ lo := 12, width := 1, acc := .ro }, { lo := 11, width := 1, acc := .ro }, { lo := 10, width := 1, acc := .ro }, { lo := 9, width := 1, acc := .ro }, { lo := 8, width := 1, acc := .ro }] },  -- STAT
  { off := 0x050, fields := [{ lo := 0, width := 32, acc := .ro }] },  -- PC
  { off := 0x054, fields := [{ lo := 0, width := 32, acc := .ro }] },  -- RETIRED
  { off := 0x058, fields := [{ lo := 0, width := 32, acc := .ro }] },  -- WINDOWS
  { off := 0x05C, fields := [{ lo := 24, width := 8, acc := .ro }, { lo := 0, width := 24, acc := .ro }] },  -- DIVERGE
  { off := 0x060, fields := [{ lo := 16, width := 16, acc := .rc }, { lo := 0, width := 16, acc := .rc }] },  -- CNT
  { off := 0x064, fields := [{ lo := 0, width := 21, acc := .ro }] },  -- EIRQ
  { off := 0x068, reset := 0xFFFFFFFF#32, fields := [{ lo := 0, width := 32, acc := .rw }] },  -- MTIMECMP_LO
  { off := 0x06C, reset := 0xFFFFFFFF#32, fields := [{ lo := 0, width := 32, acc := .rw }] },  -- MTIMECMP_HI
  { off := 0x070, fields := [{ lo := 0, width := 7, acc := .ro }] }  -- REPLAY
  ]

/-- The block registers of the QG page (R398, R399). -/
def regsQG : List RegDesc := [
  { off := 0x040, fields := [{ lo := 9, width := 1, acc := .w1c }, { lo := 8, width := 1, acc := .w1c }, { lo := 0, width := 6, acc := .ro }] },  -- STAT
  { off := 0x044, fields := [{ lo := 16, width := 16, acc := .rc }, { lo := 0, width := 16, acc := .rc }] },  -- CNT
  { off := 0x048, fields := [{ lo := 0, width := 32, acc := .ro }] },  -- RELEASED
  { off := 0x04C, fields := [{ lo := 0, width := 32, acc := .ro }] },  -- WERR_ADDR
  { off := 0x080, n := 8, stride := 8, lock := true, idle := true, fields := [{ lo := 8, width := 24, acc := .rw }, { lo := 1, width := 1, acc := .rw }, { lo := 0, width := 1, acc := .rw }] },  -- RANGE_BASE
  { off := 0x084, n := 8, stride := 8, reset := 0x000000FF#32, lock := true, idle := true, fields := [{ lo := 8, width := 24, acc := .rw }, { lo := 0, width := 8, acc := .ro }] }  -- RANGE_LIMIT
  ]

/-- The block registers of the SEAWALL page (R409, R418, R419, R420, R421, R422, R423). -/
def regsSEAWALL : List RegDesc := [
  { off := 0x040, fields := [{ lo := 20, width := 4, acc := .ro }, { lo := 19, width := 1, acc := .ro }, { lo := 18, width := 1, acc := .ro }, { lo := 12, width := 6, acc := .ro }, { lo := 6, width := 6, acc := .ro }, { lo := 5, width := 1, acc := .ro }, { lo := 4, width := 1, acc := .ro }, { lo := 3, width := 1, acc := .ro }, { lo := 2, width := 1, acc := .ro }, { lo := 1, width := 1, acc := .ro }, { lo := 0, width := 1, acc := .ro }] },  -- STAT
  { off := 0x044, fields := [{ lo := 6, width := 1, acc := .w1c }, { lo := 5, width := 1, acc := .w1c }, { lo := 4, width := 1, acc := .w1c }, { lo := 3, width := 1, acc := .w1c }, { lo := 2, width := 1, acc := .w1c }, { lo := 1, width := 1, acc := .w1c }, { lo := 0, width := 1, acc := .w1c }] },  -- UCAUSE
  { off := 0x048, fields := [{ lo := 0, width := 30, acc := .w1c }] },  -- BCAUSE
  { off := 0x04C, fields := [{ lo := 0, width := 32, acc := .ro }] },  -- SEAL_CALC
  { off := 0x050, fields := [{ lo := 0, width := 32, acc := .rwd }] },  -- SEAL_CONFIRM
  { off := 0x054, fields := [{ lo := 0, width := 32, acc := .rwd }] },  -- SEAL_KEY
  { off := 0x058, fields := [{ lo := 16, width := 8, acc := .ro }, { lo := 12, width := 4, acc := .ro }, { lo := 10, width := 1, acc := .w1c }, { lo := 9, width := 1, acc := .w1c }, { lo := 8, width := 1, acc := .w1c }, { lo := 0, width := 3, acc := .ro }] },  -- COMM
  { off := 0x05C, fields := [{ lo := 24, width := 8, acc := .ro }, { lo := 16, width := 8, acc := .ro }, { lo := 0, width := 16, acc := .ro }] },  -- WD_Q
  { off := 0x060, fields := [{ lo := 16, width := 2, acc := .wo }, { lo := 0, width := 16, acc := .wo }] },  -- WD_ANS
  { off := 0x064, reset := 0x00000003#32, fields := [{ lo := 24, width := 8, acc := .ro }, { lo := 16, width := 8, acc := .ro }, { lo := 9, width := 1, acc := .w1c }, { lo := 8, width := 1, acc := .w1c }, { lo := 1, width := 1, acc := .ro }, { lo := 0, width := 1, acc := .ro }] },  -- INPUTS
  { off := 0x068, fields := [{ lo := 0, width := 12, acc := .ro }] },  -- SHOOT
  { off := 0x06C, fields := [{ lo := 0, width := 18, acc := .ro }] },  -- CMP_POS
  { off := 0x070, fields := [{ lo := 0, width := 18, acc := .ro }] },  -- CMP_NEG
  { off := 0x074, fields := [{ lo := 0, width := 32, acc := .ro }] },  -- WGID
  { off := 0x078, fields := [{ lo := 0, width := 32, acc := .ro }] },  -- VERSION
  { off := 0x07C, fields := [{ lo := 8, width := 1, acc := .ro }, { lo := 4, width := 2, acc := .ro }, { lo := 0, width := 2, acc := .ro }] }  -- UNIT
  ]

/-- The block registers of the HM page (R429, R438, R442, R446, R447). -/
def regsHM : List RegDesc := [
  { off := 0x040, fields := [{ lo := 31, width := 1, acc := .ro }, { lo := 30, width := 1, acc := .ro }, { lo := 24, width := 4, acc := .ro }, { lo := 18, width := 2, acc := .ro }, { lo := 17, width := 1, acc := .ro }, { lo := 16, width := 1, acc := .ro }, { lo := 0, width := 6, acc := .ro }] },  -- STAT
  { off := 0x044, fields := [{ lo := 0, width := 32, acc := .ro }] },  -- OPEN
  { off := 0x048, fields := [{ lo := 0, width := 32, acc := .ro }] },  -- PROBATION
  { off := 0x04C, fields := [{ lo := 0, width := 32, acc := .ro }] },  -- ACKED
  { off := 0x050, fields := [{ lo := 0, width := 32, acc := .wo }] },  -- ACK
  { off := 0x054, fields := [{ lo := 0, width := 1, acc := .wo }] },  -- CTRL
  { off := 0x058, lock := true, fields := [{ lo := 14, width := 16, acc := .rw }, { lo := 5, width := 8, acc := .rw }, { lo := 0, width := 4, acc := .rw }] },  -- GRP_MODE
  { off := 0x05C, reset := 0x55555555#32, lock := true, fields := [{ lo := 0, width := 32, acc := .rw }] },  -- LINE_LVL0
  { off := 0x060, reset := 0x55555555#32, lock := true, fields := [{ lo := 0, width := 32, acc := .rw }] },  -- LINE_LVL1
  { off := 0x064, lock := true, fields := [{ lo := 27, width := 2, acc := .rw }, { lo := 24, width := 2, acc := .rw }, { lo := 14, width := 8, acc := .rw }, { lo := 5, width := 8, acc := .rw }, { lo := 3, width := 1, acc := .rw }] },  -- REACT1
  { off := 0x068, reset := 0x00000400#32, lock := true, fields := [{ lo := 11, width := 21, acc := .rw }, { lo := 0, width := 10, acc := .rw }] },  -- RECUR_EN
  { off := 0x06C, reset := 0x000303E8#32, lock := true, fields := [{ lo := 16, width := 3, acc := .rw, legal := .range 2 7 }, { lo := 0, width := 16, acc := .rw, legal := .range 1 10000 }] },  -- RECUR_CFG
  { off := 0x070, reset := 0x00640003#32, fields := [{ lo := 16, width := 16, acc := .ro }, { lo := 0, width := 4, acc := .ro }] },  -- LIMITS
  { off := 0x074, fields := [{ lo := 16, width := 16, acc := .rc }, { lo := 8, width := 8, acc := .rc }, { lo := 0, width := 8, acc := .rc }] },  -- CNT
  { off := 0x078, fields := [{ lo := 16, width := 16, acc := .rc }, { lo := 0, width := 16, acc := .rc }] },  -- ESC
  { off := 0x07C, fields := [{ lo := 16, width := 7, acc := .ro }, { lo := 0, width := 7, acc := .ro }] },  -- QUEUE
  { off := 0x080, fields := [{ lo := 0, width := 32, acc := .ro }] },  -- RING
  { off := 0x0C0, n := 20, fields := [{ lo := 0, width := 32, acc := .w1c }] }  -- ELS
  ]

/-- The block registers of the MA pages (R468, R495). -/
def regsMA : List RegDesc := [
  { off := 0x040, reset := 0x00000006#32, lock := true, idle := true, fields := [{ lo := 1, width := 2, acc := .rw }, { lo := 0, width := 1, acc := .rw }] },  -- CFG
  { off := 0x044, fields := [{ lo := 8, width := 3, acc := .ro }, { lo := 3, width := 1, acc := .ro }, { lo := 2, width := 1, acc := .ro }, { lo := 1, width := 1, acc := .ro }, { lo := 0, width := 1, acc := .ro }] },  -- STAT
  { off := 0x048, fields := [{ lo := 0, width := 32, acc := .ro }] },  -- RX_OK
  { off := 0x04C, fields := [{ lo := 24, width := 8, acc := .rc }, { lo := 16, width := 8, acc := .rc }, { lo := 8, width := 8, acc := .rc }, { lo := 0, width := 8, acc := .rc }] },  -- RX_ERR
  { off := 0x050, fields := [{ lo := 0, width := 32, acc := .ro }] },  -- RX_DUP
  { off := 0x054, fields := [{ lo := 0, width := 32, acc := .ro }] },  -- TX
  { off := 0x058, fields := [{ lo := 0, width := 16, acc := .rc }] },  -- FWD_DROP
  { off := 0x05C, fields := [{ lo := 16, width := 16, acc := .rc }, { lo := 0, width := 16, acc := .rc }] },  -- SEQ
  { off := 0x060, fields := [{ lo := 0, width := 16, acc := .rc }] }  -- TGUARD
  ]

/-- The block registers of the PORT page (R469, R495). -/
def regsPORT : List RegDesc := [
  { off := 0x040, fields := [{ lo := 16, width := 16, acc := .ro }, { lo := 8, width := 3, acc := .ro }, { lo := 1, width := 1, acc := .ro }, { lo := 0, width := 1, acc := .ro }] },  -- STAT
  { off := 0x044, fields := [{ lo := 0, width := 16, acc := .rc }] },  -- CNT
  { off := 0x048, reset := 0xFFFFFFFF#32, fields := [{ lo := 0, width := 32, acc := .ro }] },  -- LDELAY
  { off := 0x04C, fields := [{ lo := 8, width := 8, acc := .rc }, { lo := 0, width := 8, acc := .rc }] },  -- LDCNT
  { off := 0x080, n := 32, reset := 0xFFFFFFFF#32, fields := [{ lo := 0, width := 32, acc := .ro }] }  -- PATH
  ]

/-- The block registers of the MS page (R459, R470, R471, R492, R493, R494). -/
def regsMS : List RegDesc := [
  { off := 0x040, lock := true, idle := true, fields := [{ lo := 0, width := 5, acc := .rw }] },  -- NODE
  { off := 0x044, reset := 0x000088B5#32, lock := true, idle := true, fields := [{ lo := 0, width := 16, acc := .rw, legal := .range 1536 65535 }] },  -- ETYPE
  { off := 0x048, reset := 0x564D0000#32, lock := true, idle := true, fields := [{ lo := 0, width := 32, acc := .rw }] },  -- MCAST_LO
  { off := 0x04C, reset := 0x00000148#32, lock := true, idle := true, fields := [{ lo := 9, width := 7, acc := .rw }, { lo := 8, width := 1, acc := .ro }, { lo := 0, width := 8, acc := .rw }] },  -- MCAST_HI
  { off := 0x050, fields := [{ lo := 0, width := 1, acc := .wo }] },  -- CTRL
  { off := 0x054, fields := [{ lo := 0, width := 32, acc := .rw }] },  -- SWAP_AT
  { off := 0x058, fields := [{ lo := 24, width := 8, acc := .ro }, { lo := 16, width := 8, acc := .ro }, { lo := 9, width := 1, acc := .w1c }, { lo := 8, width := 1, acc := .ro }] },  -- STAT
  { off := 0x05C, fields := [{ lo := 0, width := 32, acc := .ro }] },  -- CYCLE
  { off := 0x060, fields := [{ lo := 16, width := 16, acc := .ro }, { lo := 0, width := 16, acc := .ro }] },  -- PLANCNT
  { off := 0x080, n := 4, keyed := true, fields := [{ lo := 0, width := 32, acc := .wo }] },  -- MAC_KEY
  { off := 0x0C0, fields := [{ lo := 0, width := 32, acc := .ro }] },  -- TM_LO
  { off := 0x0C4, fields := [{ lo := 0, width := 32, acc := .ro }] },  -- TM_HI
  { off := 0x0C8, fields := [{ lo := 0, width := 32, acc := .ro }] },  -- RATE
  { off := 0x0CC, fields := [{ lo := 0, width := 32, acc := .ro }] },  -- OFFSET
  { off := 0x0D0, fields := [{ lo := 24, width := 8, acc := .ro }, { lo := 16, width := 5, acc := .ro }, { lo := 12, width := 2, acc := .ro }, { lo := 8, width := 2, acc := .ro }, { lo := 4, width := 4, acc := .ro }, { lo := 3, width := 1, acc := .ro }, { lo := 0, width := 3, acc := .ro }] },  -- TSTAT
  { off := 0x0D4, reset := 0x00000064#32, lock := true, fields := [{ lo := 25, width := 5, acc := .rw }, { lo := 24, width := 1, acc := .rw }, { lo := 17, width := 5, acc := .rw }, { lo := 16, width := 1, acc := .rw }, { lo := 9, width := 5, acc := .rw }, { lo := 8, width := 1, acc := .rw }, { lo := 4, width := 4, acc := .rw, legal := .range 4 15 }, { lo := 0, width := 4, acc := .rw, legal := .range 0 8 }] },  -- TIME_CFG
  { off := 0x0D8, fields := [{ lo := 24, width := 8, acc := .rc }, { lo := 16, width := 8, acc := .rc }, { lo := 8, width := 8, acc := .rc }, { lo := 0, width := 8, acc := .rc }] },  -- TCNT
  { off := 0x0DC, fields := [{ lo := 0, width := 32, acc := .ro }] },  -- PH_START
  { off := 0x100, n := 32, fields := [{ lo := 24, width := 8, acc := .rc }, { lo := 16, width := 8, acc := .rc }, { lo := 8, width := 8, acc := .rc }, { lo := 0, width := 8, acc := .rc }] },  -- EL
  { off := 0x400, reset := 0x000000C8#32, banked := true, fields := [{ lo := 31, width := 1, acc := .rw }, { lo := 16, width := 4, acc := .rw }, { lo := 0, width := 13, acc := .rw, legal := .range 50 8000 }] },  -- SCHED
  { off := 0x800, n := 256, stride := 8, banked := true, fields := [{ lo := 31, width := 1, acc := .rw }, { lo := 30, width := 1, acc := .rw }, { lo := 24, width := 5, acc := .rw }, { lo := 0, width := 17, acc := .rw, legal := .range 0 79999 }] },  -- TAB0
  { off := 0x804, n := 256, stride := 8, banked := true, fields := [{ lo := 24, width := 8, acc := .rw, legal := .range 10 255 }, { lo := 23, width := 1, acc := .rw }, { lo := 16, width := 6, acc := .rw }, { lo := 0, width := 11, acc := .rw, legal := .range 64 1518 }] }  -- TAB1
  ]

/-- The block registers of the BTH page (R496, R504). -/
def regsBTH : List RegDesc := [
  { off := 0x040, fields := [{ lo := 0, width := 8, acc := .wo }] },  -- COMMIT
  { off := 0x044, fields := [{ lo := 24, width := 8, acc := .rc }, { lo := 0, width := 16, acc := .rc }] },  -- OVW
  { off := 0x048, fields := [{ lo := 0, width := 16, acc := .rc }] },  -- UNMATCHED
  { off := 0x400, n := 256, fields := [{ lo := 31, width := 1, acc := .ro }, { lo := 30, width := 1, acc := .ro }, { lo := 24, width := 6, acc := .ro }, { lo := 16, width := 8, acc := .ro }, { lo := 0, width := 16, acc := .ro }] },  -- BSTAT
  { off := 0x800, n := 256, stride := 8, lock := true, banked := true, fields := [{ lo := 31, width := 1, acc := .rw }, { lo := 30, width := 1, acc := .rw }, { lo := 29, width := 1, acc := .rw }, { lo := 28, width := 1, acc := .rw }, { lo := 22, width := 6, acc := .rw }, { lo := 0, width := 16, acc := .rw }] },  -- BERTH0
  { off := 0x804, n := 256, stride := 8, lock := true, banked := true, fields := [{ lo := 16, width := 16, acc := .rw }, { lo := 0, width := 11, acc := .rw, legal := .range 4 1024 }] }  -- BERTH1
  ]

/-- The block registers of the CAN page (R507). -/
def regsCAN : List RegDesc := [
  { off := 0x040, lock := true, idle := true, fields := [{ lo := 8, width := 1, acc := .rw }, { lo := 1, width := 1, acc := .rw }, { lo := 0, width := 1, acc := .rw }] },  -- CFG
  { off := 0x044, reset := 0x013E0F0F#32, lock := true, idle := true, fields := [{ lo := 24, width := 8, acc := .rw }, { lo := 16, width := 8, acc := .rw, legal := .range 1 255 }, { lo := 8, width := 7, acc := .rw, legal := .range 1 127 }, { lo := 0, width := 7, acc := .rw }] },  -- NBT
  { off := 0x048, reset := 0x1E010D43#32, lock := true, idle := true, fields := [{ lo := 24, width := 8, acc := .rw }, { lo := 16, width := 4, acc := .rw }, { lo := 8, width := 5, acc := .rw, legal := .range 1 31 }, { lo := 4, width := 3, acc := .rw, legal := .range 1 7 }, { lo := 0, width := 3, acc := .rw }] },  -- DBT
  { off := 0x04C, fields := [{ lo := 1, width := 1, acc := .wo }, { lo := 0, width := 1, acc := .wo }] },  -- CTRL
  { off := 0x050, fields := [{ lo := 16, width := 8, acc := .ro }, { lo := 8, width := 8, acc := .ro }, { lo := 2, width := 1, acc := .ro }, { lo := 1, width := 1, acc := .ro }, { lo := 0, width := 1, acc := .ro }] },  -- STAT
  { off := 0x054, fields := [{ lo := 16, width := 16, acc := .rc }, { lo := 0, width := 16, acc := .rc }] },  -- CNT
  { off := 0x058, fields := [{ lo := 0, width := 6, acc := .ro }] },  -- FIFO
  { off := 0x05C, fields := [{ lo := 0, width := 32, acc := .rc }] },  -- FIFO_POP
  { off := 0x100, n := 20, fields := [{ lo := 0, width := 32, acc := .ro }] },  -- FIFO_WIN
  { off := 0x400, n := 768, fields := [{ lo := 0, width := 32, acc := .rw }] }  -- MB
  ]

/-- The block registers of the SPI page (R511). -/
def regsSPI : List RegDesc := [
  { off := 0x040, reset := 0x00001007#32, lock := true, idle := true, fields := [{ lo := 31, width := 1, acc := .rw }, { lo := 30, width := 1, acc := .rw }, { lo := 8, width := 5, acc := .rw, legal := .range 4 32 }, { lo := 5, width := 1, acc := .rw }, { lo := 3, width := 2, acc := .rw }, { lo := 0, width := 3, acc := .rw }] },  -- CFG
  { off := 0x044, lock := true, fields := [{ lo := 0, width := 8, acc := .rw }] },  -- CSMAP
  { off := 0x048, lock := true, fields := [{ lo := 0, width := 2, acc := .rw }] },  -- CHK
  { off := 0x050, n := 12, lock := true, fields := [{ lo := 0, width := 32, acc := .rw }] },  -- SC_CMD
  { off := 0x080, fields := [{ lo := 0, width := 32, acc := .wo }] },  -- TX
  { off := 0x084, fields := [{ lo := 0, width := 32, acc := .ro }] },  -- RX
  { off := 0x088, fields := [{ lo := 16, width := 16, acc := .rc }, { lo := 0, width := 16, acc := .rc }] }  -- CNT
  ]

/-- The block registers of the SENT page (R513). -/
def regsSENT : List RegDesc := [
  { off := 0x040, reset := 0x001E0001#32, lock := true, idle := true, fields := [{ lo := 16, width := 10, acc := .rw, legal := .range 25 900 }, { lo := 3, width := 1, acc := .rw }, { lo := 1, width := 1, acc := .rw }, { lo := 0, width := 1, acc := .rw }] },  -- CFG
  { off := 0x044, reset := 0x00000104#32, lock := true, fields := [{ lo := 8, width := 2, acc := .rw, legal := .range 0 2 }, { lo := 0, width := 8, acc := .rw, legal := .range 1 255 }] },  -- FILT
  { off := 0x048, reset := 0x0000000A#32, fields := [{ lo := 0, width := 8, acc := .rw, legal := .range 1 255 }] },  -- TO
  { off := 0x050, fields := [{ lo := 28, width := 4, acc := .ro }, { lo := 0, width := 24, acc := .ro }] },  -- FAST
  { off := 0x054, fields := [{ lo := 0, width := 32, acc := .ro }] },  -- FAST_TS
  { off := 0x058, fields := [{ lo := 16, width := 4, acc := .ro }, { lo := 0, width := 16, acc := .ro }] },  -- SSM
  { off := 0x05C, fields := [{ lo := 0, width := 16, acc := .rc }] }  -- ERR
  ]

/-- The block registers of the GA page (R515). -/
def regsGA : List RegDesc := [
  { off := 0x040, lock := true, idle := true, fields := [{ lo := 8, width := 2, acc := .rw }, { lo := 0, width := 4, acc := .rw }] },  -- CFG
  { off := 0x044, fields := [{ lo := 0, width := 1, acc := .wo }] },  -- CTRL
  { off := 0x048, fields := [{ lo := 0, width := 8, acc := .rc }] },  -- OVR
  { off := 0x080, n := 16, idle := true, fields := [{ lo := 0, width := 4, acc := .rw }] },  -- SEQ
  { off := 0x0C0, n := 16, fields := [{ lo := 16, width := 16, acc := .ro }, { lo := 13, width := 1, acc := .ro }, { lo := 12, width := 1, acc := .ro }, { lo := 0, width := 12, acc := .ro }] }  -- RES
  ]

/-- The block registers of the MP page (R561). -/
def regsMP : List RegDesc := [
  { off := 0x040, fields := [{ lo := 16, width := 2, acc := .ro }, { lo := 8, width := 2, acc := .ro }, { lo := 2, width := 1, acc := .ro }, { lo := 1, width := 1, acc := .ro }, { lo := 0, width := 1, acc := .ro }] },  -- STAT
  { off := 0x044, fields := [{ lo := 0, width := 32, acc := .ro }] },  -- RX
  { off := 0x048, fields := [{ lo := 0, width := 32, acc := .ro }] },  -- TX
  { off := 0x04C, fields := [{ lo := 16, width := 16, acc := .rc }, { lo := 8, width := 8, acc := .rc }, { lo := 0, width := 8, acc := .rc }] }  -- CNT
  ]

/-- The block registers of the BOL page (R562). -/
def regsBOL : List RegDesc := [
  { off := 0x040, fields := [{ lo := 10, width := 1, acc := .ro }, { lo := 9, width := 1, acc := .ro }, { lo := 8, width := 1, acc := .ro }, { lo := 3, width := 1, acc := .ro }, { lo := 2, width := 1, acc := .ro }, { lo := 1, width := 1, acc := .ro }] },  -- STAT
  { off := 0x044, fields := [{ lo := 24, width := 8, acc := .rc }, { lo := 16, width := 8, acc := .rc }, { lo := 8, width := 8, acc := .rc }, { lo := 0, width := 8, acc := .rc }] },  -- CNT
  { off := 0x048, fields := [{ lo := 0, width := 16, acc := .ro }] }  -- LAST_TAKE
  ]

/-- The block registers of the WG page (R563, R564, R565, R566). -/
def regsWG : List RegDesc := [
  { off := 0x040, reset := 0x21084005#32, lock := true, idle := true, fields := [{ lo := 28, width := 4, acc := .rw }, { lo := 24, width := 2, acc := .rw }, { lo := 16, width := 8, acc := .rw, legal := .range 4 99 }, { lo := 8, width := 8, acc := .rw, legal := .range 16 255 }, { lo := 0, width := 8, acc := .rw, legal := .range 1 255 }] },  -- CFG
  { off := 0x044, fields := [{ lo := 28, width := 4, acc := .ro }, { lo := 26, width := 2, acc := .ro }, { lo := 24, width := 2, acc := .ro }, { lo := 16, width := 8, acc := .ro }, { lo := 15, width := 1, acc := .ro }, { lo := 14, width := 1, acc := .ro }, { lo := 12, width := 1, acc := .ro }, { lo := 11, width := 1, acc := .ro }, { lo := 10, width := 1, acc := .ro }, { lo := 9, width := 1, acc := .ro }, { lo := 8, width := 1, acc := .ro }, { lo := 5, width := 1, acc := .ro }, { lo := 4, width := 1, acc := .ro }] },  -- STAT
  { off := 0x048, fields := [{ lo := 0, width := 1, acc := .wo }] },  -- CTRL
  { off := 0x04C, fields := [{ lo := 0, width := 32, acc := .ro }] },  -- PERIOD
  { off := 0x050, fields := [{ lo := 0, width := 32, acc := .ro }] },  -- AGREE_SIG
  { off := 0x054, fields := [{ lo := 0, width := 32, acc := .ro }] },  -- STATE_SIG
  { off := 0x058, fields := [{ lo := 0, width := 32, acc := .rw }] },  -- APP_SIG
  { off := 0x05C, fields := [{ lo := 0, width := 32, acc := .rw }] },  -- XSWAP_AT
  { off := 0x060, fields := [{ lo := 0, width := 6, acc := .rw }] },  -- XSWAP_MASK
  { off := 0x064, fields := [{ lo := 24, width := 8, acc := .rc }, { lo := 16, width := 8, acc := .rc }, { lo := 8, width := 8, acc := .rc }, { lo := 0, width := 8, acc := .rc }] },  -- CNT
  { off := 0x068, fields := [{ lo := 16, width := 16, acc := .rc }, { lo := 0, width := 16, acc := .rc }] },  -- CNT2
  { off := 0x06C, fields := [{ lo := 28, width := 4, acc := .ro }, { lo := 0, width := 24, acc := .ro }] },  -- SNAP_STAT
  { off := 0x070, reset := 0x20700000#32, idle := true, fields := [{ lo := 12, width := 20, acc := .rw }] },  -- LOG_BASE
  { off := 0x074, fields := [{ lo := 0, width := 32, acc := .ro }] },  -- LOG_FIRST
  { off := 0x078, fields := [{ lo := 0, width := 32, acc := .ro }] },  -- CUT
  { off := 0x07C, fields := [{ lo := 0, width := 32, acc := .ro }] },  -- CONFIG_SIG
  { off := 0x080, n := 2, stride := 16, fields := [{ lo := 28, width := 4, acc := .ro }, { lo := 26, width := 2, acc := .ro }, { lo := 16, width := 8, acc := .ro }, { lo := 8, width := 8, acc := .ro }, { lo := 1, width := 1, acc := .ro }, { lo := 0, width := 1, acc := .ro }] },  -- PEER_STAT
  { off := 0x084, n := 2, stride := 16, fields := [{ lo := 31, width := 1, acc := .ro }, { lo := 0, width := 16, acc := .ro }] },  -- PEER_SWEEP
  { off := 0x088, n := 2, stride := 16, fields := [{ lo := 0, width := 32, acc := .ro }] },  -- PEER_SIG
  { off := 0x100, n := 16, fields := [{ lo := 0, width := 32, acc := .rw }] },  -- FWIN
  { off := 0x140, n := 8, stride := 8, idle := true, fields := [{ lo := 8, width := 24, acc := .rw }, { lo := 0, width := 1, acc := .rw }] },  -- REG_BASE
  { off := 0x144, n := 8, stride := 8, idle := true, fields := [{ lo := 0, width := 15, acc := .rw, legal := .range 1 16384 }] },  -- REG_LEN
  { off := 0x400, n := 256, lock := true, idle := true, fields := [{ lo := 28, width := 4, acc := .rw, legal := .above 6 0 }, { lo := 26, width := 2, acc := .rw }, { lo := 25, width := 1, acc := .rw }, { lo := 0, width := 20, acc := .rw }] },  -- AGREE
  { off := 0x800, n := 256, lock := true, fields := [{ lo := 0, width := 32, acc := .rw, legal := .f32 0x00000000#32 0x7F7FFFFF#32 0x00000000#32 }] },  -- WIN
  { off := 0xC00, n := 256, fields := [{ lo := 0, width := 32, acc := .ro }] }  -- AGREED
  ]

/-- The block registers of the DR page (R580, R586, R587). -/
def regsDR : List RegDesc := [
  { off := 0x040, reset := 0x0A000101#32, lock := true, fields := [{ lo := 24, width := 8, acc := .rw, legal := .range 1 60 }, { lo := 8, width := 1, acc := .rw }, { lo := 0, width := 1, acc := .rw }] },  -- CFG
  { off := 0x044, fields := [{ lo := 1, width := 1, acc := .wo }, { lo := 0, width := 1, acc := .wo }] },  -- CTRL
  { off := 0x048, reset := 0xF0000000#32, fields := [{ lo := 27, width := 5, acc := .ro }, { lo := 16, width := 7, acc := .ro }, { lo := 8, width := 3, acc := .ro }, { lo := 2, width := 6, acc := .ro }, { lo := 1, width := 1, acc := .ro }] },  -- STAT
  { off := 0x04C, fields := [{ lo := 31, width := 1, acc := .ro }, { lo := 0, width := 16, acc := .ro }] },  -- SWEEPS
  { off := 0x050, fields := [{ lo := 24, width := 5, acc := .ro }, { lo := 16, width := 5, acc := .ro }, { lo := 0, width := 8, acc := .ro }] },  -- LAST_FAIL
  { off := 0x054, fields := [{ lo := 16, width := 16, acc := .rc }, { lo := 0, width := 16, acc := .rc }] },  -- CNT
  { off := 0x058, fields := [{ lo := 0, width := 16, acc := .ro }] },  -- FLOOD_US
  { off := 0x05C, fields := [{ lo := 0, width := 32, acc := .ro }] },  -- SCRUB
  { off := 0x060, n := 21, fields := [{ lo := 0, width := 32, acc := .ro }] }  -- FAILMAP
  ]

/-- The block registers of the BYT page (R588). -/
def regsBYT : List RegDesc := [
  { off := 0x080, n := 12, stride := 16, lock := true, fields := [{ lo := 16, width := 16, acc := .rw }, { lo := 0, width := 16, acc := .rw }] },  -- TH
  { off := 0x084, n := 12, stride := 16, reset := 0x42000028#32, lock := true, fields := [{ lo := 30, width := 2, acc := .rw, legal := .range 0 2 }, { lo := 24, width := 4, acc := .rw, legal := .range 1 15 }, { lo := 0, width := 16, acc := .rw }] },  -- CFG
  { off := 0x088, n := 12, stride := 16, fields := [{ lo := 30, width := 2, acc := .ro }, { lo := 29, width := 1, acc := .ro }, { lo := 0, width := 16, acc := .ro }] },  -- VAL
  { off := 0x08C, n := 12, stride := 16, fields := [{ lo := 16, width := 16, acc := .rc }, { lo := 0, width := 16, acc := .rc }] }  -- CNT
  ]

/-- The block registers of the BYV page (R588). -/
def regsBYV : List RegDesc := [
  { off := 0x080, n := 16, stride := 16, lock := true, fields := [{ lo := 16, width := 16, acc := .rw }, { lo := 0, width := 16, acc := .rw }] },  -- TH
  { off := 0x084, n := 16, stride := 16, reset := 0x02000000#32, lock := true, fields := [{ lo := 30, width := 2, acc := .rw, legal := .range 0 2 }, { lo := 24, width := 4, acc := .rw, legal := .range 1 15 }, { lo := 0, width := 16, acc := .rw }] },  -- CFG
  { off := 0x088, n := 16, stride := 16, fields := [{ lo := 30, width := 2, acc := .ro }, { lo := 29, width := 1, acc := .ro }, { lo := 0, width := 16, acc := .ro }] },  -- VAL
  { off := 0x08C, n := 16, stride := 16, fields := [{ lo := 16, width := 16, acc := .rc }, { lo := 0, width := 16, acc := .rc }] }  -- CNT
  ]

/-- The block registers of the BYP page (R588). -/
def regsBYP : List RegDesc := [
  { off := 0x080, n := 4, stride := 16, lock := true, fields := [{ lo := 16, width := 16, acc := .rw }, { lo := 0, width := 16, acc := .rw }] },  -- TH
  { off := 0x084, n := 4, stride := 16, reset := 0x8800000A#32, lock := true, fields := [{ lo := 30, width := 2, acc := .rw, legal := .range 0 2 }, { lo := 24, width := 4, acc := .rw, legal := .range 1 15 }, { lo := 0, width := 16, acc := .rw }] },  -- CFG
  { off := 0x088, n := 4, stride := 16, fields := [{ lo := 30, width := 2, acc := .ro }, { lo := 29, width := 1, acc := .ro }, { lo := 0, width := 16, acc := .ro }] },  -- VAL
  { off := 0x08C, n := 4, stride := 16, fields := [{ lo := 16, width := 16, acc := .rc }, { lo := 0, width := 16, acc := .rc }] }  -- CNT
  ]

/-- The register table of a page kind. Kinds without block registers have none. -/
def regTable : PKind → List RegDesc
  | .sys => regsSYS
  | .pll => regsPLA
  | .aon => regsAON
  | .sup => regsSUP
  | .cs => regsCS
  | .cst => regsCST
  | .hl => regsHL
  | .hc => regsHC
  | .sc => regsSC
  | .sx => regsSX
  | .ce => regsCE
  | .sw => regsSW
  | .ij => regsIJ
  | .cp => regsCP
  | .gl => regsGL
  | .gb => regsGB
  | .is => regsIS
  | .cv => regsCV
  | .ac => regsAC
  | .qg => regsQG
  | .seawall => regsSEAWALL
  | .hm => regsHM
  | .ma => regsMA
  | .port => regsPORT
  | .ms => regsMS
  | .bth => regsBTH
  | .mp => regsMP
  | .bol => regsBOL
  | .wg => regsWG
  | .dr => regsDR
  | .byt => regsBYT
  | .byv => regsBYV
  | .byp => regsBYP
  | .ga => regsGA
  | .can => regsCAN
  | .spi => regsSPI
  | .sent => regsSENT
  | .mrm => []
  | .srm => []
  | .sec => regsSEC
  | .dbg => []

end Sys2Proof.Machine
end

