-- ==== Sys2Proof/Machine/AppTypes.lean ====
section
/-!
DEFINITION. Machine/AppTypes.lean: the state of the application pairs that their pages do not show (R367-R399).
-/
namespace Sys2Proof.Machine

/-- One application core. -/
structure AppCore where
  /-- Registers: 1-31 xn, 32-63 fn, 64 fcsr; and those whose parity fails (R382). -/
  regs : List (Nat × Word) := []
  bad : List Nat := []
  pc : Word := 0#32
  csrs : List (Nat × Word) := []
  /-- Machine mode; else user mode (R367). -/
  machine : Bool := true
  /-- Instructions retired since START, and what minstret adds to them. -/
  retired : Nat := 0
  instOff : BitVec 64 := 0#64
  /-- Instructions of the open window and its running signature (R383). -/
  win : Nat := 0
  sig : Word := 0xFFFFFFFF#32
  /-- Checkpoints taken since START (R369). -/
  ckpts : Word := 0#32
  deriving DecidableEq, Repr

/-- An entry of the delay FIFO (R373): a retired instruction, or the trap or interrupt taken after one. `act` is the
instruction's own, `val` the echoed value, `cause` the cause of a trap (interrupts with bit 31 set). -/
structure AppEntry where
  seq : Nat
  fetch : Word
  act : AppAct
  val : Word := 0#32
  cause : Option Word := none
  /-- A store that went to the quay buffer. -/
  quay : Bool := false
  deriving DecidableEq, Repr

/-- An entry of the quay buffer (R377). -/
structure QuayEntry where
  addr : Word
  size : Nat
  data : Word
  fenced : Bool
  /-- The number of the main core's window that holds it. -/
  window : Nat
  /-- The checker's store has matched. -/
  matched : Bool := false
  deriving DecidableEq, Repr

/-- What started a repair (R386). -/
inductive Repair
  | mainParity (reg : Nat)
  | chkParity (reg : Nat)
  | mismatch (cause : Nat)
  deriving DecidableEq, Repr

/-- One pair. -/
structure App where
  main : AppCore := {}
  chk : AppCore := {}
  fifo : List AppEntry := []
  quay : List QuayEntry := []
  /-- Windows closed by the main core and not yet compared: its retired count and signature; and the checker's signatures
  (R383). -/
  sigs : List (Nat × Word) := []
  ckSigs : List Word := []
  /-- Windows the main core has closed, and windows compared equal, since START. -/
  closed : Nat := 0
  compared : Nat := 0
  /-- The main core is stalled on a full quay buffer (R379). -/
  fullStall : Bool := false
  /-- Checkpoint hashes not yet compared (R384). -/
  hashes : List Word := []
  ckHashes : List Word := []
  repair : Option Repair := none
  /-- Pulse bits of mip (R370). -/
  pulses : Word := 0#32
  /-- What mcycle adds to the CORE cycles of the model's time. -/
  cycOff : BitVec 64 := 0#64
  /-- The word reserved by LR. -/
  reserved : Option Nat := none
  /-- The replay log (R391), oldest first: abstract register number and value; an abstract write has failed with cmderr 7. -/
  replay : List (Nat × Word) := []
  cmderr : Bool := false
  halted : Bool := false
  /-- The restart's copy runs (R387). -/
  copying : Bool := false
  /-- The main core has stopped at the end of a drain. -/
  stopped : Bool := false
  /-- Addresses of posted stores that ended in an error and are not yet reported (R381). -/
  werrs : List Word := []
  deriving DecidableEq, Repr

end Sys2Proof.Machine
end

