-- ==== Sys2Proof/Machine/CoreTypes.lean ====
section
/-!
DEFINITION. Machine/CoreTypes.lean: the state of the unit-wide blocks: power and start-up, boot and update, sluices, the Seawall
and the Harbourmaster. Field defaults are the reset values.
-/
namespace Sys2Proof.Machine

/-- The power states (R75). -/
inductive Tide
  | slack | flood | high | ebb | dryDock
  deriving DecidableEq, Repr

/-- A rail's state on the way up (R107). -/
inductive RailSt
  | off | starting | good
  deriving DecidableEq, Repr

/-- Power, clocks and start-up (R70-R128). -/
structure Power where
  tide : Tide := .flood
  vsw : RailSt := .starting
  vpre : RailSt := .off
  vio33 : RailSt := .off
  vio18 : RailSt := .off
  vcore : RailSt := .off
  vgd : RailSt := .off
  /-- VSUP has crossed VSUP_START and not lost power since (R103). -/
  vsupStart : Bool := false
  /-- VPRE_BO has tripped and not released (R103, R104). -/
  brownOut : Bool := false
  /-- KD has left reset in this Flood (R123 step 7). -/
  kdUp : Bool := false
  /-- RSTOUT_N is driven low (R112). -/
  rstoutLow : Bool := true
  /-- EXT_RST_N is held low (R111). -/
  extLow : Bool := false
  /-- BOOT_SEL sampled when KD left reset (R113). -/
  bootSel : BitVec 2 := 0#2
  /-- The AON flag of TIDE_REQ.DRYDOCK_NEXT (R92). -/
  drydockNext : Bool := false
  /-- TIDE_REQ.EBB written during Flood (R77). -/
  ebbHeld : Bool := false
  /-- A wake source has asserted since Ebb started (R76, R77). -/
  wakePending : Bool := false
  /-- Tap codes are forced to 0: the delay line has no lock (R73). -/
  tapsForced : Bool := false
  /-- CORE, COVE, ENG and PHY have stopped on the loss of PLL-A (R74). -/
  pllALost : Bool := false
  /-- A level-3 fault seen in Ebb, recorded for the next Flood (R77). -/
  ebbFault : Bool := false
  /-- BUS cycle at which this Flood started (R76, R91). -/
  floodStart : Nat := 0
  /-- BUS cycle at which KD left reset in this Flood: STB counts from there (R171). -/
  stbFrom : Nat := 0
  /-- The image runs (R123 step 10) and Dredge's Flood run has ended (step 11). -/
  imageRun : Bool := false
  floodRunDone : Bool := false
  /-- This Flood ends in Dry dock because both banks failed (R117). -/
  noImage : Bool := false
  /-- VSUP_POR holds everything reset: VSUP has fallen below 2.5 V and not risen above 2.8 V (R99, R103). -/
  vsupLow : Bool := false
  /-- The 32.768 kHz crystal was lost in Slack water: reported at the next Flood (R73). -/
  xtalLossNote : Bool := false
  /-- Unit recoveries requested and not yet carried out (R109). -/
  urReq : List UrCause := []
  /-- This Flood follows a UR: the march passes over the swell tables transparently (R573). -/
  fromUr : Bool := false
  deriving DecidableEq, Repr

/-- Whether a bank's image is known good (R122). -/
inductive ImgSt
  | unverified | valid | failed
  deriving DecidableEq, Repr

/-- What an Ebb save holds (R79): sequence number, good CRC, and the saved tables, positions and coefficients. -/
structure Save where
  seq : Nat
  good : Bool
  swell : List Host.Cell
  swellTags : List (Nat × Nat)
  positions : List (Nat × Word)
  coefs : List (Nat × Word)
  deriving DecidableEq, Repr

/-- Boot, security and the update port (R113-R131). -/
structure Boot where
  /-- Banks still to try in this Flood, in order (R117): 0 A, 1 B. -/
  toTry : List Nat := []
  /-- A trial is running under a record written with TRIAL = 1 in this Flood (R119). -/
  trialFlood : Bool := false
  /-- The bank whose image runs, once settled (R117). -/
  runBank : Option Nat := none
  imgA : ImgSt := .unverified
  imgB : ImgSt := .unverified
  portOpen : Bool := false
  portTarget : Bool := false
  /-- The nonce taken at OPEN, and the words last written to UPD_NONCE0-2 (R121, R129). -/
  nonce : List Word := [0#32, 0#32, 0#32]
  nonceIn : List Word := [0#32, 0#32, 0#32]
  /-- Word index in the target region (R121). -/
  portWord : Nat := 0
  overrun : Bool := false
  /-- A manifest was written since the port opened (R121). -/
  manifestWritten : Bool := false
  verifying : Bool := false
  saveA : Option Save := none
  saveB : Option Save := none
  deriving DecidableEq, Repr

/-- One clock-domain crossing of R83-R87: the word held, whether a transfer waits, the last agreed value and its staleness. -/
structure Sluice where
  value : Word := 0#32
  /-- A handshake transfer whose acknowledgement has not been removed (R83). -/
  waiting : Option Word := none
  delivered : Nat := 0
  disagree : Nat := 0
  stale : Bool := false
  deriving DecidableEq, Repr

/-- A bridge entry of the manifest (R414). -/
structure BridgeEntry where
  en : Bool := false
  form : Bool := false
  cmpFilt : Nat := 0
  edgeMax : Nat := 0
  itripPos : Nat := 0
  itripNeg : Nat := 0
  dcMin : Nat := 0
  dcMax : Nat := 0
  tclMax : Nat := 0
  deriving DecidableEq, Repr

/-- The manifest values in force (R412-R415, R559). The watchdog and Harbourmaster values are the fixed ones of R619 and
R440 until a manifest passes its range check. -/
structure Manifest where
  gsize : Nat := 0
  rank : Nat := 0
  bench : Bool := false
  bridges : List BridgeEntry := [{}, {}, {}, {}, {}, {}]
  wdPeriod : Nat := 100
  wdOpen : Nat := 50
  wdFailMax : Nat := 3
  wdPairs : Nat := 1
  wdSeed : Nat := 0xACE1
  tkpMax : Nat := 175
  hmLimit : Nat := 3
  hmQuiet : Nat := 100
  leeEn : Bool := false
  leePin : Nat := 0
  leeIrated : List Word := [0#32, 0#32, 0#32, 0#32, 0#32, 0#32]
  leeRate : Word := 0#32
  leeAcc : Word := 0#32
  deriving DecidableEq, Repr

/-- Seawall state not held in the SEAWALL page (R400-R424, R619). -/
structure Seawall where
  /-- The WG page claims (R401). -/
  claim : Bool := false
  /-- The Harbourmaster has withdrawn the claim (R433); holds until a UR. -/
  withdrawn : Bool := false
  mf : Manifest := {}
  /-- A manifest has passed its range check in this Flood (R619, R440). -/
  mfPassed : Bool := false
  /-- A manifest has been checked in this Flood, of this bank (R415). -/
  mfBank : Option Nat := none
  /-- An outcome of HCAUSE 1 or 2 held until the running bank is settled (R415); 0 none. -/
  heldOutcome : Nat := 0
  /-- The hard-cut flag of the AON domain (R406, R408). -/
  aonHard : Bool := false
  wdRun : Bool := false
  /-- Answers accepted in the period so far, and whether one was wrong (R409). -/
  wdAnswers : Nat := 0
  wdBad : Bool := false
  /-- Good periods since KD left reset in this Flood (R400). -/
  wdGoodFlood : Nat := 0
  /-- Times (BUS cycles) of shoot-through reports per bridge within the last second (R402). -/
  shoot : List (Nat × List Nat) := []
  /-- Bridges whose soft-cut causes have been gone for 16 SWRC cycles, and whose lane release has been signalled (R405). -/
  causesGone : List (Nat × Bool) := []
  laneReleased : List (Nat × Bool) := []
  /-- First seal key word taken (R418). -/
  keyFirst : Bool := false
  /-- Legs whose command words have stopped (R21, R541). -/
  silent : List Nat := []
  /-- Consecutive implausible precise boundaries per phase (R424). -/
  plaus : List (Nat × Nat) := []
  /-- A debugger has attached in this Flood or since, without the exemption of R392: no authority until the next Flood. -/
  dbgBarred : Bool := false
  /-- SAFE outputs (R593). -/
  safeEn : Bool := false
  safeHcut : Bool := false
  deriving DecidableEq, Repr

/-- Incident states (R436). -/
inductive IncSt
  | closed | held | probation | lee
  deriving DecidableEq, Repr

/-- A record of the live ring and the history queue: pennant word and Tidemark time (R443). -/
structure HmRec where
  pennant : BitVec 64
  time : BitVec 64
  deriving DecidableEq, Repr

/-- An incident record (R436, R443). -/
structure Incident where
  st : IncSt := .closed
  level : Nat := 0
  first : HmRec := ⟨0#64, 0#64⟩
  last : HmRec := ⟨0#64, 0#64⟩
  kinds : BitVec 64 := 0#64
  count : Nat := 0
  helds : Nat := 0
  acked : Bool := false
  escalations : Nat := 0
  releases : Nat := 0
  /-- BUS cycle at which the quiet clock was last started. -/
  quietFrom : Nat := 0
  /-- The reaction in force: the highest level whose reaction has been carried out since opening. -/
  reacted : Nat := 0
  /-- Sources whose lanes are isolated by this incident. -/
  lanes : List Nat := []
  deriving DecidableEq, Repr

/-- What the Harbourmaster and the source itself keep for one source (R426-R430, R443). -/
structure SrcSt where
  /-- The source's own pennant count. -/
  seq : BitVec 6 := 0#6
  expSeq : BitVec 6 := 0#6
  admitted : Nat := 0
  dropped : Nat := 0
  lastAdm : Option Nat := none
  /-- Times of level-1 pennants, newest first (R435 step 2). -/
  lvl1 : List Nat := []
  /-- A line assertion waits for its pennant, or a pennant for its line (R428). -/
  lineWait : Bool := false
  pennWait : Bool := false
  deriving DecidableEq, Repr

/-- An entry of the intake queue (R430). -/
structure QEntry where
  p : Pennant
  time : BitVec 64
  deriving DecidableEq, Repr

/-- Harbourmaster state not held in the HM page (R425-R447). -/
structure Hm where
  src : List (Nat × SrcSt) := []
  queue : List QEntry := []
  /-- Held levels per group, and the sources of the entries they stand for (R430). -/
  held : List (Nat × Nat) := []
  heldSrc : List (Nat × List Nat) := []
  /-- The Harbourmaster's own pennants waiting for a slot (R431, R432). -/
  own : List Pennant := []
  lastDrop : Option Nat := none
  /-- Which kind of work the next slot looks at first: 0 queue, 1 held levels, 2 own (R432). -/
  turn : Nat := 0
  inc : List (Nat × Incident) := []
  ring : List (Nat × HmRec) := []
  /-- The history queue, oldest first, at most 16 (R442). -/
  hist : List HmRec := []
  /-- An acknowledgement written in the slot in which an incident opens is ignored: groups opened in this slot (R438). -/
  openedNow : List Nat := []
  deriving DecidableEq, Repr

end Sys2Proof.Machine
end

