-- ==== Sys2Proof/Machine/CoveTypes.lean ====
section
/-!
DEFINITION. Machine/CoveTypes.lean: the state of the Cove pairs (R319-R366): two cores, and what couples them.
-/
namespace Sys2Proof.Machine

/-- A register write that lands `left` instructions from now (R328); `key` is the register number of R323 with the bank of issue. -/
structure CvLand where
  key : Nat
  val : Nat
  left : Nat
  deriving DecidableEq, Repr

/-- What a branch does at the end of its delay slots (R354). -/
inductive CvAct
  | none | jump | call (lr : Nat) | reti (sr : Nat) | retf (sr : Nat)
  deriving DecidableEq, Repr

/-- Delay slots left of a branch, call or return, with its target. -/
structure CvDelay where
  left : Nat
  target : Nat
  act : CvAct
  deriving DecidableEq, Repr

/-- A word whose new value later reads do not see yet (R328, R365): its old value and the instructions it lasts. -/
structure CvOld where
  key : Nat
  old : Word
  left : Nat
  deriving DecidableEq, Repr

/-- One core. -/
structure CvCore where
  /-- Registers by number (R323), the shadow bank's from 0x80; 0x30-0x37 are the circular bases, 0x48-0x4F the accumulators as
  MAC and FTAP accumulate into them (R328). -/
  rf : List (Nat × Nat) := []
  pc : Nat := 0
  /-- The shadow bank is in use (R332). -/
  bank : Bool := false
  land : List CvLand := []
  delay : Option CvDelay := none
  /-- Repetitions of the target left, the present one included (R356). -/
  rep : Nat := 0
  olds : List CvOld := []
  /-- Words of the I/O window this core has written and reads back (R320). -/
  outs : List (Nat × Word) := []
  retired : Nat := 0
  /-- Instructions of the open window and its running signature (R336). -/
  win : Nat := 0
  sig : Word := 0xFFFFFFFF#32
  /-- The window closes with the present instruction (R336, R339). -/
  closeNow : Bool := false
  /-- An exception: cause and PC (R337). -/
  exc : Option (Nat × Nat) := none
  halted : Bool := false
  deriving DecidableEq, Repr

/-- An entry of the echo FIFO (R334): a read, or an interrupt acceptance with its retired count. -/
inductive CvEcho
  | read (addr : Nat) (v : Word)
  | accept (fast : Bool) (retired : Nat)
  deriving DecidableEq, Repr

/-- One pair. -/
structure Cove where
  main : CvCore := {}
  chk : CvCore := {}
  echo : List CvEcho := []
  /-- The release buffer (R335), and the main core's I/O writes that act at once, not yet compared. -/
  hold : List (Nat × Word) := []
  ioq : List (Nat × Word) := []
  /-- Windows closed and not yet compared: retired count and signature (R336). -/
  sigs : List (Nat × Word) := []
  ckSigs : List (Nat × Word) := []
  /-- HALTREQ was written; the open window of a drain is to be closed (R339). -/
  haltReq : Bool := false
  closeReq : Bool := false
  /-- The I/O window's own state, in the main core only (R320, R334). -/
  iflag : Word := 0#32
  cycles : Nat := 0
  timerLoad : Word := 0#32
  timerCnt : Nat := 0
  farAddr : Word := 0#32
  farWdata : Word := 0#32
  farRdata : Word := 0#32
  /-- A far access under way: true for a write; its address and data, as they stood at its start (R335). -/
  far : Option (Bool × Word × Word) := none
  farErr : Bool := false
  /-- The BR that ends FAULT copies the memories (R337). -/
  copying : Bool := false
  deriving DecidableEq, Repr

end Sys2Proof.Machine
end

