-- ==== Sys2Proof/Machine/CurrentTypes.lean ====
section
/-!
DEFINITION. Machine/CurrentTypes.lean: the state of the current channels and of the Tender that their pages do not show
(R137-R156).
-/
namespace Sys2Proof.Machine

/-- One current channel, the Tender's own included. -/
structure Channel where
  /-- Fast and precise boundaries still to pass until the filters are filled (R143, R154, R155). -/
  fillF : Nat := 15
  fillP : Nat := 4
  /-- The newest precise sample was clipped: a run of clipped samples is open (R140). -/
  ovrRun : Bool := false
  /-- Consecutive refused calibrations (R150). -/
  refused : Nat := 0
  /-- BUS cycle of the last accepted calibration (R159); none since POR, UR or a change of gain. -/
  calAt : Option Nat := none
  /-- The gain code that OFFSET and GAIN belong to (R142). -/
  coefGain : Nat := 0
  deriving DecidableEq, Repr

/-- The Tender (R144-R156). Phase, channel and flags stand in TD_STAT. -/
structure Tender where
  /-- The rotation looks for the next channel from here (R144). -/
  rot : Nat := 0
  req : Option Nat := none
  due : Bool := false
  /-- The channel served or last served (R164). -/
  served : Option Nat := none
  /-- The phase whose streams the Tender produces (R141). -/
  relieved : Option Nat := none
  /-- Gain of the last self-calibration since POR or UR, and of the one in progress (R144, R152). -/
  selfGain : Option Nat := none
  calGain : Nat := 0
  /-- OFFSET and GAIN that the last self-calibration solved (R154). -/
  selfOffset : Word := 0#32
  selfCoef : Word := 0#32
  /-- The service that follows the self-calibration in progress, and whether a request asked for it (R146). -/
  next : Option Nat := none
  nextReq : Bool := false
  /-- TD_TIME and TD_LIMIT as they stood at the service start (R164). -/
  time : Word := 0x002007D0#32
  limit : Word := 0x01005414#32
  /-- Precise boundaries passed since CONNECT or VERIFY began. -/
  bnd : Nat := 0
  /-- Agreeing samples in a row and the largest difference among them, in precise codes (R147). -/
  run : Nat := 0
  maxDiff : Nat := 0
  /-- Calibration: the point in progress, the sum of point 1, a clipped sample seen (R149). -/
  point : Nat := 0
  sum1 : Int := 0
  calClip : Bool := false
  /-- Both points of this service are done (R146), and VERIFY runs with new coefficients, the old ones kept. -/
  calDone : Bool := false
  newCoef : Bool := false
  oldOffset : Word := 0#32
  oldGain : Word := 0#32
  /-- VERIFY waits for the channel to return from its Dredge test (R156). -/
  awaitRun : Bool := false
  deriving DecidableEq, Repr

end Sys2Proof.Machine
end

