-- ==== Sys2Proof/Machine/DredgeTypes.lean ====
section
/-!
DEFINITION. Machine/DredgeTypes.lean: Dredge's requests, running tests and sweep, and the buoys' filters (R567-R588).
-/
namespace Sys2Proof.Machine

/-- A Dredge test: the page it is named by, every page it quarantines, its tokens and its code in LAST_FAIL (R572, R586). -/
structure DrTest where
  page : Nat
  pages : List Nat
  tokens : Nat
  code : Nat
  deriving DecidableEq, Repr

/-- What a round of tests belongs to (R573-R577). -/
inductive DrPhase
  | none | boot | floodRun | sweep | service
  deriving DecidableEq, Repr

structure Dredge where
  queue : List DrTest := []
  running : List DrTest := []
  phase : DrPhase := .none
  /-- Grants held by VPRE_WARN (R571). -/
  warnHold : Bool := false
  /-- A test of the sweep in progress has failed. -/
  sweepFailed : Bool := false
  sweeping : Bool := false
  /-- Tests of current channels held until the Tender relieves the channel (R156). -/
  held : List DrTest := []
  /-- Pages whose FAILMAP bit a sweep cleared: their test runs from FAULT and only its pass returns them (R580). -/
  retest : List Nat := []
  /-- Words of the scrub pass read so far (R576). -/
  scrubAt : Nat := 0
  marchDone : Bool := false
  /-- On a standby in step: the engine under test, until its committed state has been written again (R578). -/
  stepHold : Option Nat := none
  deriving DecidableEq, Repr

/-- Consecutive samples on which each condition of R584 has held: entry into WARN and LIMIT, return from WARN and LIMIT. -/
structure Buoy where
  warnRun : Nat := 0
  limitRun : Nat := 0
  fromWarn : Nat := 0
  fromLimit : Nat := 0
  deriving DecidableEq, Repr

end Sys2Proof.Machine
end

