-- ==== Sys2Proof/Machine/EngineTypes.lean ====
section
/-!
DEFINITION. Machine/EngineTypes.lean: the state of the control engines, swell learners, injection generators and captures that
their pages and memories do not show (R208-R277).
-/
namespace Sys2Proof.Machine

/-- An open run of a rate group (R209, R213-R219). -/
structure Run where
  /-- TICKNO of its release. -/
  tick : Nat := 0
  /-- The release tick's snapshot: value and stale mark of each link, and of the sounding channels' speeds (R209, R266). -/
  links : List (Word × Bool) := []
  speeds : List (Word × Bool) := []
  /-- The injection sample of the release tick and the points it is armed at (R273). -/
  inj : Word := 0#32
  injPoints : Nat := 0
  started : Bool := false
  xs : List Word := []
  /-- Bound to bank B (R219). -/
  bankB : Bool := false
  /-- Index of the next operation (R204). -/
  pc : Nat := 0
  /-- Staging (R215): P words, O slots, references, capture values and learning samples (table, angle, error). -/
  stP : List (Nat × Word) := []
  stO : List (Nat × Word) := []
  stR : List (Nat × Word) := []
  stCap : List (Nat × Word) := []
  teach : List (Nat × Word × Word) := []
  deriving DecidableEq, Repr

/-- One engine. -/
structure Engine where
  /-- Open runs by group. -/
  runs : List (Nat × Run) := []
  /-- Angles published to the partner, newest first, with the TICKNO of each; and whether they are marked stale (R225, R226). -/
  pubs : List (Nat × Word) := []
  pubStale : Bool := false
  /-- A check is running (R221). -/
  checking : Bool := false
  deriving DecidableEq, Repr

/-- One swell table (R266-R269): the error filter, S as binary64, and a CLEAR waiting for the boundary. -/
structure Swell where
  ef : Word := 0#32
  sum : Nat := 0
  clearReq : Bool := false
  deriving DecidableEq, Repr

/-- One injection generator (R272, R273). -/
structure Inject where
  n : Nat := 0
  ph : Word := 0#32
  stopReq : Bool := false
  late : Bool := false
  deriving DecidableEq, Repr

/-- One capture (R274-R276). -/
structure Capture where
  /-- Granted segments, ascending. -/
  segs : List Nat := []
  pre : Nat := 0
  dec : Nat := 0
  force : Bool := false
  pennant : Bool := false
  /-- TCH of the previous record that was not abandoned. -/
  prev : Option Word := none
  /-- Records written since ARM and after the trigger record. -/
  written : Nat := 0
  after : Nat := 0
  deriving DecidableEq, Repr

end Sys2Proof.Machine
end

