-- ==== Sys2Proof/Machine/GateTypes.lean ====
section
/-!
DEFINITION. Machine/GateTypes.lean: the state of a gate leg that its page does not show (R287-R306).
-/
namespace Sys2Proof.Machine

/-- The leg latch (R302). -/
inductive Latch
  | none | latch | waitEdge
  deriving DecidableEq, Repr

/-- A placed switch action (R287): time in taps of 156.25 ps, high or low side, on or off. -/
structure SwitchAct where
  time : Nat
  high : Bool
  on : Bool
  deriving DecidableEq, Repr

/-- One gate leg. Which switch is driven stands in GL.STAT.OUT. -/
structure Leg where
  /-- Placed actions, earliest first. -/
  acts : List SwitchAct := []
  /-- The last times, in taps, at which the high and the low side were commanded off (R287). -/
  tHoff : Option Nat := none
  tLoff : Option Nat := none
  latch : Latch := .none
  /-- Consecutive words with CMD both (R304). -/
  crossRun : Nat := 0
  /-- A switch sinks through the soft sink: true the high side (R300). -/
  soft : Option Bool := none
  /-- This leg is driven on the low side under the Seawall's own enable: SHORT form (R293). -/
  shortOn : Bool := false
  /-- The last command word applied; none where the leg has been switched off since (R287). -/
  word : Option (BitVec 16) := none
  /-- DIDT, VDS and BOOT as each switch took them at its last turn-on (R310): the high side, then the low side. -/
  cfgH : Word × Word × Word := (0#32, 0#32, 0#32)
  cfgL : Word × Word × Word := (0#32, 0#32, 0#32)
  deriving DecidableEq, Repr

end Sys2Proof.Machine
end

