-- ==== Sys2Proof/Machine/IfaceTypes.lean ====
section
/-!
DEFINITION. Machine/IfaceTypes.lean: the state of CAN, SPI and the external host, SENT, the SAR converters and the sensor supplies
that their pages do not show (R505-R518).
-/
namespace Sys2Proof.Machine

/-- A CAN controller (R506): the receive FIFO, oldest first, as window words; receive buffers not yet read; the recovery of
bus-off under way; the last frame sent, as window words. -/
structure Can where
  fifo : List (List Word) := []
  unread : List Nat := []
  recovering : Bool := false
  sent : List Word := []
  deriving DecidableEq, Repr

/-- A frame an SPI controller sends. -/
inductive SpiJob
  | tx (w : Word)
  | poll (channel : Nat)
  deriving DecidableEq, Repr

/-- An SPI controller; jobs, the one under way first (R508). -/
structure Spi where
  jobs : List SpiJob := []
  /-- The chip select asserted last and the frame sent on it. -/
  out : Nat × Word := (0, 0#32)
  deriving DecidableEq, Repr

/-- The external host's port on SPI5 (R509, R510). -/
structure HostPort where
  /-- The access under way: a write's data, or a read. -/
  access : Option (Word × Option Word) := none
  data : Word := 0#32
  err : Bool := false
  /-- The status and data words of the last frame. -/
  status : Nat := 0
  shown : Word := 0#32
  deriving DecidableEq, Repr

/-- A SENT input (R512): status nibbles' serial bits of the short serial message so far, newest first. -/
structure Sent where
  bits : List Bool := []
  deriving DecidableEq, Repr

/-- A SAR converter (R514): the list entry to convert next while the list runs; a list asked for in continuous mode. -/
structure Sar where
  next : Option Nat := none
  deriving DecidableEq, Repr

/-- A sensor supply (R517). -/
structure Supply where
  oow : Bool := false
  ilim : Bool := false
  tsd : Bool := false
  /-- Held off by a level-2 reaction. -/
  lane : Bool := false
  deriving DecidableEq, Repr

/-- The JTAG instructions of R3 and R598. -/
inductive JtagIr
  | bypass | samplePreload | extest | idcode
  deriving DecidableEq, Repr

/-- The JTAG port (R598): instruction, preloaded cells, cells that EXTEST drives, and the IDCODE register as last captured. -/
structure Jtag where
  ir : JtagIr := .idcode
  preload : List (Ball × Bool) := []
  driven : List (Ball × Bool) := []
  id : Word := 0#32
  deriving DecidableEq, Repr

end Sys2Proof.Machine
end

