-- ==== Sys2Proof/Machine/LoopTypes.lean ====
section
/-!
DEFINITION. Machine/LoopTypes.lean: the state of the hysteretic current loops and coordinators that their pages do not show
(R236-R254). Loop time is kept in taps of 156.25 ps, decision n falling at tap 1280 n.
-/
namespace Sys2Proof.Machine

/-- A fast sample as a decision used it: its code, whether it was valid and unclipped, and its RELIEF bit. -/
structure FastUse where
  code : Int
  good : Bool
  relief : Bool
  deriving DecidableEq, Repr

/-- One loop. -/
structure Loop where
  /-- The commanded state: true high; none until the first edge in RUN (R253). -/
  sig : Option Bool := none
  /-- Slope estimates, 8 fraction bits (R239), and the half-band h, 8 fraction bits (R242). -/
  sHigh : Int := 0
  sLow : Int := 0
  h : Nat := 0
  /-- Effective time of the last command edge, its time, and the decision that issued it (R239, R241, R245). -/
  te : Int := 0
  lastEdge : Option Int := none
  edgeDec : Nat := 0
  /-- The sample of the last decision (R241), the current that decision used, in 1/256 codes, and the decisions coasted (R254). -/
  prev : Option FastUse := none
  cur : Int := 0
  age : Nat := 0
  /-- The open period: its start, whether it still counts, its largest error (R244, R246). -/
  periodAt : Option Int := none
  periodOk : Bool := false
  peak : Nat := 0
  errRun : Nat := 0
  /-- The present state was set by the coordinator (R249, R250). -/
  subst : Bool := false
  deferred : Bool := false
  /-- The decision after which a refresh pulse was last seen (R241). -/
  refreshAt : Option Nat := none
  /-- A BR has occurred since the page last left RUN (R253). -/
  brSince : Bool := true
  /-- The command word sent at the last decision (R286). -/
  word : BitVec 16 := 0#16
  deriving DecidableEq, Repr

end Sys2Proof.Machine
end

