-- ==== Sys2Proof/Machine/MauloTypes.lean ====
section
/-!
DEFINITION. Machine/MauloTypes.lean: the state of the Maulo bus and its berths (R448-R504). Times and delays are in 1/16 ns.
-/
namespace Sys2Proof.Machine

/-- A Maulo port: MA0, MA1, MB0, MB1 (R478-R481). -/
structure MPort where
  /-- Exchanges of the link-up stage and their sum (R480). -/
  ldCount : Nat := 0
  ldSum : Int := 0
  rejects : Nat := 0
  /-- Sender of the previous LEAD on this port. -/
  neigh : Option Nat := none
  /-- PH_DELAY and PH_ID of the last LEAD, and FAR per node (R479, R481). -/
  phDelay : Option Nat := none
  phId : Option Nat := none
  far : List (Nat × Nat) := []
  /-- Transmit stamp of this slot's REQ, receive stamp of this slot's REQ (R478). -/
  t1 : Option Int := none
  t2 : Option Int := none
  /-- A LEAD frame has arrived since the last cycle boundary, or in LISTEN (R474). -/
  leadSeen : Bool := false
  deriving DecidableEq, Repr

/-- The node (R457-R494). -/
structure Maulo where
  /-- Tidemark in 2^-32 ns (R472), the slew and the BUS cycles it lasts (R482). -/
  tm : Nat := 0
  slew : Int := 0
  slewLeft : Nat := 0
  /-- TM at the start of the current cycle. -/
  cycStart : Int := 0
  firstAfterLoad : Bool := true
  oPrev : Int := 0
  ocPrev : Int := 0
  /-- START frames sent in this cold start (R474). -/
  starts : Nat := 0
  /-- In this cycle: a valid SYNC has been used, a clean correction made; channels whose slot-0 window has closed. -/
  synced : Bool := false
  cleanNow : Bool := false
  closed : List Nat := []
  /-- Consecutive cycles with SYNC on both channels (R453). -/
  both : Nat := 0
  /-- In this cycle: a valid frame with PLAN_REQ; senders of valid frames with HEALTH (R463). -/
  reqSeen : Bool := false
  healthy : List Nat := []
  /-- Cycle number of the last valid frame of a sender (R485). -/
  heard : List (Nat × Word) := []
  /-- Slots accepted in this cycle, key 64 channel + slot (R451). -/
  accepted : List Nat := []
  /-- Last CNT accepted per DATA_ID (R456). -/
  lastCnt : List (Nat × Nat) := []
  /-- Cycle numbers of early or late frames, key 32 channel + sender (R487). -/
  edgeFrames : List (Nat × List Word) := []
  returnReq : Bool := false
  /-- MAC_KEY0-MAC_KEY3 as written (R470). -/
  macKey : List (Nat × Word) := []
  ports : List (Nat × MPort) := []
  /-- The last frame sent on each channel, without its FCS. -/
  sent : List (Nat × List Byte) := []
  /-- The last frame forwarded out of each port, and whether its FCS is good (R450, R489). -/
  fwd : List (Nat × FrameCheck × List Byte) := []
  /-- TM has been loaded from a START in this cycle (R490). -/
  startLoad : Bool := false
  deriving DecidableEq, Repr

/-- A berth (R497-R499, R456). -/
structure Berth where
  buf : Bool := false
  valid : Bool := false
  seen : Nat := 0
  age : Nat := 0
  copies : Nat := 0
  /-- Transmit: a committed copy waits for its frame; the counter sent last. -/
  fresh : Bool := false
  cnt : Nat := 0
  /-- Receive: a PDU has been accepted; a copy has completed in this cycle. -/
  accepted : Bool := false
  doneNow : Bool := false
  deriving DecidableEq, Repr

end Sys2Proof.Machine
end

