-- ==== Sys2Proof/Machine/SoundTypes.lean ====
section
/-!
DEFINITION. Machine/SoundTypes.lean: the state of the sounding channels that their pages do not show (R169-R193).
-/
namespace Sys2Proof.Machine

/-- One sounding channel. -/
structure Snd where
  /-- Position core (R172, R190): POS, ANGLE, REV, POS_VALID. -/
  pos : Word := 0#32
  angle : Nat := 0
  rev : Word := 0#32
  valid : Bool := false
  /-- Filtered levels of the A, B and Z inputs (R169). -/
  a : Bool := false
  b : Bool := false
  z : Bool := false
  /-- The Hall state the next move is taken from; none while a legal state is awaited (R174). -/
  hall : Option Nat := none
  /-- The newest step was negative, and its timestamp (R189, R198). -/
  dirNeg : Bool := false
  edgeTs : Word := 0#32
  /-- Period path (R177, R180): intervals, newest first; time and direction of the last step; the next interval is discarded. -/
  hist : List Nat := []
  tLast : Word := 0#32
  lastNeg : Option Bool := none
  discard : Bool := true
  /-- Count path (R179): wc in counts/s and POS of the last window end. -/
  wc : Nat := 0
  winPos : Option Word := none
  srcCount : Bool := false
  still : Bool := false
  /-- Absolute modes (R176, R181): accepted (POS, timestamp) pairs, newest first; jumps in a row; no sample accepted since
  enable or test. -/
  samples : List (Word × Word) := []
  jumps : Nat := 0
  first : Bool := true
  /-- Framed modes (R182-R185): start of the frame in progress, a new sample since the last latch, latches without one. -/
  frameTs : Option Word := none
  fresh : Bool := false
  missed : Nat := 0
  /-- Resolver observer (R187), binary64 (log entry 24): angle, integrator and speed; nominal amplitude; periods out of window. -/
  th : Nat := 0
  wi : Nat := 0
  w : Nat := 0
  nominal : Nat := 0
  ampBad : Nat := 0
  /-- POS of the previous latch and the steps between the last two latches (R208). -/
  latchPos : Word := 0#32
  dpos : Word := 0#32
  /-- Counting has stopped for the handover to the AON counter (R193). -/
  stopped : Bool := false
  /-- The saved position has been restored in this Flood (R193). -/
  restored : Bool := false
  /-- Handover sequence number, and the one stored by the Ebb save (R193). -/
  seq : Nat := 0
  deriving DecidableEq, Repr

/-- The AON counter of SC10 or SC11 (R191-R193). -/
structure AonCnt where
  active : Bool := false
  pos : Word := 0#32
  lost : Bool := false
  valid : Bool := false
  missed : Nat := 0
  /-- The last state sampled: A, B and Z. -/
  st : BitVec 3 := 0#3
  seq : Nat := 0
  /-- SLACK as carried into the AON domain (R191), with the mode and sense of the channel. -/
  slack : Word := 0x000A0032#32
  mode : Word := 0#32
  deriving DecidableEq, Repr

/-- The excitation generator (R186): periods in a row beyond 10 %, per output. -/
structure Excite where
  bad0 : Nat := 0
  bad1 : Nat := 0
  deriving DecidableEq, Repr

end Sys2Proof.Machine
end

