-- ==== Sys2Proof/Machine/WatchTypes.lean ====
section
/-!
DEFINITION. Machine/WatchTypes.lean: the state of the watch group that the MP, BOL and WG pages do not show (R520-R566).
-/
namespace Sys2Proof.Machine

/-- A RAW frame as used (R528): valid entries and values, from one originator in one period. -/
structure RawSet where
  rank : Nat
  period : Word
  entries : List (Nat × Word)
  deriving DecidableEq, Repr

/-- The payload of an XCHK frame (R534). -/
structure Xchk where
  agreeSig : Word := 0#32
  stateSig : Word := 0#32
  abnd : Nat := 0
  values : List Word := []
  deriving DecidableEq, Repr

/-- What is known of a peer, by its rank (R522, R547, R549). -/
structure Peer where
  /-- From HELLO: its state and CONFIG_SIG. -/
  hello : Option (Nat × Word) := none
  /-- Absent: both links down for 100 ms. -/
  absent : Bool := false
  /-- Its last HEALTH showed READY, and the BUS cycle it came. -/
  ready : Bool := false
  healthAt : Option Nat := none
  /-- Consecutive periods without its RAW frame. -/
  rawMiss : Nat := 0
  lost : Bool := false
  deriving DecidableEq, Repr

/-- The watch group. -/
structure Watch where
  /-- Own values of this period, valid ones only (R528), and the peers' RAW frames received in it. -/
  own : List (Nat × Word) := []
  raws : List RawSet := []
  /-- XCHK frames of this period: the unit's own and, by rank, the peers'. -/
  ownX : Option Xchk := none
  peerX : List (Nat × Xchk) := []
  /-- Engines whose XGRP run committed, or was abandoned, in this period. -/
  xDone : List Nat := []
  xAbnd : List Nat := []
  /-- STATE_SIG of the previous period, sent in this one (R536). -/
  prevSig : Word := 0#32
  /-- Consecutive periods an entry has been disputed. -/
  disputes : List (Nat × Nat) := []
  peers : List (Nat × Peer) := []
  /-- Frames accepted lately: type, originator, period (R524). -/
  frames : List (Nat × Nat × Word) := []
  /-- 2 ms have passed since the first mooring link-up (R537). -/
  joinDone : Bool := false
  /-- A swap in step is armed (R533). -/
  xswap : Bool := false
  /-- The agreed set of this period has been formed (R534). -/
  agreedNow : Bool := false
  /-- Departures from step in this drive cycle (R535). -/
  departures : Nat := 0
  /-- As sender: the blocks still to send in this sweep, the dirty ones, the unit it sends to; the cut buffer (R544, R545). -/
  sending : Bool := false
  sendTo : Nat := 0
  sweep : List Nat := []
  dirty : List Nat := []
  cutNext : Bool := false
  cutBuf : List (Nat × List (BitVec 8)) := []
  /-- Blocks of swell bins updated since the last step-load (R546). -/
  stepBlocks : List Nat := []
  /-- As the unit holding authority: engines whose committed state a standby in step has asked for (R578). -/
  oneEngine : List Nat := []
  /-- As returning unit: CAUGHT_UP written, and in force from the next boundary; sets logged (R547). -/
  caughtReq : Bool := false
  caughtUp : Bool := false
  logged : Nat := 0
  /-- Frames sent last, by port: type and payload. -/
  sent : List (Nat × (Nat × List (BitVec 8))) := []
  /-- BUS cycle at which a release was seen (R562). -/
  releasedAt : Option Nat := none
  deriving DecidableEq, Repr

end Sys2Proof.Machine
end

