-- ==== Sys2Proof/Machine/State.lean ====
section
/-!
DEFINITION. Machine/State.lean: the machine's state, its faults and refusals, and the state after reset.
-/
namespace Sys2Proof.Machine

/-- Why a command can stop. The spec answers every command with an effect, a refusal recorded in a page, or a bus error,
so no meaning raises one: the type has the one name the interface needs. -/
inductive Fault
  /-- Raised by no meaning (safe). -/
  | none
  deriving DecidableEq, Repr

/-- Why a command is refused. -/
inductive Refusal
  /-- A command whose meaning is not written yet (safe). -/
  | notModelled (mnemonic : String)
  deriving DecidableEq, Repr

/-- The state of one KZ3A. Field defaults are the reset values. -/
structure State where
  /-- Commands waiting, first in, first out. -/
  pending : List Instr := []
  /-- BUS cycles of 2.5 ns since reset: the shared time base STB is its low 32 bits. -/
  cyc : Nat := 0
  /-- How many free values have been drawn (the model's own, log entry 5). -/
  freeCnt : Nat := 0
  /-- The addressable memories of R35, in canonical form. -/
  mem : List Host.Cell := []
  /-- The register pages, over their reset values (R28, R41). -/
  pages : List (Nat × Page) := []
  /-- High words latched by low-word reads, per initiator and address (R69). -/
  latches : List (Initiator × Nat × Word) := []
  /-- The last answer of the KCB (the model's own). -/
  reply : BusReply := .none
  /-- Pennants sent and not yet received, and error lines raised and not yet seen, oldest first (R426-R429). -/
  wires : List Pennant := []
  lines : List Nat := []
  /-- The last good word of each receiver of the inner quay (R20). -/
  quay : List (Nat × BitVec 64) := []
  sluices : List (Nat × Sluice) := []
  pw : Power := {}
  boot : Boot := {}
  sea : Seawall := {}
  hm : Hm := {}
  /-- Gate legs GL0-GL17. -/
  legs : List (Nat × Leg) := []
  dr : Dredge := {}
  /-- Buoy runs, key 32 p + n for page p of BYT, BYV, BYP. -/
  buoys : List (Nat × Buoy) := []
  /-- SWQ raised on pair k and not yet taken (R409, R370). -/
  swq : BitVec 4 := 0#4
  /-- Current channels CS0-CS17 and, at 18, the Tender's own channel; and the Tender (R137-R156). -/
  chans : List (Nat × Channel) := []
  td : Tender := {}
  /-- Sounding channels SC0-SC11, the AON counters of SC10 and SC11, and the excitation generator (R166-R193). -/
  sc : List (Nat × Snd) := []
  aonCnt : List (Nat × AonCnt) := []
  sx : Excite := {}
  /-- Engines CE0-CE5; swell tables, key 4 k + j; injection generators; captures (R200-R283). -/
  ce : List (Nat × Engine) := []
  swl : List (Nat × Swell) := []
  ij : List (Nat × Inject) := []
  cap : List (Nat × Capture) := []
  /-- Segments being cleared, in the order they are cleared (R274). -/
  clearing : List Nat := []
  /-- The base tick has started, and RELEASED of the last boundary stands (R211). -/
  tickOn : Bool := false
  /-- The base tick follows Tidemark, without a loss of it since it was aligned (R211, R212). -/
  tickAligned : Bool := false
  /-- Current loops HL0-HL17, and the number of the last decision (R236). -/
  loops : List (Nat × Loop) := []
  dec : Nat := 0
  /-- Cove pairs CV0-CV3, and the checker's copies of P, X and Y, under the main copies' addresses (R319-R366). -/
  cv : List (Nat × Cove) := []
  ckMem : List Host.Cell := []
  /-- The agreed input set: entry, value, stale mark (R531). -/
  agreed : List (Nat × (Word × Bool)) := []
  /-- Application pairs AC0-AC3 (R367-R399). -/
  app : List (Nat × App) := []
  /-- Maulo and its berths (R448-R504). -/
  ma : Maulo := {}
  berths : List (Nat × Berth) := []
  /-- Vehicle interfaces (R505-R518): CAN0-3, SPI0-5, the host port, SENT0-7, GA0-1, SS0-3. -/
  can : List (Nat × Can) := []
  spi : List (Nat × Spi) := []
  hostPort : HostPort := {}
  sent : List (Nat × Sent) := []
  sar : List (Nat × Sar) := []
  supplies : List (Nat × Supply) := []
  jtag : Jtag := {}
  /-- The watch group (R520-R566). -/
  wg : Watch := {}
  deriving DecidableEq, Repr

/-- The machine right after a power-on reset in which the always-on supply was lost (R56, R76): Flood has started. -/
def State.reset : State := {}

end Sys2Proof.Machine
end

