-- ==== Sys2Proof/Machine/Ops.lean ====
section
/-!
DEFINITION. Machine/Ops.lean: the named operations of the model: pages and registers, counters, interrupts, memory, free values,
pennants and error lines.
-/
namespace Sys2Proof.Machine

/-! ### Page keys (R28, R38): the page of instance i in group g has key 32 g + i. -/

abbrev pkSys : Nat := 0
abbrev pkPla : Nat := 1
abbrev pkPlb : Nat := 2
abbrev pkAon : Nat := 3
abbrev pkSup : Nat := 4
abbrev pkCs (k : Nat) : Nat := 0x20 + k
abbrev pkCst : Nat := 0x32
abbrev pkHl (k : Nat) : Nat := 0x40 + k
abbrev pkHc (m : Nat) : Nat := 0x58 + m
abbrev pkSc (k : Nat) : Nat := 0x60 + k
abbrev pkSx : Nat := 0x70
abbrev pkCe (k : Nat) : Nat := 0x80 + k
abbrev pkSw (k : Nat) : Nat := 0xA0 + k
abbrev pkIj (k : Nat) : Nat := 0xA8 + k
abbrev pkCp : Nat := 0xB0
abbrev pkGl (k : Nat) : Nat := 0xC0 + k
abbrev pkGb (m : Nat) : Nat := 0xD8 + m
abbrev pkIs (k : Nat) : Nat := 0xE0 + k
abbrev pkCv (k : Nat) : Nat := 0x100 + k
abbrev pkAc (k : Nat) : Nat := 0x120 + k
abbrev pkQg (k : Nat) : Nat := 0x128 + k
abbrev pkSea : Nat := 0x140
abbrev pkHm : Nat := 0x160
abbrev pkMa (c : Nat) : Nat := 0x180 + c
abbrev pkPort (p : Nat) : Nat := 0x184 + p
abbrev pkMs : Nat := 0x188
abbrev pkBth : Nat := 0x189
abbrev pkMp (p : Nat) : Nat := 0x1A0 + p
abbrev pkBol : Nat := 0x1A2
abbrev pkWg : Nat := 0x1A3
abbrev pkDr : Nat := 0x1C0
abbrev pkByt : Nat := 0x1C1
abbrev pkByv : Nat := 0x1C2
abbrev pkByp : Nat := 0x1C3
abbrev pkGa (k : Nat) : Nat := 0x1E0 + k
abbrev pkCan (k : Nat) : Nat := 0x200 + k
abbrev pkSpi (k : Nat) : Nat := 0x220 + k
abbrev pkSent (k : Nat) : Nat := 0x240 + k
abbrev pkMrm : Nat := 0x260
abbrev pkSrm : Nat := 0x261
abbrev pkSec : Nat := 0x262
abbrev pkDbg : Nat := 0x280

/-- The kind of the page in group `g`, instance `i` (R28, R43); none for an unassigned slot (R29). -/
def kindAt (g i : Nat) : Option PKind :=
  match g with
  | 0x00 => match i with
    | 0 => some .sys | 1 => some .pll | 2 => some .pll | 3 => some .aon | 4 => some .sup | _ => none
  | 0x01 => if i < 18 then some .cs else if i = 18 then some .cst else none
  | 0x02 => if i < 18 then some .hl else if 24 ≤ i ∧ i < 30 then some .hc else none
  | 0x03 => if i < 12 then some .sc else if i = 16 then some .sx else none
  | 0x04 => if i < 6 then some .ce else none
  | 0x05 => if i < 6 then some .sw else if 8 ≤ i ∧ i < 14 then some .ij else if i = 16 then some .cp else none
  | 0x06 => if i < 18 then some .gl else if 24 ≤ i ∧ i < 30 then some .gb else none
  | 0x07 => if i < 18 then some .is else none
  | 0x08 => if i < 4 then some .cv else none
  | 0x09 => if i < 4 then some .ac else if 8 ≤ i ∧ i < 12 then some .qg else none
  | 0x0A => if i = 0 then some .seawall else none
  | 0x0B => if i = 0 then some .hm else none
  | 0x0C => if i < 2 then some .ma else if 4 ≤ i ∧ i < 8 then some .port
    else if i = 8 then some .ms else if i = 9 then some .bth else none
  | 0x0D => if i < 2 then some .mp else if i = 2 then some .bol else if i = 3 then some .wg else none
  | 0x0E => match i with
    | 0 => some .dr | 1 => some .byt | 2 => some .byv | 3 => some .byp | _ => none
  | 0x0F => if i < 2 then some .ga else none
  | 0x10 => if i < 4 then some .can else none
  | 0x11 => if i < 6 then some .spi else none
  | 0x12 => if i < 8 then some .sent else none
  | 0x13 => match i with
    | 0 => some .mrm | 1 => some .srm | 2 => some .sec | _ => none
  | 0x14 => if i = 0 then some .dbg else none
  | _ => none

/-- The kind of a page key. -/
def kindOf (k : Nat) : Option PKind := kindAt (k / 32) (k % 32)

/-- TYPE_KIND of R43. -/
def typeKind : PKind → Nat
  | .pll => 1 | .aon => 3 | .sup => 4 | .cst => 1 | .hc => 1 | .sx => 1 | .ij => 1 | .cp => 2 | .gb => 1 | .qg => 1
  | .port => 1 | .ms => 2 | .bth => 3 | .bol => 1 | .wg => 2 | .byt => 1 | .byv => 2 | .byp => 3 | .srm => 1 | .sec => 2
  | _ => 0

/-- TYPE of a page: its group and kind (R43); PLB's kind is 2. -/
def pageType (k : Nat) : Nat :=
  (k / 32) * 256 + (if k = pkPlb then 2 else match kindOf k with | some d => typeKind d | none => 0)

/-- PAGE_ID (R42). -/
def pageId (k : Nat) : Word := BitVec.ofNat 32 (0x01000000 + (k % 32) * 0x10000 + pageType k)

/-- Fixed-enable pages (R45). -/
def fixedEnable : PKind → Bool
  | .sys | .pll | .aon | .sup | .seawall | .hm | .mrm | .srm | .sec => true
  | _ => false

/-- A page right after reset (R41, R45): fixed-enable pages are enabled and in RUN (log entry 12). -/
def pageReset (k : Nat) : Page :=
  match kindOf k with
  | some d => if fixedEnable d then { en := true, st := .run } else {}
  | none => {}

/-- A page of the state. -/
def State.page (s : State) (k : Nat) : Page := tget (pageReset k) s.pages k

/-- The state with a page replaced. -/
def State.setPage (s : State) (k : Nat) (p : Page) : State := { s with pages := tput s.pages k p }

/-- The state with a page transformed. -/
def State.modPage (s : State) (k : Nat) (f : Page → Page) : State := s.setPage k (f (s.page k))

/-- The page state (R47, R51). -/
def State.st (s : State) (k : Nat) : PageSt := (s.page k).st

/-- The state with a page in a given page state. -/
def State.setSt (s : State) (k : Nat) (x : PageSt) : State := s.modPage k (fun p => { p with st := x })

/-- A page is in RUN. -/
def State.running (s : State) (k : Nat) : Bool := s.st k == .run

/-- A page is in RUN or DRAIN. -/
def State.busy (s : State) (k : Nat) : Bool := s.st k == .run || s.st k == .drain

/-! ### Registers -/

/-- The description that covers a byte offset. -/
def findReg : List RegDesc → Nat → Option RegDesc
  | [], _ => none
  | d :: t, off =>
    if d.off ≤ off ∧ off < d.off + d.n * d.stride ∧ (off - d.off) % d.stride = 0 then some d else findReg t off

/-- Offsets that are registers only on some instances of a page kind. -/
def reservedAt (k off : Nat) : Bool :=
  match kindOf k with
  | some .sc => (off == 0x064 && decide (4 ≤ k % 32)) || ((off == 0x068 || off == 0x0A8 || off == 0x0AC) && decide (k % 32 < 10))
  | _ => false

/-- Fields that are read-only on some instances of a page kind. -/
def roAt (k off lo : Nat) : Bool :=
  match kindOf k with
  | some .ce => (off == 0x04C && k % 32 != 0) || (off == 0x040 && lo == 8 && k % 2 == 1)
  | some .spi => off == 0x040 && decide (30 ≤ lo) && k % 32 != 5
  | _ => false

/-- The description of a register of a page. -/
def regDesc (k off : Nat) : Option RegDesc :=
  match kindOf k with
  | some d =>
    if reservedAt k off then none
    else match findReg (regTable d) off with
      | some r =>
        if r.fields.any (fun f => roAt k off f.lo) then
          some { r with fields := r.fields.map (fun f => if roAt k off f.lo then { f with acc := .ro } else f) }
        else some r
      | none => none
  | none => none

/-- Reset values that depend on the instance. -/
def resetAt (k off : Nat) (d : Word) : Word :=
  match kindOf k with
  | some .byt => if off % 16 = 0 then 0x04B00438#32 else d
  | some .byp => if off % 16 = 0 then 0x039A03CD#32 else d
  | some .byv =>
    let n := (off - 0x80) / 16
    let nom := ([800, 800, 800, 800, 1800, 3300, 800, 1800, 13500, 6000, 11000, 1500, 1800, 5000, 3300, 1800].getD n 0)
    if off % 16 = 0 then
      let lo := if n < 4 then 760 else if n = 8 then 3000 else nom - nom / 20
      let hi := if n < 4 then 840 else if n = 8 then 40000 else nom + nom / 20
      BitVec.ofNat 32 (hi * 65536 + lo)
    else if off % 16 = 4 then BitVec.ofNat 32 (d.toNat + nom / 100)
    else d
  | some .cs | some .cst =>
    if off = 0x058 then (Config.trimOffset (k % 32) 0).signExtend 32
    else if off = 0x05C then (Config.trimGain (k % 32) 0).setWidth 32
    else d
  | some .ac =>
    if off = 0x040 then (if k % 32 = 0 then 0x40000000#32 else 0#32)
    else if off = 0x044 then BitVec.ofNat 32 (0x30000000 + (k % 32) * 0x100000)
    else d
  | some .qg =>
    match off with
    | 0x080 => 0x40000001#32
    | 0x084 => 0x4029FFFF#32
    | 0x088 => 0x35000001#32
    | 0x08C => 0x3507FFFF#32
    | _ => d
  | some .sec => if off = 0x048 then BitVec.ofNat 32 (256 * Config.fuseRevoked.toNat + Config.fuseRollback.toNat) else d
  | _ =>   d

/-- The reset value of a register of a page (R41 and the block chapters); 0 for a reserved offset (R10). -/
def regReset (k off : Nat) : Word :=
  match regDesc k off with
  | some d => resetAt k off d.reset
  | none => 0#32

/-- A register belongs to the banked range (R66). -/
def isBanked (k off : Nat) : Bool :=
  match regDesc k off with
  | some d => d.banked
  | none => false

/-- The list that holds a register: a bank or the unbanked registers. -/
def Page.view (p : Page) (banked useB : Bool) : List (Nat × Word) :=
  if banked then (if useB then p.bankB else p.bankA) else p.regs

/-- A register as the block uses it: banked registers from the active bank (R66). -/
def State.reg (s : State) (k off : Nat) : Word :=
  let p := s.page k
  tget (regReset k off) (p.view (isBanked k off) p.activeB) off

/-- A banked register of a bank named. -/
def State.regOf (s : State) (k off : Nat) (useB : Bool) : Word :=
  tget (regReset k off) ((s.page k).view (isBanked k off) useB) off

/-- A banked register of the inactive bank. -/
def State.regInactive (s : State) (k off : Nat) : Word :=
  let p := s.page k
  tget (regReset k off) (p.view (isBanked k off) (!p.activeB)) off

/-- A page with a register stored, in the bank named. -/
def Page.putReg (p : Page) (banked useB : Bool) (off : Nat) (w : Word) : Page :=
  if banked then
    if useB then { p with bankB := tput p.bankB off w } else { p with bankA := tput p.bankA off w }
  else { p with regs := tput p.regs off w }

/-- The block stores a register (active bank where banked). -/
def State.setReg (s : State) (k off : Nat) (w : Word) : State :=
  s.modPage k (fun p => p.putReg (isBanked k off) p.activeB off w)

/-- The value of a field in a word. -/
def fget (f : Field) (w : Word) : Nat := bitsN w.toNat (f.lo + f.width - 1) f.lo

/-- A word with a field replaced. -/
def fput (f : Field) (w : Word) (v : Nat) : Word := BitVec.ofNat 32 (putBitsN w.toNat f.lo f.width v)

/-- The i-th of a row of registers. -/
def Field.ix (f : Field) (i : Nat) (stride : Nat := 4) : Field := { f with off := f.off + i * stride }

/-- A field of a page's register, as a number. -/
def State.fld (s : State) (k : Nat) (f : Field) : Nat := fget f (s.reg k f.off)

/-- A one-bit field. -/
def State.bit (s : State) (k : Nat) (f : Field) : Bool := s.fld k f != 0

/-- A signed field. -/
def State.sfld (s : State) (k : Nat) (f : Field) : Int := sgn f.width (s.fld k f)

/-- A whole register named by a field. -/
def State.word (s : State) (k : Nat) (f : Field) : Word := s.reg k f.off

/-- The block sets a field. -/
def State.setFld (s : State) (k : Nat) (f : Field) (v : Nat) : State := s.setReg k f.off (fput f (s.reg k f.off) v)

/-- The block sets a one-bit field. -/
def State.setBit (s : State) (k : Nat) (f : Field) (b : Bool) : State := s.setFld k f (b2n b)

/-- The block sets a signed field. -/
def State.setSfld (s : State) (k : Nat) (f : Field) (v : Int) : State := s.setFld k f (unsgn f.width v)

/-- The block sets a whole register. -/
def State.setWord (s : State) (k : Nat) (f : Field) (w : Word) : State := s.setReg k f.off w

/-- A counter of class S counts one; SAT sets when it reaches or stands at its maximum (R15, R67). -/
def State.cntS (s : State) (k : Nat) (f : Field) : State :=
  let n := s.fld k f
  let m := 2 ^ f.width - 1
  let s1 := s.setFld k f (satInc m n)
  if m ≤ n + 1 then s1.modPage k (fun p => { p with sat := true }) else s1

/-- A counter of class W counts one (R15). -/
def State.cntW (s : State) (k : Nat) (f : Field) : State := s.setFld k f (s.fld k f + 1)

/-- A cause bit of PAGE_IRQ_FLAGS sets (R48). -/
def State.irq (s : State) (k b : Nat) : State :=
  s.modPage k (fun p => { p with irqFlags := p.irqFlags ||| (1#32 <<< b) })

/-- A page asserts its interrupt (R50). -/
def State.irqLevel (s : State) (k : Nat) : Bool :=
  let p := s.page k
  p.st != .test && (p.irqFlags &&& p.irqEn) != 0#32

/-! ### Memory -/

/-- A 32-bit word of memory. -/
def State.m32 (s : State) (a : Nat) : Word := BitVec.ofNat 32 (mgetN s.mem a 4)

/-- The state with a 32-bit word of memory stored. -/
def State.setM32 (s : State) (a : Nat) (w : Word) : State := { s with mem := msetN s.mem a 4 w.toNat }

/-- A 16-bit word of memory. -/
def State.m16 (s : State) (a : Nat) : BitVec 16 := BitVec.ofNat 16 (mgetN s.mem a 2)

/-- The state with a 16-bit word of memory stored. -/
def State.setM16 (s : State) (a : Nat) (w : BitVec 16) : State := { s with mem := msetN s.mem a 2 w.toNat }

/-! ### Free values, pennants, answers -/

/-- The free value of the next draw (log entry 5). -/
def State.free (s : State) (w : Nat) : BitVec w := (Config.freeValue s.freeCnt).setWidth w

/-- The state after a draw. -/
def State.drawn (s : State) : State := { s with freeCnt := s.freeCnt + 1 }

/-- The sounding time base STB, in 2.5 ns units (R170, R171). -/
def State.stb (s : State) : Word := BitVec.ofNat 32 (s.cyc - s.pw.stbFrom)

/-- The group of a source (R425). -/
def srcGroup (src : Nat) : Nat :=
  if src < 0x08 then 0 else if src < 0x10 then 1 else if src < 0x20 then 2 else if src < 0x33 then 3
  else if src < 0x40 then 4 else if src < 0x52 then 5 else if src < 0x60 then 6 else if src < 0x80 then 7
  else if src < 0x86 then 8 else if src < 0xA0 then 9 else if src < 0xB2 then 10 else if src < 0xC0 then 11
  else if src < 0xD2 then 12 else if src < 0x100 then 13
  else if src < 0x140 then 14 + (src - 0x100) / 16
  else if src < 0x180 then 18 + (src - 0x140) / 16
  else if src < 0x192 then 22 else if src < 0x1A0 then 23 else if src < 0x1C0 then 24 else if src < 0x1E0 then 25
  else if src < 0x200 then 26 else if src < 0x220 then 27 else if src < 0x240 then 28 else if src < 0x250 then 29
  else if src < 0x260 then 30 else 31

/-- A source reports by error line alone (R429). -/
def State.lineMode (s : State) (g : Nat) : Bool := bitN (s.word pkHm HM_GRP_MODE).toNat g

/-- What is kept for a source. -/
def State.srcSt (s : State) (src : Nat) : SrcSt := tget {} s.hm.src src

/-- The state with a source's record replaced. -/
def State.setSrc (s : State) (src : Nat) (x : SrcSt) : State :=
  { s with hm := { s.hm with src := tput s.hm.src src x } }

/-- A source detects a fault event: it sends a pennant with its count and raises its error line (R26, R426-R429). The
Harbourmaster's own sources bypass the intake (R431). -/
def State.raise (s : State) (src kind lvl : Nat) (det : Nat := 0) (addr : Nat := 0) : State :=
  let x := s.srcSt src
  let p : Pennant := ⟨src, BitVec.ofNat 6 kind, lvl, x.seq, BitVec.ofNat 8 det, BitVec.ofNat 32 addr⟩
  if srcGroup src = 29 then
    { (s.setSrc src { x with seq := x.seq + 1 }) with hm := { (s.setSrc src { x with seq := x.seq + 1 }).hm with own := s.hm.own ++ [p] } }
  else if s.lineMode (srcGroup src) then { s with lines := s.lines ++ [src] }
  else
    let s1 := s.setSrc src { x with seq := x.seq + 1 }
    { s1 with wires := s1.wires ++ [p], lines := s1.lines ++ [src] }

/-- The KCB answers. -/
def State.answer (s : State) (r : BusReply) : State := { s with reply := r }

/-- High water. -/
def State.inHigh (s : State) : Bool := s.pw.tide == .high

/-- A conditional step. -/
def State.when (s : State) (c : Bool) (f : State → State) : State := if c then f s else s

end Sys2Proof.Machine
end

