-- ==== Sys2Proof/Machine/AppBase.lean ====
section
/-!
DEFINITION. Machine/AppBase.lean: the application pairs in the state, and what their page states do to them (R385, R387, R393).
-/
namespace Sys2Proof.Machine

def State.appOf (s : State) (k : Nat) : App := tget {} s.app k
def State.setApp (s : State) (k : Nat) (v : App) : State := { s with app := tput s.app k v }
def App.core (v : App) (chk : Bool) : AppCore := if chk then v.chk else v.main
def App.setCore (v : App) (chk : Bool) (c : AppCore) : App := if chk then { v with chk := c } else { v with main := c }

/-- The quay buffer, and QG.STAT.OCC with it (R377). -/
def State.setQuay (s : State) (k : Nat) (q : List QuayEntry) : State :=
  (s.setApp k { s.appOf k with quay := q }).setFld (pkQg k) QG_STAT_OCC q.length

/-- A QG page is in RUN exactly while its AC page is in RUN or DRAIN (R393). -/
def State.qgFollow (s : State) (k : Nat) (run : Bool) : State :=
  if s.st (pkQg k) == .fault then s else s.setSt (pkQg k) (if run then .run else .idle)

/-- What a pair loses when its page leaves RUN and DRAIN: unreleased quay entries are discarded (R385). -/
def State.acLeaves (s : State) (k : Nat) : State :=
  let v := s.appOf k
  let s := s.setApp k { v with fifo := [], sigs := [], ckSigs := [], hashes := [], ckHashes := [], fullStall := false, repair := none
                               replay := [], halted := false, stopped := true, reserved := none }
  let s := ((s.setQuay k []).setBit (pkAc k) AC_STAT_QSTALL false).setBit (pkAc k) AC_STAT_CHKPT_BUSY false
  (s.setBit (pkAc k) AC_STAT_REPAIRING false).qgFollow k false

/-- BR of a pair: both cores, the FIFO, the quay buffer and the replay log (R387). -/
def State.acReinit (s : State) (k : Nat) : State := (s.setApp k {}).setFld (pkQg k) QG_STAT_OCC 0

/-- EN = 0 in RUN: the pair halts at the close of the current window; between two windows it halts at once (R393). -/
def State.acDrain (s : State) (k : Nat) : State :=
  let v := s.appOf k
  if v.main.win = 0 then s.setApp k { v with stopped := true } else s

/-- The BR that ends FAULT starts the copy of the mirrored region (R387). -/
def State.acCopyStart (s : State) (k : Nat) : State := s.setApp k { s.appOf k with copying := true }

/-- CTRL.START with the page in IDLE, or the boot ROM on AC0: both cores start at `entry` (R393, R395). -/
def State.acBegin (s : State) (k : Nat) (entry : Word) : State :=
  let v := s.appOf k
  let c : AppCore := { pc := entry }
  let s := s.setApp k { main := c, chk := c, pulses := v.pulses, cycOff := 0#64 - BitVec.ofNat 64 (2 * s.cyc) }
  (((s.setFld (pkQg k) QG_STAT_OCC 0).setWord (pkAc k) AC_WINDOWS 0#32).setSt (pkAc k) .run).qgFollow k true

def State.acStart (s : State) (k : Nat) : State :=
  if s.st (pkAc k) == .idle then s.acBegin k (s.word (pkAc k) AC_ENTRY) else s

end Sys2Proof.Machine
end

