-- ==== Sys2Proof/Machine/CoveBase.lean ====
section
/-!
DEFINITION. Machine/CoveBase.lean: the Cove pairs in the state, and what their page states do to them (R337, R339).
-/
namespace Sys2Proof.Machine

def State.cove (s : State) (k : Nat) : Cove := tget {} s.cv k
def State.setCove (s : State) (k : Nat) (v : Cove) : State := { s with cv := tput s.cv k v }
def Cove.core (v : Cove) (chk : Bool) : CvCore := if chk then v.chk else v.main
def State.cvCore (s : State) (k : Nat) (chk : Bool) : CvCore := (s.cove k).core chk
def State.setCvCore (s : State) (k : Nat) (chk : Bool) (c : CvCore) : State :=
  let v := s.cove k
  s.setCove k (if chk then { v with chk := c } else { v with main := c })

/-- What a pair loses when its page leaves RUN: unreleased entries are discarded (R337). -/
def State.cvLeaves (s : State) (k : Nat) : State :=
  let v := s.cove k
  s.setCove k { v with hold := [], echo := [], ioq := [], sigs := [], ckSigs := [], far := none, closeReq := false
                       main := { v.main with halted := true }, chk := { v.chk with halted := true } }

/-- BR of a pair. -/
def State.cvReinit (s : State) (k : Nat) : State := s.setCove k {}

/-- A pulse source sets its IFLAG bit (R330). -/
def State.cvFlag (s : State) (k b : Nat) : State :=
  let v := s.cove k
  s.setCove k { v with iflag := v.iflag ||| (1#32 <<< b) }

/-- The BR that ends FAULT starts the copy of the main memories (R337). -/
def State.cvCopying (s : State) (k : Nat) : Bool := (s.cove k).copying
def State.cvCopyStart (s : State) (k : Nat) : State := s.setCove k { s.cove k with copying := true }

end Sys2Proof.Machine
end

