-- ==== Sys2Proof/Machine/Float.lean ====
section
/-!
DEFINITION. Machine/Float.lean: IEEE 754 arithmetic with round-to-nearest-even on bit patterns: binary32 (R205, R616) and the
binary64 of R266, computed exactly on integers and rounded once.
-/
namespace Sys2Proof.Machine

/-- A binary format: precision with the hidden bit, and width of the exponent field. -/
structure Fmt where
  p : Nat
  eb : Nat
  deriving DecidableEq, Repr

abbrev f32 : Fmt := ⟨24, 8⟩
abbrev f64 : Fmt := ⟨53, 11⟩

/-- Exponent of the last place of subnormal numbers. -/
def Fmt.qmin (f : Fmt) : Int := 3 - (2 ^ (f.eb - 1) : Nat) - f.p + 0
/-- Largest exponent field. -/
def Fmt.emask (f : Fmt) : Nat := 2 ^ f.eb - 1
def Fmt.signBit (f : Fmt) : Nat := 2 ^ (f.p - 1 + f.eb)
def Fmt.infPat (f : Fmt) : Nat := f.emask * 2 ^ (f.p - 1)
/-- The canonical quiet NaN (R616). -/
def Fmt.nanPat (f : Fmt) : Nat := f.infPat + 2 ^ (f.p - 2)

/-- The value of a pattern: a finite one is (-1)^neg × m × 2^e. -/
inductive FVal
  | nan (signalling : Bool)
  | inf (neg : Bool)
  | fin (neg : Bool) (m : Nat) (e : Int)
  deriving DecidableEq, Repr

/-- Exception flags of one operation. -/
structure FFlags where
  nv : Bool := false
  dz : Bool := false
  of : Bool := false
  uf : Bool := false
  nx : Bool := false
  deriving DecidableEq, Repr

/-- A result pattern with its flags. -/
abbrev FRes := Nat × FFlags

def FFlags.or (a b : FFlags) : FFlags :=
  ⟨a.nv || b.nv, a.dz || b.dz, a.of || b.of, a.uf || b.uf, a.nx || b.nx⟩

/-- The value a pattern stands for. -/
def fdec (f : Fmt) (w : Nat) : FVal :=
  let fr := w % 2 ^ (f.p - 1)
  let ex := w / 2 ^ (f.p - 1) % 2 ^ f.eb
  let ng := w / f.signBit % 2 = 1
  if ex = f.emask then (if fr = 0 then .inf ng else .nan (decide (fr < 2 ^ (f.p - 2))))
  else if ex = 0 then .fin ng fr f.qmin
  else .fin ng (fr + 2 ^ (f.p - 1)) (f.qmin + ex - 1)

/-- Round to nearest, ties to even: n / d as an integer. -/
def rneDiv (n d : Nat) : Nat :=
  let q := n / d
  let r := n % d
  if 2 * r < d then q else if d < 2 * r then q + 1 else if q % 2 = 0 then q else q + 1

/-- n / d rounded to an integer, ties to even, of a signed numerator. -/
def rneDivI (n : Int) (d : Nat) : Int :=
  if n < 0 then -(rneDiv n.natAbs d : Int) else (rneDiv n.natAbs d : Int)

/-- (-1)^neg × n / d × 2^e, exact, rounded once to the format. -/
def fround (f : Fmt) (neg : Bool) (n d : Nat) (e : Int) : FRes :=
  let sg := if neg then f.signBit else 0
  if n = 0 then (sg, {})
  else
    -- exponent of the leading bit: the estimate is exact or one too large
    let k0 : Int := (Nat.log2 n : Int) - (Nat.log2 d : Int) + e
    let ge (k : Int) : Bool :=  -- n/d × 2^e ≥ 2^k
      if 0 ≤ e - k then decide (d ≤ n * 2 ^ (e - k).toNat) else decide (d * 2 ^ (k - e).toNat ≤ n)
    let k := if ge k0 then k0 else k0 - 1
    let quo (q : Int) : Nat × Bool :=  -- n/d × 2^(e-q), rounded, and whether inexact
      if 0 ≤ e - q then (rneDiv (n * 2 ^ (e - q).toNat) d, n * 2 ^ (e - q).toNat % d != 0)
      else (rneDiv n (d * 2 ^ (q - e).toNat), n % (d * 2 ^ (q - e).toNat) != 0)
    let q := max (k - (f.p - 1)) f.qmin
    let (m, nx) := quo q
    let (m, q) := if m = 2 ^ f.p then (2 ^ (f.p - 1), q + 1) else (m, q)
    -- tiny after rounding: rounded with an unbounded exponent, below the least normal number
    let mu := (quo (k - (f.p - 1))).1
    let ku := if mu = 2 ^ f.p then k + 1 else k
    let tiny := decide (ku < f.qmin + (f.p - 1))
    if m < 2 ^ (f.p - 1) then (sg + m, { uf := tiny && nx, nx := nx })
    else
      let ex := (q - f.qmin + 1).toNat
      if f.emask ≤ ex then (sg + f.infPat, { of := true, nx := true })
      else (sg + ex * 2 ^ (f.p - 1) + (m - 2 ^ (f.p - 1)), { uf := tiny && nx, nx := nx })

def FVal.isSnan : FVal → Bool
  | .nan s => s
  | _ => false

def FVal.isNan : FVal → Bool
  | .nan _ => true
  | _ => false

def FVal.neg : FVal → Bool
  | .nan _ => false
  | .inf n => n
  | .fin n _ _ => n

/-- A finite value as an integer times 2^e, at a common exponent. -/
def scaleTo (neg : Bool) (m : Nat) (e q : Int) : Int :=
  let v : Int := m * 2 ^ (e - q).toNat
  if neg then -v else v

/-- NaN result: the canonical NaN, invalid where an operand signals or `inv`. -/
def fnan (f : Fmt) (inv : Bool) : FRes := (f.nanPat, { nv := inv })

/-- Sum of two values. -/
def faddV (f : Fmt) (a b : FVal) : FRes :=
  match a, b with
  | .nan s, y => fnan f (s || y.isSnan)
  | x, .nan s => fnan f (s || x.isSnan)
  | .inf n, .inf n' => if n = n' then ((if n then f.signBit else 0) + f.infPat, {}) else fnan f true
  | .inf n, .fin _ _ _ => ((if n then f.signBit else 0) + f.infPat, {})
  | .fin _ _ _, .inf n => ((if n then f.signBit else 0) + f.infPat, {})
  | .fin n m e, .fin n' m' e' =>
    let q := min e e'
    let v := scaleTo n m e q + scaleTo n' m' e' q
    if v = 0 then ((if n && n' then f.signBit else 0), {})
    else fround f (decide (v < 0)) v.natAbs 1 q

/-- Exact product of two values; none of them NaN and not 0 × ∞. -/
def fmulX (a b : FVal) : FVal :=
  match a, b with
  | .fin n m e, .fin n' m' e' => .fin (n != n') (m * m') (e + e')
  | x, y => .inf (x.neg != y.neg)

/-- 0 × ∞. -/
def isZeroInf : FVal → FVal → Bool
  | .fin _ 0 _, .inf _ => true
  | .inf _, .fin _ 0 _ => true
  | _, _ => false

def fmulV (f : Fmt) (a b : FVal) : FRes :=
  if a.isNan || b.isNan then fnan f (a.isSnan || b.isSnan)
  else if isZeroInf a b then fnan f true
  else match fmulX a b with
    | .fin n m e => fround f n m 1 e
    | x => ((if x.neg then f.signBit else 0) + f.infPat, {})

/-- A × B + C, rounded once; 0 × ∞ is invalid whatever C holds (R616). -/
def ffmaV (f : Fmt) (a b c : FVal) : FRes :=
  let zi := isZeroInf a b
  if a.isNan || b.isNan || c.isNan || zi then fnan f (a.isSnan || b.isSnan || c.isSnan || zi)
  else faddV f (fmulX a b) c

def fdivV (f : Fmt) (a b : FVal) : FRes :=
  match a, b with
  | .nan s, y => fnan f (s || y.isSnan)
  | x, .nan s => fnan f (s || x.isSnan)
  | .inf _, .inf _ => fnan f true
  | .inf n, .fin n' _ _ => ((if n != n' then f.signBit else 0) + f.infPat, {})
  | .fin n _ _, .inf n' => ((if n != n' then f.signBit else 0), {})
  | .fin n m e, .fin n' m' e' =>
    if m' = 0 then
      if m = 0 then fnan f true else ((if n != n' then f.signBit else 0) + f.infPat, { dz := true })
    else fround f (n != n') m m' (e - e')

/-- Integer square root by halving steps, `fuel` bits. -/
def isqrtAux : Nat → Nat → Nat → Nat
  | 0, _, r => r
  | k + 1, n, r => isqrtAux k n (if (r + 2 ^ k) * (r + 2 ^ k) ≤ n then r + 2 ^ k else r)

/-- The integer square root. -/
def isqrt (n : Nat) : Nat := isqrtAux (Nat.log2 n / 2 + 1) n 0

def fsqrtV (f : Fmt) (a : FVal) : FRes :=
  match a with
  | .nan s => fnan f s
  | .inf n => if n then fnan f true else (f.infPat, {})
  | .fin n m e =>
    if m = 0 then ((if n then f.signBit else 0), {})
    else if n then fnan f true
    else
      -- m × 2^e = M × 2^(2h): the root to 64 bits beyond the precision, with a sticky bit
      let s := 2 * f.p + 4 + (if (e - 2 * f.p - 4) % 2 = 0 then 0 else 1)
      let big := m * 2 ^ s
      let r := isqrt big
      let sticky := if r * r = big then 0 else 1
      fround f false (2 * r + sticky) 1 ((e - s) / 2 - 1)

/-- A pattern with its sign inverted. -/
def fnegP (f : Fmt) (w : Nat) : Nat := if w / f.signBit % 2 = 1 then w - f.signBit else w + f.signBit

def fadd (f : Fmt) (a b : Nat) : FRes := faddV f (fdec f a) (fdec f b)
def fsub (f : Fmt) (a b : Nat) : FRes :=
  match fdec f b with
  | .nan s => fnan f (s || (fdec f a).isSnan)
  | _ => faddV f (fdec f a) (fdec f (fnegP f b))
def fmul (f : Fmt) (a b : Nat) : FRes := fmulV f (fdec f a) (fdec f b)
def ffma (f : Fmt) (a b c : Nat) : FRes := ffmaV f (fdec f a) (fdec f b) (fdec f c)
def fdiv (f : Fmt) (a b : Nat) : FRes := fdivV f (fdec f a) (fdec f b)
def fsqrt (f : Fmt) (a : Nat) : FRes := fsqrtV f (fdec f a)

/-- Place in numeric order, -0 below +0 (minimumNumber, maximumNumber of R205). -/
def fordKey (f : Fmt) (w : Nat) : Int := if w / f.signBit % 2 = 1 then -((w % f.signBit : Nat) : Int) - 1 else (w % f.signBit : Nat)

/-- Numeric comparison of two patterns, neither of them NaN: a < b. -/
def flt (f : Fmt) (a b : Nat) : Bool :=
  let z (w : Nat) : Int := if w / f.signBit % 2 = 1 then -((w % f.signBit : Nat) : Int) else (w % f.signBit : Nat)
  decide (z a < z b)

def fIsNan (f : Fmt) (a : Nat) : Bool := (fdec f a).isNan

/-- Neither NaN nor infinite. -/
def fIsFinite (f : Fmt) (a : Nat) : Bool := match fdec f a with | .fin _ _ _ => true | _ => false

/-- An integer rounded to the format. -/
def fofInt (f : Fmt) (i : Int) : FRes := fround f (decide (i < 0)) i.natAbs 1 0

/-- A rational n / d rounded to the format. -/
def fofRat (f : Fmt) (n : Int) (d : Nat) : FRes := fround f (decide (n < 0)) n.natAbs d 0

/-- A finite value × 2^k rounded to an integer, ties to even; 0 for the others. -/
def ftoIntScaled (f : Fmt) (a : Nat) (k : Int) : Int :=
  match fdec f a with
  | .fin n m e =>
    let v : Nat := if 0 ≤ e + k then m * 2 ^ (e + k).toNat else rneDiv m (2 ^ (-(e + k)).toNat)
    if n then -(v : Int) else v
  | _ => 0

/-- A pattern of one format rounded to another. -/
def fconv (f g : Fmt) (a : Nat) : FRes :=
  match fdec f a with
  | .nan s => fnan g s
  | .inf n => ((if n then g.signBit else 0) + g.infPat, {})
  | .fin n m e => fround g n m 1 e

end Sys2Proof.Machine
end

