-- ==== Sys2Proof/Machine/Clamp.lean ====
section
/-!
DEFINITION. Machine/Clamp.lean: legal values, clamping and the causes for which a write is refused (R58-R62).
-/
namespace Sys2Proof.Machine

/-- A binary32 pattern's place in numeric order; -0 and +0 share a place. -/
def f32Key (w : Word) : Int :=
  if w.toNat < 0x80000000 then (w.toNat : Int) else -((w.toNat - 0x80000000 : Nat) : Int)

/-- A binary32 NaN. -/
def f32IsNan (w : Word) : Bool := decide (w.toNat % 0x80000000 > 0x7F800000)

/-- The nearest legal value of a field (R58). -/
def legalize (l : Legal) (width v : Nat) : Nat :=
  match l with
  | .any => v
  | .range lo hi => clampN lo hi v
  | .srange lo hi => unsgn width (clampI lo hi (sgn width v))
  | .above hi t => if hi < v then t else v
  | .f32 lo hi nan =>
    let w := BitVec.ofNat 32 v
    if f32IsNan w then nan.toNat
    else if f32Key w < f32Key lo then lo.toNat
    else if f32Key hi < f32Key w then hi.toNat
    else v

/-- The value a field holds after the value `v` is written over `cur` (R12, R58). -/
def fieldNew (d : FieldDesc) (cur v : Nat) : Nat :=
  match d.acc with
  | .rw | .rwd => legalize d.legal d.width v
  | .w1c => cur - (cur &&& v)
  | .w1s => cur ||| v
  | .ro | .rc | .wo => cur

/-- A register after a write of `v` over `cur`, field by field; reserved bits stay as they are. -/
def applyFields (fs : List FieldDesc) (cur v : Word) : Word :=
  fs.foldl (fun acc d =>
    fput ⟨0, d.lo, d.width⟩ acc
      (fieldNew d (fget ⟨0, d.lo, d.width⟩ cur) (fget ⟨0, d.lo, d.width⟩ v))) cur

/-- A write stores another value than the one written in some field it sets (R58). -/
def fieldsClamped (fs : List FieldDesc) (v : Word) : Bool :=
  fs.any (fun d => match d.acc with
    | .rw | .rwd => legalize d.legal d.width (fget ⟨0, d.lo, d.width⟩ v) != fget ⟨0, d.lo, d.width⟩ v
    | _ => false)

/-- A write changes, or acts through, a field. -/
def fieldTouched (d : FieldDesc) (cur v : Word) : Bool :=
  let c := fget ⟨0, d.lo, d.width⟩ cur
  let n := fget ⟨0, d.lo, d.width⟩ v
  match d.acc with
  | .rw | .rwd => legalize d.legal d.width n != c
  | .wo | .w1s => n != 0
  | _ => false

/-- The bits of PAGE_IRQ_FLAGS that a page kind defines (R48 and the block chapters). -/
def irqMask (d : PKind) : Word :=
  match d with
  | .sc => 0x00003F0F#32
  | .ce => 0x00003F0F#32
  | .sw => 0x00000F0F#32
  | .cp => 0x003F3F0F#32
  | .hl => 0x00001F0F#32
  | .cv => 0x0000070F#32
  | .ac => 0x0000060F#32
  | .qg => 0x0000030F#32
  | .ma => 0x0000070F#32
  | .port => 0x0000010F#32
  | .ms => 0x00000F0F#32
  | .mp => 0x0000030F#32
  | .bol => 0x0000030F#32
  | .wg => 0x00003F0F#32
  | .gl => 0x00003F0F#32
  | .gb => 0x0000030F#32
  | .is => 0x0000070F#32
  | .dr => 0x0000070F#32
  | .byt => 0x000FFF0F#32
  | .byv => 0x00FFFF0F#32
  | .byp => 0x00000F0F#32
  | .cs => 0x00003F0F#32
  | .seawall => 0x0000070F#32
  | .hm => 0x00003F0F#32
  | _ => 0x0000000F#32

/-- PAGE_SHADOW_CTRL.SWAP_POINT (R65). -/
def swapPointCode (d : PKind) : Nat :=
  match d with
  | .ce => 1
  | .ms | .bth => 3
  | .hl | .hc => 4
  | _ => 0

/-- A page kind has shadow banks. -/
def hasBanks (d : PKind) : Bool := swapPointCode d != 0

/-- A page has shadow banks. -/
def pageHasBanks (k : Nat) : Bool :=
  match kindOf k with
  | some d => hasBanks d
  | none => false

/-- The word the bus writes over: the bank shown by SHADOW_SEL, or the unbanked register. -/
def State.busReg (s : State) (k off : Nat) : Word :=
  let p := s.page k
  let b := isBanked k off
  tget (regReset k off) (p.view b (if p.shadowSel then p.activeB else !p.activeB)) off

/-! ### Sounding modes (R166, R183) -/

def State.scMode (s : State) (k : Nat) : Nat := s.fld (pkSc k) SC_MODE_MODE
def State.scInv (s : State) (k : Nat) : Bool := s.bit (pkSc k) SC_MODE_DIR_INV

/-- Position bits of a framed mode; SENT formats 0 and 1 force them (R183). -/
def State.scWidth (s : State) (k : Nat) : Nat :=
  let f := s.fld (pkSc k) SC_FRAME_SENTFMT
  if s.scMode k = 4 ∧ f = 0 then 12 else if s.scMode k = 4 ∧ f = 1 then 24 else s.fld (pkSc k) SC_FRAME_WIDTH

/-- Counts per revolution (R166). -/
def State.cpr (s : State) (k : Nat) : Nat :=
  match s.scMode k with
  | 0 | 1 | 2 => s.fld (pkSc k) SC_GEOM_CPR
  | 6 => 16777216
  | _ => 2 ^ s.scWidth k

/-! ### Refusals and fields in context -/

/-- Refusal causes beyond the marks of the register tables: TICK_CFG (R233), TIME_CFG (R492), UPD_CTRL (R129) and the like. -/
def extraCause (s : State) (k off : Nat) (v : Word) : Option Nat :=
  let anyCe := (List.range 6).any (fun m => s.busy (pkCe m))
  match kindOf k with
  | some .ce =>
    let e := k % 32
    -- R233, R225, R219.
    if off = 0x04C then (if e = 0 ∧ anyCe then some 5 else none)
    else if off = 0x040 then
      let changed := fget CE_CFG_PAIR v != fget CE_CFG_PAIR (s.busReg k off)
      if e % 2 = 0 ∧ changed ∧ s.busy (pkCe (e + 1)) then some 5 else none
    else if 0x400 ≤ off ∧ off < 0x800 ∧ s.bit k CE_STAT_OLDBANK_OPEN then some 4
    else none
  | some .ij =>
    -- R272: refused in ARMED as well.
    if s.fld k IJ_STAT_GEN == 1 && (match regDesc k off with | some d => d.idle | none => false) then some 5 else none
  | some .cp =>
    -- R274: CFG, TLEVEL, TSRC and PRE while ARMED or TRIGGERED.
    let e := (off - 0x080) / 0x40
    let st := s.fld k (CP_CAP_STAT_STATE.ix e 0x40)
    if 0x080 ≤ off ∧ (off - 0x080) % 0x40 ≤ 0x0C ∧ (st = 2 ∨ st = 3) then some 5 else none
  | some .ms =>
    -- R492.
    if off = 0x0D4 ∧ (s.busy (pkMa 0) || s.busy (pkMa 1)) then some 5 else none
  | some .sec =>
    -- R121, R129: the manifest area is a target in Dry dock alone.
    if off = 0x04C ∧ bitN v.toNat 0 ∧ bitN v.toNat 4 ∧ s.pw.tide ≠ .dryDock then some 6 else none
  | _ => none

/-- The bits that a link word holds by its TYPE; the others are reserved (R10, R208, R343). -/
def linkMask (cove : Bool) (ty : Nat) : Nat :=
  match ty with
  | 1 => 0xF000001F
  | 2 => 0xF0000F07
  | 3 => 0xF000030F
  | 4 => 0xF00000FF
  | 5 => if cove then 0xF000071F else 0xF0000000
  | 6 => if cove then 0 else 0xF000001F
  | _ => 0

/-- Fields that ignore a write in the present setting keep their value, unlogged (R10, R166). -/
def ignoredFields (s : State) (k off : Nat) (cur w : Word) : Word :=
  match kindOf k with
  | some .sc => if off = 0x048 ∧ 3 ≤ fget SC_MODE_MODE (s.busReg k 0x040) then fput SC_GEOM_CPR w (fget SC_GEOM_CPR cur) else w
  | some .ce => if 0x0C0 ≤ off ∧ off < 0x140 then w &&& BitVec.ofNat 32 (linkMask false (fget CE_LINK_TYPE w)) else w
  | some .cv => if 0x080 ≤ off ∧ off < 0x100 then w &&& BitVec.ofNat 32 (linkMask true (fget CV_LINK_TYPE w)) else w
  | _ => w

/-- Clamping between fields and registers (R59), and block rules that fix a field: the word stored in place of `w`, over
the present word `cur`. -/
def crossClamp (s : State) (k off : Nat) (cur w : Word) : Word :=
  match kindOf k with
  | some .byt | some .byv | some .byp =>
    -- R584: TH_B at least TH_A in HIGH and WINDOW, at most TH_A in LOW.
    if off % 16 = 0 then
      let mode := fget BYT_CFG_MODE (s.busReg k (off + 4))
      let val (f : Field) : Int := if kindOf k = some .byt then sgn 16 (fget f w) else (fget f w : Int)
      let a := val BYT_TH_A
      let b := val BYT_TH_B
      let b' := if mode = 2 then min b a else max b a
      if b' = b then w else fput BYT_TH_B w (unsgn 16 b')
    else w
  | some .sc =>
    -- R166, R195, R197: clamps that depend on the channel, on MODE or on another field.
    let mode := fget SC_MODE_MODE (s.busReg k 0x040)
    if off = 0x040 then (if 4 ≤ k % 32 ∧ 5 < fget SC_MODE_MODE w then fput SC_MODE_MODE w 5 else w)
    else if off = 0x050 then
      let cpr := s.cpr (k % 32)
      if cpr ≤ fget SC_ZCFG_Z_OFS w then fput SC_ZCFG_Z_OFS w (cpr - 1) else w
    else if off = 0x05C then
      let top := if mode = 4 then 7 else 5
      let w1 := if top < fget SC_FRAME_SRC w then fput SC_FRAME_SRC w top else w
      let need := min 40 (fget SC_FRAME_WIDTH w1 + fget SC_FRAME_LSB w1)
      if fget SC_FRAME_FLEN w1 < need then fput SC_FRAME_FLEN w1 need else w1
    else w
  | some .ce =>
    let e := k % 32
    if off = 0x04C then
      let top := 5 * fget CE_TICK_CFG_PERIOD w - 1
      if top < fget CE_TICK_CFG_PHASE w then fput CE_TICK_CFG_PHASE w top else w
    else if 0x060 ≤ off ∧ off < 0x080 ∧ off % 8 = 0 then
      let top := fget CE_GRP_SCHED_N w - 1
      if top < fget CE_GRP_SCHED_PHASE w then fput CE_GRP_SCHED_PHASE w top else w
    else if 0x0C0 ≤ off ∧ off < 0x140 then
      -- R208, R22: codes of the source by its type.
      let n := w.toNat
      let paired := s.bit (pkCe (e / 2 * 2)) CE_CFG_PAIR
      match fget CE_LINK_TYPE w with
      | 1 =>
        let p := bitsN n 4 0
        let own := p / 3 = e ∨ (paired ∧ p / 3 = (e ^^^ 1))
        if own then w else BitVec.ofNat 32 (putBitsN n 0 5 (3 * e + p % 3))
      | 2 =>
        let n1 := if 11 < bitsN n 11 8 then putBitsN n 8 4 11 else n
        BitVec.ofNat 32 (if 5 < bitsN n1 2 0 then putBitsN n1 0 3 5 else n1)
      | _ => w
    else w
  | some .sw =>
    if off % 0x40 = 0x14 then
      let lo := s.busReg k (off - 4)
      if f32Key w < f32Key lo then lo else w
    else w
  | some .ij =>
    let wave := fget IJ_CFG_WAVE (s.busReg k 0x040)
    let n := w.toNat
    if off = 0x048 then
      let l := s.busReg k 0x04C
      BitVec.ofNat 32 (legalize (.f32 (BitVec.ofNat 32 (l.toNat + 0x80000000)) l 0#32) 32 n)
    else if (off = 0x05C ∨ off = 0x060) ∧ wave = 2 then
      let top := (fofRat f32 500000 (fget CE_TICK_CFG_PERIOD (s.reg (pkCe 0) 0x04C))).1
      BitVec.ofNat 32 (legalize (.f32 0#32 (BitVec.ofNat 32 top) 0#32) 32 n)
    else if off = 0x05C ∧ wave = 3 then (if 4 < bitsN n 2 0 then BitVec.ofNat 32 (putBitsN n 0 3 4) else w)
    else if off = 0x060 ∧ wave = 3 then (if bitsN n 7 0 = 0 then BitVec.ofNat 32 (putBitsN n 0 8 1) else w)
    else if off = 0x064 ∧ wave = 3 then (if bitsN n 30 0 = 0 then BitVec.ofNat 32 (putBitsN n 0 31 1) else w)
    else if off = 0x05C ∧ wave = 4 then (if bitsN n 15 0 < 2 then BitVec.ofNat 32 (putBitsN n 0 16 2) else w)
    else w
  | some .hl =>
    if off = 0x080 then
      if fget HL_BAND_HMAX w < fget HL_BAND_HMIN w then fput HL_BAND_HMAX w (fget HL_BAND_HMIN w) else w
    else if off = 0x084 then
      let b := s.busReg k 0x080
      fput HL_HINIT_V w (clampN (fget HL_BAND_HMIN b) (fget HL_BAND_HMAX b) (fget HL_HINIT_V w))
    else w
  | some .hc =>
    if off = 0x080 then
      let t := max (fget HC_FWIN_FTGT w) (fget HC_FWIN_FMIN w)
      fput HC_FWIN_FMAX (fput HC_FWIN_FTGT w t) (max (fget HC_FWIN_FMAX w) t)
    else w
  | some .cv =>
    -- R343: codes of the source by its type.
    if 0x080 ≤ off ∧ off < 0x100 then
      let n := w.toNat
      match fget CV_LINK_TYPE w with
      | 1 => if 17 < bitsN n 4 0 then BitVec.ofNat 32 (putBitsN n 0 5 17) else w
      | 2 =>
        let n1 := if 11 < bitsN n 11 8 then putBitsN n 8 4 11 else n
        BitVec.ofNat 32 (if 5 < bitsN n1 2 0 then putBitsN n1 0 3 5 else n1)
      | 5 => if 5 < bitsN n 10 8 then BitVec.ofNat 32 (putBitsN n 8 3 5) else w
      | _ => w
    else w
  | some .ac =>
    if off = 0x044 then
      let lo := 0x30000000 + (k % 32) * 0x100000
      BitVec.ofNat 32 (clampN lo (lo + 0x3FFFE) w.toNat)
    else w
  | some .bth =>
    -- R496, R58: DLEN a multiple of 4; BASE so that both buffers end within the berth memory (R59).
    if 0x800 ≤ off ∧ off % 8 = 4 then
      let n := fget BTH_BERTH1_DLEN w
      let d := if n % 4 = 3 then n + 1 else n / 4 * 4
      let w1 := fput BTH_BERTH1_DLEN w d
      let top := (0x80000 - 2 * d) / 8
      if top < fget BTH_BERTH1_BASE w1 then fput BTH_BERTH1_BASE w1 top else w1
    else w
  | some .can =>
    if off = 0x044 then
      if fget CAN_NBT_TSEG2 w < fget CAN_NBT_SJW w then fput CAN_NBT_SJW w (fget CAN_NBT_TSEG2 w) else w
    else if off = 0x048 then
      if fget CAN_DBT_TSEG2 w < fget CAN_DBT_SJW w then fput CAN_DBT_SJW w (fget CAN_DBT_TSEG2 w) else w
    else w
  | some .wg =>
    if off = 0x040 then
      -- R564: AGREE_T below PERIOD_TICKS × PERIOD.
      let t := fget WG_CFG_PERIOD_TICKS w * fget CE_TICK_CFG_PERIOD (s.reg (pkCe 0) 0x04C)
      if t ≤ fget WG_CFG_AGREE_T w then fput WG_CFG_AGREE_T w (t - 1) else w
    else if off = 0x070 then
      -- R563: the log of LOG_DEPTH records of 1 KiB lies within shared SRAM.
      let need := fget WG_CFG_LOG_DEPTH (s.reg k 0x040) * 1024
      let top := (0x20800000 - need) / 4096 * 4096
      BitVec.ofNat 32 (clampN 0x20000000 top w.toNat)
    else if 0x144 ≤ off ∧ off < 0x184 ∧ off % 8 = 4 then
      -- R563: at most 16 384 blocks over the enabled regions.
      let me := (off - 0x144) / 8
      let others := ((List.range 8).filter (fun i => i != me && s.bit k (WG_REG_BASE_EN.ix i 8))).map (fun i => s.fld k (WG_REG_LEN_N.ix i 8))
      let room := 16384 - others.foldl (· + ·) 0
      if s.bit k (WG_REG_BASE_EN.ix me 8) && decide (room < fget WG_REG_LEN_N w) then fput WG_REG_LEN_N w room else w
    else w
  | some .aon =>
    -- R94: SRC = 1 is stored as 0 while the crystal does not run.
    if off = 0x040 ∧ !(fget AON_AON_OSC_XTAL_OK cur != 0) then fput AON_AON_OSC_SRC w 0 else w
  | _ =>
  w

/-- A write that sets IS.CFG.AUTO is keyed (R318). -/
def setsAuto (k off : Nat) (cur v : Word) : Bool :=
  kindOf k == some .is && off == 0x040 && fget IS_CFG_AUTO v == 1 && fget IS_CFG_AUTO cur == 0

/-- The first refusal cause that applies to a write of a block register, in the order of R60: 2, 6, 5, 3, 1, 4. -/
def writeCause (s : State) (k : Nat) (d : RegDesc) (off : Nat) (keyOk : Bool) (cur v : Word) : Option Nat :=
  let p := s.page k
  let touched (f : FieldDesc → Bool) : Bool := d.fields.any (fun x => f x && fieldTouched x cur v)
  let dry := s.pw.tide == .dryDock && !(s.bit pkSea SEAWALL_STAT_CONFIRMED)
  let extra := extraCause s k off v
  if p.lock && (d.lock || touched (·.lock)) then some 2
  else if (d.fields.any (fun x => x.acc == .rwd) && !dry) || extra == some 6 then some 6
  else if (s.busy k && (d.idle || touched (·.idle))) || extra == some 5 then some 5
  else if ((d.keyed || touched (·.keyed) || setsAuto k off cur v) && !keyOk) then some 3
  else if d.banked && p.shadowSel then some 1
  else if (d.banked && p.swapPending) || extra == some 4 then some 4
  else none

/-- A clamped or refused write is recorded (R60, R61). -/
def State.logClamp (s : State) (k cause off : Nat) : State :=
  s.modPage k (fun p => { p with
    clamped := true
    clampCause := BitVec.ofNat 4 cause
    clampCount := BitVec.ofNat 8 (satInc 255 p.clampCount.toNat)
    clampOff := BitVec.ofNat 12 (off / 4 * 4)
    sat := p.sat || decide (254 ≤ p.clampCount.toNat) })

/-- A failed key sequence counts one (R63, R64). -/
def Page.keyFailed (p : Page) : Page :=
  { p with key := .idle, keyFail := BitVec.ofNat 8 (satInc 255 p.keyFail.toNat), sat := p.sat || decide (254 ≤ p.keyFail.toNat) }

/-- What a write by `who` to an offset other than PAGE_KEY does to the key sequence, and whether it is the keyed write
(R64). -/
def Page.keyTake (p : Page) (who : Initiator) : Page × Bool :=
  match p.key with
  | .idle => (p, false)
  | .first _ => (p.keyFailed, false)
  | .opened w => if w = who then ({ p with key := .idle }, true) else (p.keyFailed, false)

/-- The key sequence is advanced by a write by `who`. -/
def State.keyTaken (s : State) (k : Nat) (who : Initiator) : State := s.setPage k ((s.page k).keyTake who).1

/-- A write by `who` that gives a page a command: it advances the key sequence, and in TEST it has no effect (R53, R64). -/
def State.command (s : State) (k : Nat) (who : Initiator) (f : State → State) : State :=
  let t := s.keyTaken k who
  if t.st k == .test then t else f t

/-- The write by `who` that arrives now is the keyed write. -/
def State.keyOk (s : State) (k : Nat) (who : Initiator) : Bool := ((s.page k).keyTake who).2

/-- Store a bus write of a block register that is not refused: taken into the configuration shadow in TEST (R53), held
during a COPY (R66), else stored at once. -/
def State.storeReg (s : State) (k off : Nat) (w : Word) : State :=
  let p := s.page k
  let b := isBanked k off
  if p.st == .test then s.setPage k { p with shadow := tput p.shadow off w }
  else if b && p.copyBusy then s.setPage k { p with held := p.held ++ [(off, w)] }
  else s.setPage k (p.putReg b (!p.activeB) off w)

/-- A write of a block register as the register tables give it: refused whole, clamped, or stored (R58-R62). Answers the
state, and the word stored where the write was not refused. -/
def State.regWrite (s : State) (who : Initiator) (k off : Nat) (v : Word) : State × Option Word :=
  let keyOk := s.keyOk k who
  let s := s.keyTaken k who
  match regDesc k off with
  | none => (s, none)
  | some d =>
    let cur := s.busReg k off
    match writeCause s k d off keyOk cur v with
    | some c => (s.logClamp k c off, none)
    | none =>
      let w0 := ignoredFields s k off cur (applyFields d.fields cur v)
      let w := crossClamp s k off cur w0
      let s1 := s.storeReg k off w
      ((if fieldsClamped d.fields v || w != w0 then s1.logClamp k 0 off else s1), some w)

end Sys2Proof.Machine
end

