-- ==== Sys2Proof/Machine/Current.lean ====
section
/-!
DEFINITION. Machine/Current.lean: the shared operations of the current channels and of the Tender (R132-R156).
-/
namespace Sys2Proof.Machine

def State.chan (s : State) (k : Nat) : Channel := tget {} s.chans k
def State.setChan (s : State) (k : Nat) (c : Channel) : State := { s with chans := tput s.chans k c }
def State.setTd (s : State) (t : Tender) : State := { s with td := t }

/-- TD_STAT.PHASE codes (R165). -/
abbrev tdIdle : Nat := 0
abbrev tdSelfcal : Nat := 1
abbrev tdConnect : Nat := 2
abbrev tdAgree : Nat := 3
abbrev tdRelief : Nat := 4
abbrev tdVerify : Nat := 5
abbrev tdHold : Nat := 6

def State.tdPhase (s : State) : Nat := s.fld pkCst CST_TD_STAT_PHASE
def State.tdCh (s : State) : Nat := s.fld pkCst CST_TD_STAT_CH

/-- The Tender enters a phase, serving a channel, or 31 for none. -/
def State.tdGo (s : State) (phase ch : Nat) : State :=
  (s.setFld pkCst CST_TD_STAT_PHASE phase).setFld pkCst CST_TD_STAT_CH ch

/-- PLL-B is locked (R73, R143). -/
def State.pllB (s : State) : Bool := s.bit pkPlb PLA_PLL_STAT_LOCK

/-! ### Correction (R139, R140) -/

/-- A corrected value kept in its code range, and whether it is clipped: out of range, beyond 0.9 FS, or its raw value at
an end of its range. -/
def correctTo (w : Nat) (raw off : Int) (gain : Nat) (inv : Bool) : Int × Bool :=
  let x := rneDivI ((raw - off) * gain) 4194304
  let y := satSgn w x
  let z := if inv then -y else y
  let z' := satSgn w z
  let half : Int := 2 ^ (w - 1)
  (z', decide (x != y) || decide (z != z') || decide (9 * half < 10 * z'.natAbs) || decide (raw = -half) || decide (raw = half - 1))

/-- OFFSET and GAIN of a channel. -/
def State.csOffset (s : State) (k : Nat) : Int := sgn 24 (s.word (pkCs k) CS_OFFSET).toNat
def State.csGain (s : State) (k : Nat) : Nat := s.fld (pkCs k) CS_GAIN_V

/-- INVERT as a producer uses it: the Tender takes the served channel's (R164). -/
def State.csInvert (s : State) (k : Nat) : Bool := s.bit (pkCs k) CS_CFG_INVERT

/-- A producer's fast sample of a raw code (R139, R140). -/
def State.fastOf (s : State) (k : Nat) (raw : Word) : Int × Bool :=
  correctTo 16 (sgn 16 raw.toNat) (rneDivI (s.csOffset k) 256) (s.csGain k) (s.csInvert k)

/-- A producer's precise sample of a raw code (R139, R140). -/
def State.preciseOf (s : State) (k : Nat) (raw : Word) : Int × Bool :=
  correctTo 24 (sgn 24 raw.toNat) (s.csOffset k) (s.csGain k) (s.csInvert k)

/-- Amperes of a precise code (R139): the code / 8388608 is exact, the product rounded once. -/
def amperes (code : Int) (scale : Word) : Word :=
  BitVec.ofNat 32 (fmul f32 (fofRat f32 code 8388608).1 scale.toNat).1

/-- The phase that the Tender's input is on: connected in CONNECT, AGREE, RELIEF, VERIFY and HOLD. -/
def State.tdOn (s : State) : Option Nat := if tdConnect ≤ s.tdPhase then some s.tdCh else none

/-- The common mode at a producer's input is out of range (R133). -/
def State.cmFault (s : State) (k : Nat) : Bool :=
  if k = 18 then (match s.tdOn with | some c => s.bit (pkCs c) CS_STAT_CM_FAULT | none => false)
  else s.bit (pkCs k) CS_STAT_CM_FAULT

/-- The phase streams of a channel are marked stale, codes held. -/
def State.staleStream (s : State) (k : Nat) : State :=
  ((s.setBit (pkCs k) CS_FAST_STALE true).setBit (pkCs k) CS_PRECISE_STALE true).setBit (pkCs k) CS_STAT_STALE true

/-- The filters of a channel start to fill (R143, R154): 15 fast and 4 precise boundaries. -/
def State.refill (s : State) (k : Nat) : State := s.setChan k { s.chan k with fillF := 15, fillP := 4 }

/-! ### Trim (R142) -/

/-- The factory trim of the channel's gain is loaded; the channel is uncalibrated. -/
def State.loadTrim (s : State) (k gain : Nat) : State :=
  (s.setWord (pkCs k) CS_OFFSET ((Config.trimOffset k gain).signExtend 32)).setWord (pkCs k) CS_GAIN
    ((Config.trimGain k gain).setWidth 32)

/-- OFFSET and GAIN follow a changed CFG.GAIN (R142, R150, R159). -/
def State.syncTrim (s : State) (k : Nat) : State :=
  let g := s.fld (pkCs k) CS_CFG_GAIN
  let c := s.chan k
  if g = c.coefGain then s
  else
    let s := (s.loadTrim k g).setFld (pkCs k) CS_CAL_AGE 65535
    s.setChan k { c with coefGain := g, refused := 0, calAt := none }

/-! ### The Tender (R144-R156) -/

/-- A channel can be served on request (R144): in RUN; isolation by the Harbourmaster takes it out of RUN. -/
def State.servable (s : State) (k : Nat) : Bool := s.running (pkCs k)

/-- A channel takes its turn in the rotation. -/
def State.inRotation (s : State) (k : Nat) : Bool := s.servable k && !(s.bit (pkCs k) CS_CFG_TD_EXCLUDE)

/-- The next channel of the rotation. -/
def State.nextRot (s : State) : Option Nat :=
  if s.bit pkCst CST_TD_CTRL_ROT_EN then
    ((List.range 18).map (fun i => (s.td.rot + i) % 18)).find? (fun k => s.inRotation k)
  else none

/-- The pending request, where it can be served. -/
def State.liveReq (s : State) : Option Nat :=
  match s.td.req with
  | some k => if s.servable k then some k else none
  | none => none

/-- Agreement and calibration of a service start again. -/
def Tender.fresh (t : Tender) : Tender :=
  { t with bnd := 0, run := 0, maxDiff := 0, point := 0, sum1 := 0, calClip := false }

/-- The service of a channel begins: the Tender is switched onto its shunt (R146). -/
def State.tdConnectTo (s : State) (k : Nat) : State :=
  let t := s.td.fresh
  let s := s.setTd { t with
    served := some k, next := none, calDone := false, newCoef := false, awaitRun := false }
  let s := (s.setFld pkCst CST_CFG_GAIN (s.fld (pkCs k) CS_CFG_GAIN)).setBit pkCst CST_CFG_INVERT (s.csInvert k)
  s.tdGo tdConnect k

/-- Self-calibration begins at a gain; a service may follow (R146, R152). -/
def State.tdSelfcalAt (s : State) (gain : Nat) (next : Option Nat) (req : Bool) : State :=
  let s := (s.setTd { s.td with calGain := gain, next := next, nextReq := req }).setBit pkCst CST_STAT_CALIBRATING true
  (s.setBit pkCst CST_TD_STAT_EMERG false).tdGo tdSelfcal 31

/-- The Tender stops producing a phase's streams. -/
def State.unrelieve (s : State) : State :=
  match s.td.relieved with
  | some k =>
    ((s.setTd { s.td with relieved := none }).setBit (pkCs k) CS_STAT_RELIEVED false).setBit pkCst CST_STAT_RELIEVED false
  | none => s

/-- The Tender takes over a phase's streams (R148, R154). -/
def State.relieve (s : State) (k : Nat) : State :=
  (((s.setTd { s.td with relieved := some k }).setBit (pkCs k) CS_STAT_RELIEVED true).setBit pkCst CST_STAT_RELIEVED true).irq
    (pkCs k) 12

/-- The Tender is disconnected and idle. -/
def State.tdToIdle (s : State) : State :=
  let s := s.unrelieve
  ((s.setTd { s.td.fresh with next := none, awaitRun := false }).setBit pkCst CST_TD_STAT_EMERG false
    |>.setBit pkCst CST_STAT_CALIBRATING false).tdGo tdIdle 31

/-- The service before its swap is aborted and counted (R155). -/
def State.tdAbort (s : State) : State :=
  let k := s.tdCh
  ((((s.cntS (pkCs k) CS_CNT_ABORT).irq (pkCs k) 9).cntS pkCst CST_TD_CNT_ABORTS)).tdToIdle

/-- A difference in the units of TD_STAT.MAXDIFF (R165). -/
def diffUnits (d : Nat) : Nat := min 255 ((d * 10000 + 8388607) / 8388608)

/-- The gain of the self-calibration after a service: that of the channel served next (R152). -/
def State.nextGain (s : State) : Nat :=
  match s.liveReq with
  | some k => s.fld (pkCs k) CS_CFG_GAIN
  | none => match s.nextRot with
    | some k => s.fld (pkCs k) CS_CFG_GAIN
    | none => s.td.selfGain.getD 0

/-- VERIFY begins: the channel is back on its shunt (R146, R151 step 9). -/
def State.tdVerifyStart (s : State) : State :=
  let k := s.tdCh
  ((s.setTd { s.td.fresh with awaitRun := false }).setBit (pkCs k) CS_STAT_CALIBRATING false
    |>.setBit pkCst CST_TD_STAT_EMERG false).tdGo tdVerify k

/-- Calibration of the channel begins at point 1 (R149). -/
def State.tdCalibrate (s : State) : State :=
  let k := s.tdCh
  ((s.setTd { s.td.fresh with point := 1 }).setBit (pkCs k) CS_STAT_CALIBRATING true
    |>.setBit pkCst CST_TD_STAT_EMERG false).tdGo tdRelief k

/-- The old coefficients are restored where new ones are under test. -/
def State.oldCoefs (s : State) (k : Nat) : State :=
  if s.td.newCoef then
    ((s.setWord (pkCs k) CS_OFFSET s.td.oldOffset).setWord (pkCs k) CS_GAIN s.td.oldGain).setTd { s.td with newCoef := false }
  else s

/-! ### What page states do to the streams and to a service (R141, R143, R155) -/

/-- A channel's page leaves service: its phase stream is stale unless the Tender produces it. -/
def State.csLeaves (s : State) (k : Nat) : State :=
  let s := s.refill k
  if s.td.relieved = some k then s else s.staleStream k

/-- The service of a channel is in progress. -/
def State.serves (s : State) (k : Nat) : Bool := s.tdOn == some k

/-- CSk enters FAULT (R155): abort before the swap, HOLD after it. -/
def State.csFault (s : State) (k : Nat) : State :=
  let s := s.csLeaves k
  if !(s.serves k) then s
  else if s.tdPhase = tdConnect ∨ s.tdPhase = tdAgree then s.tdAbort
  else if s.tdPhase = tdHold then s
  else
    let s := (s.oldCoefs k).setBit (pkCs k) CS_STAT_CALIBRATING false
    (s.setTd { s.td.fresh with awaitRun := false }).tdGo tdHold k

/-- EN of CSk is written 0 (R155): the service ends, the stream is stale, the Tender calibrates itself. -/
def State.csOff (s : State) (k : Nat) : State :=
  if s.serves k then
    let s := (s.unrelieve).setBit (pkCs k) CS_STAT_CALIBRATING false
    let s := s.setTd { s.td.fresh with awaitRun := false }
    (s.csLeaves k).tdSelfcalAt s.nextGain none false
  else s.csLeaves k

/-- CST enters FAULT, TEST or OFF (R155). -/
def State.cstLeaves (s : State) : State :=
  let k := s.tdCh
  let s1 := s.csLeaves 18
  match s.tdPhase with
  | 2 | 3 => s1.tdAbort
  | 4 | 6 =>
    let s2 := (s1.tdToIdle.setBit (pkCs k) CS_STAT_CALIBRATING false)
    ((s2.refill k).staleStream k).raise (0x020 + k) 0x05 1
  | _ => s1.tdToIdle

/-- PLL-B has lost lock: every channel stops with its stream stale and a service ends (R143, R155). -/
def State.csAllStop (s : State) : State :=
  let s := s.tdToIdle
  forN 19 (fun k s =>
    let s := (s.refill k).staleStream k |>.setBit (pkCs k) CS_STAT_CALIBRATING (false)
    if s.running (pkCs k) then s.setSt (pkCs k) .idle else s) s

end Sys2Proof.Machine
end

