-- ==== Sys2Proof/Machine/Sounding.lean ====
section
/-!
DEFINITION. Machine/Sounding.lean: the shared operations of the sounding channels (R166-R193).
-/
namespace Sys2Proof.Machine

def State.snd (s : State) (k : Nat) : Snd := tget {} s.sc k
def State.setSnd (s : State) (k : Nat) (x : Snd) : State := { s with sc := tput s.sc k x }
def State.aon (s : State) (k : Nat) : AonCnt := tget {} s.aonCnt k
def State.setAon (s : State) (k : Nat) (x : AonCnt) : State := { s with aonCnt := tput s.aonCnt k x }

/-- A channel's filter and position core run (R190). -/
def State.scAlive (s : State) (k : Nat) : Bool := s.st (pkSc k) != .off && s.st (pkSc k) != .test

/-- 2.5e-9 and 2 pi in binary32. -/
def gtSeconds : Nat := (fofRat f32 25 10000000000).1
def twoPi32 : Nat := 0x40C90FDB

/-! ### Counting (R172-R175) -/

/-- One signed step of the position core: ANGLE and REV wrap (R172). -/
def Snd.step1 (x : Snd) (cpr : Nat) (neg : Bool) : Snd :=
  if neg then
    { x with pos := x.pos - 1, angle := if x.angle = 0 then cpr - 1 else x.angle - 1, rev := if x.angle = 0 then x.rev - 1 else x.rev }
  else
    { x with pos := x.pos + 1, angle := if x.angle + 1 < cpr then x.angle + 1 else 0
             rev := if x.angle + 1 < cpr then x.rev else x.rev + 1 }

/-- Several steps at once, with as many wraps as they make. -/
def Snd.move (x : Snd) (cpr : Nat) (d : Int) : Snd :=
  let a : Int := x.angle + d
  { x with pos := x.pos + BitVec.ofInt 32 d, angle := (a % cpr).toNat, rev := x.rev + BitVec.ofInt 32 (a / cpr) }

/-- An accepted step with its period interval (R177, R180): `two` marks a two-state Hall move. -/
def Snd.edge (x : Snd) (cpr span : Nat) (neg two : Bool) (ts : Word) : Snd :=
  let y := if two then (x.step1 cpr neg).step1 cpr neg else x.step1 cpr neg
  let drop := x.discard || x.still || two || x.lastNeg != some neg
  let hist := if drop then [] else ((ts - x.tLast).toNat :: x.hist).take span
  { y with dirNeg := neg, edgeTs := ts, hist := hist, tLast := ts, lastNeg := some neg, discard := two, still := false }

/-- A step is counted by the channel; DIR_INV negates its sense (R172). -/
def State.scStep (s : State) (k : Nat) (neg two : Bool) (ts : Word) : State :=
  s.setSnd k ((s.snd k).edge (s.cpr k) (s.fld (pkSc k) SC_SPDCFG_SPAN) (neg != s.scInv k) two ts)

/-- An illegal transition (R173, R174). -/
def State.scIllegal (s : State) (k : Nat) : State :=
  let s := s.setSnd k { s.snd k with valid := false, discard := true }
  (((s.cntS (pkSc k) SC_ERRCNT_DERR).irq (pkSc k) 9).raise (0x060 + k) 0x06 0)

/-- A discarded frame (R182, R183). -/
def State.scBadFrame (s : State) (k : Nat) : State :=
  ((s.cntS (pkSc k) SC_ERRCNT_DERR).irq (pkSc k) 9).raise (0x060 + k) 0x06 0

/-- Place of AB in the quadrature sequence: A leads B in the positive sense (log entry 25). -/
def quadIndex (a b : Bool) : Nat := match a, b with
  | false, false => 0
  | true, false => 1
  | true, true => 2
  | false, true => 3

/-- Place of a Hall state UVW in the sequence of R174. -/
def hallIndex (u v w : Bool) : Option Nat := match u, v, w with
  | false, false, true => some 0
  | false, true, true => some 1
  | false, true, false => some 2
  | true, true, false => some 3
  | true, false, false => some 4
  | true, false, true => some 5
  | _, _, _ => none

/-- A and B as accepted (R173). -/
def State.quadMove (s : State) (k : Nat) (a b a' b' : Bool) (ts : Word) : State :=
  match (quadIndex a' b' + 4 - quadIndex a b) % 4 with
  | 1 => s.scStep k false false ts
  | 3 => s.scStep k true false ts
  | 2 => s.scIllegal k
  | _ => s

/-- U, V and W as accepted (R174). -/
def State.hallMove (s : State) (k : Nat) (u v w : Bool) (ts : Word) : State :=
  match hallIndex u v w with
  | none => (s.setSnd k { s.snd k with hall := none }).scIllegal k
  | some n =>
    let old := (s.snd k).hall
    let s1 := s.setSnd k { s.snd k with hall := some n }
    match old with
    | none => s1.setSnd k { s1.snd k with discard := true }
    | some o =>
      match (n + 6 - o) % 6 with
      | 1 => s1.scStep k false false ts
      | 5 => s1.scStep k true false ts
      | 2 => s1.scStep k false true ts
      | 4 => s1.scStep k true true ts
      | 3 => (s1.setSnd k { s1.snd k with hall := none }).scIllegal k
      | _ => s1

/-- The signed distance from a to b the shorter way round. -/
def shorter (cpr a b : Nat) : Int :=
  let d := (b + cpr - a % cpr) % cpr
  if 2 * d ≤ cpr then d else (d : Int) - cpr

/-- A rising Z edge inside its gate (R175). -/
def State.zEdge (s : State) (k : Nat) : State :=
  let x := s.snd k
  let ofs := min (s.fld (pkSc k) SC_ZCFG_Z_OFS) (s.cpr k - 1)
  let d := shorter (s.cpr k) x.angle ofs
  let home := s.setSnd k { x with angle := ofs, pos := x.pos + BitVec.ofInt 32 d, valid := true }
  let near := decide (d.natAbs ≤ s.fld (pkSc k) SC_ZCFG_ZTOL)
  match s.fld (pkSc k) SC_ZCFG_ZMODE with
  | 0 => s
  | 1 => if x.valid then s else home
  | _ => if !x.valid || near then home
    else ((s.cntS (pkSc k) SC_ERRCNT_ZERR).irq (pkSc k) 8).raise (0x060 + k) 0x06 1

/-! ### Absolute samples (R176, R181) -/

/-- The page of a framed channel goes from IDLE to RUN at a valid sample (R185, R51). -/
def State.framedRun (s : State) (k : Nat) : State :=
  if s.st (pkSc k) == .idle && decide (3 ≤ s.scMode k ∧ s.scMode k ≤ 5) then s.setSt (pkSc k) .run else s

/-- A sample is accepted: the step d, POS_VALID as given. -/
def State.absAccept (s : State) (k : Nat) (d : Int) (valid : Bool) (ts : Word) : State :=
  let x := s.snd k
  let y := x.move (s.cpr k) d
  let keep := s.fld (pkSc k) SC_SPDCFG_SPAN + 1
  s.setSnd k { y with valid := valid, jumps := 0, first := false, fresh := true, missed := 0, edgeTs := ts
                      dirNeg := if d = 0 then x.dirNeg else decide (d < 0), samples := ((y.pos, ts) :: x.samples).take keep }

/-- R176: a new absolute position. -/
def State.absSample (s : State) (k : Nat) (value : Nat) (ts : Word) : State :=
  let cpr := s.cpr k
  let v := if s.scInv k then (cpr - value % cpr) % cpr else value % cpr
  let x := s.snd k
  let d := shorter cpr x.angle v
  if x.stopped then s
  else if x.first then ((s.setSnd k { x with angle := v }).absAccept k 0 true ts).framedRun k
  else if 4 * d.natAbs < cpr then (s.absAccept k d x.valid ts).framedRun k
  else if x.jumps < 3 then
    let s := s.setSnd k { x with jumps := x.jumps + 1 }
    (((s.cntS (pkSc k) SC_ERRCNT_DERR).irq (pkSc k) 10).irq (pkSc k) 9).raise (0x060 + k) 0x06 1
  else
    ((s.setSnd k { x with angle := v, pos := x.pos + BitVec.ofInt 32 d }).absAccept k 0 false ts).framedRun k

/-! ### Speed (R177-R181) -/

/-- The period path's value in counts/s, binary32; none while no interval is kept (R180). -/
def Snd.wp (x : Snd) : Option Nat :=
  if x.hist = [] then none
  else
    let n : Int := x.hist.length
    some (fdiv f32 (fofInt f32 (if x.lastNeg = some true then -n else n)).1
      (fmul f32 (fofInt f32 (x.hist.foldl (· + ·) 0 : Nat)).1 gtSeconds).1).1

/-- |a| of a binary32 pattern. -/
def fabsP (a : Nat) : Nat := a % 0x80000000

/-- The source and the speed in counts/s at a latch (R180). -/
def Snd.speedAt (x : Snd) (xover : Nat) (tl : Word) : Bool × Nat :=
  if x.still then (x.srcCount, 0)
  else
    let at' (n : Nat) : Nat := (fofInt f32 n).1
    let src := match x.wp with
      | none => true
      | some wp =>
        if !x.srcCount && !(flt f32 (fabsP wp) (at' (xover * 64))) then true
        else if x.srcCount && flt f32 (fabsP x.wc) (at' (xover * 60)) then false
        else x.srcCount
    let el := (tl - x.tLast).toNat
    match src, x.wp with
    | false, some wp =>
      if x.hist.foldl (· + ·) 0 < el * x.hist.length then
        (false, (fdiv f32 (fofInt f32 (if x.lastNeg = some true then -1 else 1)).1 (fmul f32 (at' el) gtSeconds).1).1)
      else (false, wp)
    | b, _ => (b, x.wc)

/-- The difference path of the absolute modes in counts/s (R181); +0.0 before a second sample. -/
def Snd.diffSpeed (x : Snd) (span : Nat) : Nat :=
  match x.samples.head?, (x.samples.take (span + 1)).getLast? with
  | some n, some o =>
    if x.samples.length < 2 then 0
    else fdiv f32 (fofInt f32 (n.1 - o.1).toInt).1 (fmul f32 (fofInt f32 (n.2 - o.2).toNat).1 gtSeconds).1 |>.1
  | _, _ => 0

/-- A binary32 angle reduced to [0, 2 pi) by R617's constant, rounded once. -/
def wrapPos (a : Nat) : Nat :=
  match fdec f32 a with
  | .fin n m e =>
    -- value = m 2^e; P = 0xC90FDAA22168C235 2^-61; both over 2^-149
    let p : Int := 0xC90FDAA22168C235 * 2 ^ 88
    let v : Int := if n then -(m * 2 ^ (e + 149).toNat : Nat) else (m * 2 ^ (e + 149).toNat : Nat)
    (fround f32 false (v % p).toNat 1 (-149)).1
  | _ => f32.nanPat

/-- R189: the record of a channel in RUN is latched at a base tick. -/
def State.scLatch (s : State) (k : Nat) : State :=
  if !(s.running (pkSc k)) then s
  else
    let x := s.snd k
    let pk := pkSc k
    let cpr := s.cpr k
    let mode := s.scMode k
    let c32 := (fofInt f32 cpr).1
    let (src, w) : Bool × Nat :=
      if mode ≤ 2 then x.speedAt (s.fld pk SC_SPDCFG_XOVER) s.stb
      else if mode = 6 then (true, 0)
      else (true, x.diffSpeed (s.fld pk SC_SPDCFG_SPAN))
    let speed : Nat :=
      if mode = 6 then (fdiv f32 (fconv f64 f32 x.w).1 (fofInt f32 (s.fld pk SC_RSLV_RPP)).1).1
      else (fdiv f32 (fmul f32 w twoPi32).1 c32).1
    let turn (n : Nat) : Nat := (fmul f32 (fdiv f32 (fofInt f32 n).1 c32).1 twoPi32).1
    let angE := wrapPos (fadd f32 (turn (s.fld pk SC_GEOM_PP * x.angle % cpr)) (s.word pk SC_EOFS).toNat).1
    let framed := decide (3 ≤ mode ∧ mode ≤ 5)
    let old := framed && !x.fresh
    let s := s.setSnd k { x with
      srcCount := if mode ≤ 2 then src else x.srcCount
      fresh := false, missed := if old then x.missed + 1 else 0
      latchPos := x.pos, dpos := x.pos - x.latchPos }
    let s := (((s.setWord pk SC_POS x.pos).setWord pk SC_REV x.rev).setWord pk SC_ANGLE (BitVec.ofNat 32 x.angle))
    let s := (s.setWord pk SC_SPEED (BitVec.ofNat 32 speed)).setWord pk SC_ANGLE_M (BitVec.ofNat 32 (turn x.angle))
    let s := ((s.setWord pk SC_ANGLE_E (BitVec.ofNat 32 angE)).setWord pk SC_EDGE_TS x.edgeTs).setWord pk SC_LATCH_TS s.stb
    (((((s.setBit pk SC_STAT_POS_VALID x.valid).setBit pk SC_STAT_DIR x.dirNeg).setBit pk SC_STAT_SRC src).setBit pk
      SC_STAT_STILL x.still).setBit pk SC_STAT_OLD old).setBit pk SC_STAT_STALE false

/-! ### Page states (R177, R189, R190) -/

/-- A channel leaves RUN: its record is marked stale. -/
def State.scStale (s : State) (k : Nat) : State := s.setBit (pkSc k) SC_STAT_STALE true

/-- The Hall state that the levels accepted now show. -/
def Snd.hallNow (x : Snd) : Option Nat := hallIndex x.a x.b x.z

/-- BR: speed paths, frame decoders and the observer are reset; the position core is kept (R190). Counting, which stood still in
TEST, goes on from the levels of the balls. -/
def State.scReinit (s : State) (k : Nat) : State :=
  let x := s.snd k
  s.setSnd k { x with hist := [], lastNeg := none, discard := true, wc := 0, winPos := none, srcCount := false, still := false
                      samples := [], frameTs := none, fresh := false, missed := 0
                      th := 0, wi := 0, w := 0, ampBad := 0
                      hall := if s.st (pkSc k) = .test then x.hallNow else x.hall }

/-- MODE, GEOM or FRAME has been written: ANGLE stays below CPR (R172), a Hall channel takes its levels as its reference. -/
def State.scGeometry (s : State) (k : Nat) : State :=
  let x := s.snd k
  s.setSnd k { x with angle := x.angle % s.cpr k, hall := x.hallNow }

/-- The page is enabled: the core counts from here (R172), from the levels at its balls. -/
def State.scEnable (s : State) (k : Nat) : State :=
  let x := s.snd k
  s.setSnd k { a := x.a, b := x.b, z := x.z, hall := x.hallNow, seq := x.seq }

/-- The page leaves service for TEST: POS_VALID stays cleared until the channel is referenced again (R190). -/
def State.scTest (s : State) (k : Nat) : State :=
  (s.setSnd k { s.snd k with valid := false, first := true }).scStale k

/-! ### The AON counter (R191-R193) -/

/-- Steps of the AON counter between two states, in the channel's mode; none where they cannot be resolved (R192). -/
def aonSteps (mode : Nat) (o n : BitVec 3) : Option Int :=
  let l (v : BitVec 3) (i : Nat) : Bool := bitN v.toNat i
  if mode = 2 then
    match hallIndex (l o 0) (l o 1) (l o 2), hallIndex (l n 0) (l n 1) (l n 2) with
    | some a, some b => match (b + 6 - a) % 6 with
      | 0 => some 0 | 1 => some 1 | 2 => some 2 | 4 => some (-2) | 5 => some (-1) | _ => none
    | _, _ => none
  else match (quadIndex (l n 0) (l n 1) + 4 - quadIndex (l o 0) (l o 1)) % 4 with
    | 0 => some 0 | 1 => some 1 | 3 => some (-1) | _ => none

/-- The counter takes one sample (R192). -/
def AonCnt.sample (c : AonCnt) (n : BitVec 3) : AonCnt :=
  if !c.active || c.lost then c
  else
    let m := fget SC_MODE_MODE c.mode
    match aonSteps m c.st n with
    | some d =>
      let d := if bitN c.mode.toNat 8 then -d else d
      { c with st := n, pos := c.pos + BitVec.ofInt 32 d }
    | none => { c with lost := true }

/-- Levels of a channel as the AON domain reads them: A, B, Z in bits 0 to 2. -/
def Snd.levels (x : Snd) : BitVec 3 := BitVec.ofNat 3 (b2n x.a + 2 * b2n x.b + 4 * b2n x.z)

/-- At the start of Ebb the position is handed to the AON counter (R193); without SLK_EN the counter does not run. -/
def State.slackHandover (s : State) (k : Nat) : State :=
  let x := s.snd k
  let c := s.aon k
  let on := bitN (s.word (pkSc k) SC_SLACK).toNat 31 && decide (s.scMode k ≤ 2) && s.scAlive k
  if !on then s
  else
    let q := (x.seq + 1) % 65536
    let s := s.setSnd k { x with stopped := true, seq := q }
    s.setAon k { c with active := true, pos := 0#32, lost := false, valid := true, st := x.levels, seq := q
                        slack := s.word (pkSc k) SC_SLACK, mode := s.word (pkSc k) SC_MODE }

/-- Key of a saved position item (R79, R193): POS, ANGLE, REV, POS_VALID, handover sequence. -/
def posKey (k i : Nat) : Nat := 8 * k + i

/-- The SC page enters RUN after a Flood: the counter stops and the saved position, advanced by its steps, is restored (R193).
Without a counter that ran since the save the position is restored only where the AON supply was lost, as not valid. -/
def State.slackRestore (s : State) (k : Nat) (saved : List (Nat × Word)) : State :=
  let c := s.aon k
  let x := s.snd k
  if x.restored || !(tmem saved (posKey k 0)) || (c.valid && !c.active) then s
  else
    let g (i : Nat) : Nat := (tget 0#32 saved (posKey k i)).toNat
    let y : Snd := { x with pos := BitVec.ofNat 32 (g 0), angle := g 1, rev := BitVec.ofNat 32 (g 2) }
    let y := y.move (s.cpr k) c.pos.toInt
    let mismatch := g 4 != c.seq
    let ok := decide (g 3 = 1) && c.valid && !c.lost && !mismatch
    let l := c.st.toNat
    let y := if c.valid then { y with a := bitN l 0, b := bitN l 1, z := bitN l 2, hall := hallIndex (bitN l 0) (bitN l 1) (bitN l 2) } else y
    let s := s.setSnd k { y with valid := ok, stopped := false, restored := true, seq := c.seq }
    let s := s.setAon k { c with active := false }
    if !c.valid then s.raise (0x060 + k) 0x06 0
    else if c.lost || mismatch then s.raise (0x060 + k) 0x06 1
    else s

/-- The newest save whose CRC is good (R79). -/
def State.goodSave (s : State) : Option Save :=
  match s.boot.saveA, s.boot.saveB with
  | some a, some b =>
    if a.good && b.good then (if a.seq < b.seq then some b else some a)
    else if a.good then some a else if b.good then some b else none
  | some a, none => if a.good then some a else none
  | none, some b => if b.good then some b else none
  | none, none => none

end Sys2Proof.Machine
end

