-- ==== Sys2Proof/Machine/Crc.lean ====
section
/-!
DEFINITION. Machine/Crc.lean: bytes of frames (R9) and the check codes of the spec: CRC-32C of the seal, the boot record, saves and frames (R415).
-/
namespace Sys2Proof.Machine

/-- One bit of the reflected CRC-32C (polynomial 0x1EDC_6F41, reflected 0x82F6_3B78). -/
def crcBit (c : Word) : Word := if c.getLsbD 0 then (c >>> 1) ^^^ 0x82F63B78#32 else c >>> 1

/-- One byte. -/
def crcByte (c : Word) (b : BitVec 8) : Word :=
  crcBit (crcBit (crcBit (crcBit (crcBit (crcBit (crcBit (crcBit (c ^^^ b.setWidth 32))))))))

/-- CRC-32C of bytes in order: initial value and final XOR all ones (R415). -/
def crc32c (l : List (BitVec 8)) : Word := (l.foldl crcByte 0xFFFFFFFF#32) ^^^ 0xFFFFFFFF#32

/-- Bytes of a number, most significant first (R9). -/
def beBytes (n count : Nat) : List (BitVec 8) := ((List.range count).map (fun i => BitVec.ofNat 8 (n / 2 ^ (8 * i)))).reverse

/-- Bytes of a number, least significant first (R9). -/
def leBytes (n count : Nat) : List (BitVec 8) := (List.range count).map (fun i => BitVec.ofNat 8 (n / 2 ^ (8 * i)))

/-- A big-endian number at an offset. -/
def beAt (l : List (BitVec 8)) (off count : Nat) : Nat :=
  (List.range count).foldl (fun n i => n * 256 + (l.getD (off + i) 0#8).toNat) 0

end Sys2Proof.Machine
end

