-- ==== Sys2Proof/Machine/WatchBase.lean ====
section
/-!
DEFINITION. Machine/WatchBase.lean: the watch group's state, its peers and mooring frames, readiness, Lee mode, and the cross-check
of a period's outputs (R520-R524, R534-R537, R550-R553).
-/
namespace Sys2Proof.Machine

def State.setWg (s : State) (w : Watch) : State := { s with wg := w }
def State.wgState (s : State) : Nat := s.fld pkWg WG_STAT_STATE
def State.gsize (s : State) : Nat := s.sea.mf.gsize
def State.wgRank (s : State) : Nat := s.sea.mf.rank

/-- A role change (R537). -/
def State.setRole (s : State) (n : Nat) : State :=
  if s.wgState = n then s else (s.setFld pkWg WG_STAT_STATE n).irq pkWg 12

/-! ### Peers (R520, R550) -/

/-- The peers of the group: 0, and in a triple 1. -/
def State.peerList (s : State) : List Nat := if s.gsize = 3 then [0, 1] else if s.gsize = 2 then [0] else []

/-- The mooring ports that lead to a peer, and the peer of a port. -/
def State.peerPorts (s : State) (i : Nat) : List Nat := if s.gsize = 2 then [0, 1] else [i]
def State.portPeer (s : State) (p : Nat) : Nat := if s.gsize = 2 then 0 else p

/-- The peer of a rank. -/
def State.rankPeer (s : State) (r : Nat) : Option Nat :=
  if r = 0 ∨ r = s.wgRank then none
  else if s.gsize = 2 then some 0
  else if s.gsize = 3 then (if r = s.wgRank % 3 + 1 then some 0 else some 1)
  else none

def State.peer (s : State) (i : Nat) : Peer := tget {} s.wg.peers i
def State.setPeer (s : State) (i : Nat) (x : Peer) : State := s.setWg { s.wg with peers := tput s.wg.peers i x }

/-- A mooring link is up. -/
def State.mpUp (s : State) (p : Nat) : Bool := s.bit (pkMp p) MP_STAT_LINK
def State.peerUp (s : State) (i : Nat) : Bool := (s.peerPorts i).any (fun p => s.mpUp p)

/-- A peer's beacons arrive on an up link (R526, R538). -/
def State.peerBeacon (s : State) (i : Nat) : Bool := (s.peerPorts i).any (fun p => s.mpUp p && s.bit (pkMp p) MP_STAT_BEACON)

/-- A peer counts as a ready standby: its last report, at most 20 ms old, shows READY (R550). -/
def State.peerReady (s : State) (i : Nat) : Bool :=
  let x := s.peer i
  x.ready && (match x.healthAt with | some t => decide (s.cyc ≤ t + 8000000) | none => false)

/-- The state a peer last reported, by HELLO or HEALTH. -/
def State.peerRole (s : State) (i : Nat) : Nat := s.fld pkWg (WG_PEER_STAT_STATE.ix i 16)

/-- A peer holds authority, by its beacons or its reports. -/
def State.peerAuth (s : State) (i : Nat) : Bool := s.peerBeacon i || (s.peerUp i && (s.peerRole i == 5 || s.peerRole i == 6))

/-- The highest level of any incident not closed. -/
def State.hmLevel (s : State) : Nat := s.hm.inc.foldl (fun n x => if x.2.st == .closed then n else max n x.2.level) 0

/-- READY (R550). -/
def State.wgReady (s : State) : Bool :=
  s.wgState == 4 && s.bit pkDr DR_SWEEPS_PASSED && decide (s.hmLevel < 2) && decide (s.fld pkHm HM_STAT_UNIT_REC < s.sea.mf.hmLimit)

/-- ARM is presented to the Seawall (R538). -/
def State.armed (s : State) : Bool :=
  (s.wgState == 2 || (s.wgState == 4 && s.wgReady)) && s.peerList.all (fun i => !(s.peerBeacon i))

/-- STANDBY with the loss of every link to the unit holding authority (R537). -/
def State.detached (s : State) : Bool :=
  s.wgState == 4 && s.peerList.any (fun i => (s.peerRole i == 5 || s.peerRole i == 6) && !(s.peerUp i))

/-! ### Mooring frames (R523, R525) -/

/-- A frame is sent on a port whose link is up. -/
def State.mpSend (s : State) (p typ src : Nat) (period : Word) (payload : List Byte) : State :=
  if s.mpUp p then
    let s := s.cntW (pkMp p) MP_TX
    let l := [BitVec.ofNat 8 typ, BitVec.ofNat 8 src, 0#8, 0#8] ++ beBytes period.toNat 4 ++ payload
    s.setWg { s.wg with sent := tput s.wg.sent p (typ, l) }
  else s

/-- A frame of this unit is sent on both ports. -/
def State.mpSendAll (s : State) (typ : Nat) (payload : List Byte) : State :=
  forN 2 (fun p s => s.mpSend p typ s.wgRank (s.word pkWg WG_PERIOD) payload) s

/-- A swell bin updated while this unit sends a snapshot belongs to the next step-load (R546). -/
def State.stepMark (s : State) (a : Nat) : State :=
  let b := a / 256 * 256
  if s.wg.sending && !(s.wg.stepBlocks.contains b) then s.setWg { s.wg with stepBlocks := s.wg.stepBlocks ++ [b] } else s

/-! ### Lee mode (R551-R553) -/

/-- Lee mode is in force. -/
def State.lee (s : State) : Bool := s.bit pkWg WG_STAT_LEE

/-- Lee mode is entered (R551); a unit without a group keeps the state NONE (log entry 33). -/
def State.leeEnter (s : State) : State :=
  if s.lee then s
  else
    let s := ((s.setBit pkWg WG_STAT_LEE true).irq pkWg 13).raise 0x1C6 0x06 0
    if s.wgState = 5 then s.setRole 6 else s

/-- Lee mode ends: the incidents in LEE return to HELD at level 3 (R553). -/
def State.leeEnd (s : State) : State :=
  if s.lee then
    let s := s.setBit pkWg WG_STAT_LEE false
    { s with hm := { s.hm with inc := s.hm.inc.map (fun x =>
      (x.1, if x.2.st == .lee then { x.2 with st := .held, quietFrom := s.cyc } else x.2)) } }
  else s

/-- What the release of BOL_OUT does to the role (R537): ACTIVE and LEE go to SILENT; a snapshot under way ends (R548). -/
def State.wgSilent (s : State) : State :=
  let s := s.leeEnd.setWg { s.leeEnd.wg with sending := false }
  if s.wgState = 5 ∨ s.wgState = 6 then s.setRole 7 else s

/-- Lee mode can be granted: no peer counts as a ready standby (R551). -/
def State.leeGrant (s : State) : Bool :=
  s.sea.mf.leeEn && s.bit pkSea SEAWALL_STAT_BOL_OUT && s.peerList.all (fun i => !(s.peerReady i))

/-! ### Returning and departing from step (R535, R547, R548) -/

/-- RETURNING, from the bulk phase. -/
def State.toReturning (s : State) : State :=
  let s := (s.setFld pkWg WG_STAT_STEP 0).setFld pkWg WG_SNAP_STAT_PHASE 1
  let s := (s.setWg { s.wg with caughtReq := false, caughtUp := false, logged := 0 }).setRole 3
  { s with dr := { s.dr with stepHold := none } }

/-- A standby in step tests an engine, or waits for its committed state: STEP holds and no departure counts (R578). -/
def State.stepHeld (s : State) : Bool := s.wgState == 4 && s.dr.stepHold.isSome

/-- A departure from step (R535, R548), where none is held back (R578); the third of a drive cycle is of level 3. -/
def State.depart (s : State) : State :=
  if s.stepHeld then s else
  let n := s.wg.departures + 1
  let s := ((s.setWg { s.wg with departures := n }).cntS pkWg WG_CNT_RESYNCS).toReturning
  if n = 3 then s.raise 0x1C4 0x04 3 else s

/-! ### Cross-check (R534-R536) -/

/-- O slots named in XMASK, in ascending engine and slot order. -/
def State.xSlots (s : State) : List (Nat × Nat) :=
  (List.range 6).flatMap (fun k =>
    ((List.range 32).filter (fun o => bitN (s.word (pkCe k) CE_XMASK).toNat o)).map (fun o => (k, o)))

/-- Values of two frames differ, engines abandoned on either side left out. -/
def xDiffer (slots : List (Nat × Nat)) (a b : Xchk) : Bool :=
  a.values.length != b.values.length ||
    (List.range a.values.length).any (fun i =>
      let k := (slots.getD i (0, 0)).1
      !(bitN a.abnd k) && !(bitN b.abnd k) && a.values.getD i 0#32 != b.values.getD i 0#32)

/-- A unit in step by its role. -/
def inStepRole (n : Nat) : Bool := n == 4 || n == 5 || n == 6

/-- Peer i's frame of this period, where it is a unit in step. -/
def State.xPeer (s : State) (i : Nat) : Option Xchk :=
  if inStepRole (s.peerRole i) && tmem s.wg.peerX i then some (tget {} s.wg.peerX i) else none

/-- Whether this unit stands against peer i alone, and whether no two units can outvote it (R535): against the other peer's frame
in a triple. -/
def State.xOdd (s : State) (i : Nat) (diff : Xchk → Xchk → Bool) (x y : Xchk) : Option (Bool × Bool) :=
  let j := 1 - i
  if s.gsize = 3 && inStepRole (s.peerRole j) then
    match s.xPeer j with
    | none => none
    | some z => some (diff x z, diff y z)
  else some (true, true)

/-- The outcome of a difference with peer i (R535). -/
def State.xOutcome (s : State) (i kind : Nat) (odd twin : Bool) : State :=
  if !odd then s
  else if s.wgState = 4 then
    let s := s.raise 0x1C4 kind 1
    if twin && !(s.peerRole i == 5 || s.peerRole i == 6) then s else s.depart
  else s.raise 0x1C4 kind (if twin then 1 else 3)

/-- The comparison with peer i as soon as both frames are there. -/
def State.xJudge (s : State) (i : Nat) : State :=
  match s.wg.ownX with
  | none => s
  | some x =>
    let act := s.peerRole i == 5 || s.peerRole i == 6
    let own := s.wgState
    let y := tget {} s.wg.peerX i
    if !(tmem s.wg.peerX i) then s
    else if own = 3 then
      if s.wg.caughtUp && act then
        if x.stateSig = y.stateSig then
          let s := s.cntS pkWg WG_STAT_STEP
          if 64 ≤ s.fld pkWg WG_STAT_STEP then (s.setRole 4).irq pkWg 11 else s
        else s.setFld pkWg WG_STAT_STEP 0
      else s
    else if !(inStepRole own) || !(inStepRole (s.peerRole i)) then s
    else
      if x.agreeSig ≠ y.agreeSig then
        if own = 4 && act then (s.raise 0x1C4 0x0B 1).depart else s
      else if xDiffer s.xSlots x y then
        let s := (s.cntS pkWg WG_CNT_XDIS).irq pkWg 10
        match s.xOdd i (xDiffer s.xSlots) x y with
        | some (odd, twin) => s.xOutcome i 0x03 odd twin
        | none => s
      else if s.stepHeld then s
      else if x.stateSig ≠ y.stateSig then
        let s := s.cntS pkWg WG_CNT_SIGDIS
        match s.xOdd i (fun a b => a.stateSig != b.stateSig) x y with
        | some (odd, twin) => s.xOutcome i 0x04 odd twin
        | none => s
      else if own = 4 && act then s.cntS pkWg WG_STAT_STEP
      else s

/-- The XCHK frame is formed once the period's set is agreed and every engine with XMASK ≠ 0 has committed or abandoned its run
(R534). -/
def State.xchkTry (s : State) : State :=
  let w := s.wg
  let engines := (List.range 6).filter (fun k => s.word (pkCe k) CE_XMASK != 0#32)
  if w.ownX.isSome || !w.agreedNow || engines.isEmpty || !(engines.all (fun k => w.xDone.contains k || w.xAbnd.contains k)) then s
  else
    let all := s.xSlots
    let vals := (all.take 60).map (fun x => s.word (pkCe x.1) (CE_OUT.ix x.2))
    let abnd := w.xAbnd.foldl (fun n k => n + 2 ^ k) 0
    let x : Xchk := ⟨s.word pkWg WG_AGREE_SIG, w.prevSig, abnd, vals⟩
    let payload := beBytes x.agreeSig.toNat 4 ++ beBytes x.stateSig.toNat 4 ++ [BitVec.ofNat 8 vals.length, BitVec.ofNat 8 abnd]
      ++ List.replicate 6 0#8 ++ vals.flatMap (fun v => beBytes v.toNat 4)
    let s := s.setWg { w with ownX := some x }
    let s := if 60 < all.length then s.setBit pkWg WG_STAT_XTRUNC true else s
    forL s.peerList (fun i s => s.xJudge i) (s.mpSendAll 2 payload)

/-- A run of group g of engine k has committed or been abandoned (R534). -/
def State.xchkMark (s : State) (k g : Nat) (abandoned : Bool) : State :=
  if s.gsize != 0 && s.running pkWg && g == s.fld pkWg WG_CFG_XGRP && s.word (pkCe k) CE_XMASK != 0#32
      && !(s.wg.xDone.contains k) && !(s.wg.xAbnd.contains k) then
    (s.setWg (if abandoned then { s.wg with xAbnd := s.wg.xAbnd ++ [k] } else { s.wg with xDone := s.wg.xDone ++ [k] })).xchkTry
  else s

end Sys2Proof.Machine
end

