-- ==== Sys2Proof/Machine/Engine.lean ====
section
/-!
DEFINITION. Machine/Engine.lean: the shared operations of the control engines: memory, runs, operations, the program check (R200-R228),
swell learners, injection generators and captures (R263-R277).
-/
namespace Sys2Proof.Machine

def State.eng (s : State) (k : Nat) : Engine := tget {} s.ce k
def State.setEng (s : State) (k : Nat) (e : Engine) : State := { s with ce := tput s.ce k e }
def State.swt (s : State) (t : Nat) : Swell := tget {} s.swl t
def State.setSwt (s : State) (t : Nat) (x : Swell) : State := { s with swl := tput s.swl t x }
def State.inj (s : State) (k : Nat) : Inject := tget {} s.ij k
def State.setInj (s : State) (k : Nat) (x : Inject) : State := { s with ij := tput s.ij k x }
def State.capt (s : State) (k : Nat) : Capture := tget {} s.cap k
def State.setCapt (s : State) (k : Nat) (x : Capture) : State := { s with cap := tput s.cap k x }

/-! ### Engine memory (R200) -/

def ceBase (k : Nat) : Nat := 0x32000000 + k * 0x10000
def cePAddr (k i : Nat) : Nat := ceBase k + 0x0800 + 4 * i
def ceWAddr (k g i : Nat) : Nat := ceBase k + 0x0C00 + 0x100 * g + 4 * i
def ceImgAddr (k i : Nat) : Nat := ceBase k + 0x1000 + 4 * i

/-- Committed persistent state. -/
def State.ceP (s : State) (k i : Nat) : Word := s.m32 (cePAddr k i)

/-- Operation n of the program. -/
def State.ceProg (s : State) (k n : Nat) : Nat := mgetN s.mem (ceBase k + 8 * n) 8

/-- The fields of an operation word (R203). -/
structure OpF where
  op : Nat
  dst : Nat
  a : Nat
  b : Nat
  c : Nat
  s : Nat
  aux : Nat
  deriving DecidableEq, Repr

def opFields (w : Nat) : OpF :=
  ⟨bitsN w 63 58, bitsN w 57 48, bitsN w 47 38, bitsN w 37 28, bitsN w 27 18, bitsN w 17 10, bitsN w 9 0⟩

/-- How an operation uses its fields (R203, R204): results, operands, words of its coefficient and state blocks, AUX bits,
cycles. -/
structure OpUse where
  dst : Nat := 0
  a : Bool := false
  b : Bool := false
  c : Bool := false
  coef : Nat := 0
  st : Nat := 0
  aux : Nat := 0
  cyc : Nat
  deriving DecidableEq, Repr

/-- The operations of R204; none for an illegal opcode. -/
def opUse (f : OpF) : Option OpUse :=
  match f.op with
  | 0x00 => some { cyc := 2 }
  | 0x01 => some { dst := 1, a := true, cyc := 8 }
  | 0x02 | 0x03 | 0x04 | 0x06 | 0x07 => some { dst := 1, a := true, b := true, cyc := 8 }
  | 0x05 => some { dst := 1, a := true, b := true, c := true, cyc := 8 }
  | 0x08 | 0x09 => some { dst := 1, a := true, cyc := 8 }
  | 0x0A => some { dst := 1, a := true, b := true, c := true, cyc := 8 }
  | 0x0B => some { dst := 1, a := true, b := true, cyc := 32 }
  | 0x0C => some { dst := 1, a := true, cyc := 32 }
  | 0x0D => some { dst := 1, a := true, aux := 1, cyc := 12 }
  | 0x10 => some { dst := 1, aux := 0x3F, cyc := 8 }
  | 0x11 => some { a := true, aux := 0x1F, cyc := 6 }
  | 0x12 => some { a := true, aux := 3, cyc := 6 }
  | 0x18 => some { dst := 2, a := true, b := true, c := f.aux % 2 == 0, aux := 1, cyc := 20 }
  | 0x19 => some { dst := 3, a := true, b := true, cyc := 20 }
  | 0x1A | 0x1B => some { dst := 2, a := true, b := true, c := true, cyc := 40 }
  | 0x20 => some { dst := 1, a := true, coef := 4, st := 1, cyc := 28 }
  | 0x21 => some { dst := 1, a := true, coef := 4, st := 1, cyc := 12 }
  | 0x22 => some { dst := 1, a := true, coef := 5, st := 2, cyc := 36 }
  | 0x23 => if f.aux % 2 = 1 then some { dst := 1, a := true, b := true, aux := 1, cyc := 10 }
      else some { dst := 1, a := true, coef := 2, aux := 1, cyc := 10 }
  | 0x24 => some { dst := 1, a := true, coef := 2, st := 1, cyc := 16 }
  | 0x28 => some { dst := 1, a := true, b := f.aux / 4 % 2 == 1, aux := 7, cyc := 24 }
  | 0x29 => some { dst := 1, a := true, aux := 0xF, cyc := 8 }
  | 0x2A => some { a := true, aux := 7, cyc := 8 }
  | _ => none

/-- An address of a readable class (R202). -/
def readable (a : Nat) : Bool := a < 0x40 || (0x100 ≤ a && a < 0x320) || (0x320 ≤ a && a < 0x328)

/-- DST and its further results lie in one writable class. -/
def dstLegal (d n : Nat) : Bool := d + n ≤ 0x40 || (0x100 ≤ d && d + n ≤ 0x200)

/-- The constants K0-K7 (R202). -/
def kConst (i : Nat) : Nat :=
  [0x00000000, 0x3F800000, 0xBF800000, 0x3F000000, 0x40490FDB, 0x40C90FDB, 0x3F13CD3A, 0x3F5DB3D7].getD i 0

/-! ### Runs -/

/-- The page's group with the highest priority that has an open run (R214). -/
def State.activeRun (s : State) (k : Nat) : Option (Nat × Run) := (s.eng k).runs.head?

def State.setRun (s : State) (k g : Nat) (r : Run) : State :=
  s.setEng k { s.eng k with runs := tput (s.eng k).runs g r }

def State.grpStart (s : State) (k g : Nat) : Nat := s.fld (pkCe k) (CE_GRP_RANGE_START.ix g 8)
def State.grpEnd (s : State) (k g : Nat) : Nat := s.fld (pkCe k) (CE_GRP_RANGE_END.ix g 8)
def State.grpEn (s : State) (k g : Nat) : Bool := s.bit (pkCe k) (CE_GRP_SCHED_EN.ix g 8)
def State.grpN (s : State) (k g : Nat) : Nat := s.fld (pkCe k) (CE_GRP_SCHED_N.ix g 8)

/-- STAT.OPEN and STAT.OLDBANK_OPEN follow the open runs. -/
def State.refreshOpen (s : State) (k : Nat) : State :=
  let rs := (s.eng k).runs
  let s := s.setFld (pkCe k) CE_STAT_OPEN (rs.foldl (fun n x => n + 2 ^ x.1) 0)
  s.setBit (pkCe k) CE_STAT_OLDBANK_OPEN (rs.any (fun x => x.2.started && x.2.bankB != (s.page (pkCe k)).activeB))

/-- The highest-priority released group starts (R24, R214, R219): X snapshot, W cleared, bank bound. -/
def State.startTop (s : State) (k : Nat) : State :=
  match s.activeRun k with
  | some (g, r) =>
    if r.started then s.refreshOpen k
    else
      let xs := (List.range 32).map (fun i => s.word (pkCe k) (CE_X.ix i))
      let s := { s with mem := mzero s.mem (ceWAddr k g 0) 0x100 }
      (s.setRun k g { r with started := true, xs := xs, bankB := (s.page (pkCe k)).activeB, pc := s.grpStart k g }).refreshOpen k
  | none => s.refreshOpen k

/-- An operand as the run reads it (R202, R215). -/
def State.opnd (s : State) (k g : Nat) (r : Run) (a : Nat) : Nat :=
  if a < 0x40 then (s.m32 (ceWAddr k g a)).toNat
  else if 0x100 ≤ a ∧ a < 0x200 then (tget (s.ceP k (a - 0x100)) r.stP (a - 0x100)).toNat
  else if 0x200 ≤ a ∧ a < 0x300 then (s.regOf (pkCe k) (0x400 + 4 * (a - 0x200)) r.bankB).toNat
  else if 0x300 ≤ a ∧ a < 0x320 then (r.xs.getD (a - 0x300) 0#32).toNat
  else if 0x320 ≤ a ∧ a < 0x328 then kConst (a - 0x320)
  else 0

/-- A result is written: W at once, P staged (R215). -/
def State.putRes (s : State) (k g a v : Nat) : State :=
  if a < 0x40 then s.setM32 (ceWAddr k g a) (BitVec.ofNat 32 v)
  else match (tget {} (s.eng k).runs g : Run) with
    | r => s.setRun k g { r with stP := tput r.stP (a - 0x100) (BitVec.ofNat 32 v) }

/-- GRPn_FLAGS collects the exceptions of an operation (R618). -/
def State.grpFlags (s : State) (k g : Nat) (f : FFlags) : State :=
  let b := b2n f.nv + 2 * b2n f.dz + 4 * b2n f.of + 8 * b2n f.uf
  s.modPage (pkCe k) (fun p =>
    let off := 0x088 + 16 * g
    { p with regs := tput p.regs off (tget 0#32 p.regs off ||| BitVec.ofNat 32 b) })

/-- The run goes on to its next operation. -/
def State.nextOp (s : State) (k g : Nat) : State :=
  let r : Run := tget {} (s.eng k).runs g
  s.setRun k g { r with pc := r.pc + 1 }

/-- An operation completes: its results, its state words and its flags. -/
def State.opDone (s : State) (k g : Nat) (res : List (Nat × Nat)) (fl : FFlags) : State :=
  ((forL res (fun x s => s.putRes k g x.1 x.2) s).grpFlags k g fl).nextOp k g

/-! ### Captures (R274-R276) -/

def State.capState (s : State) (k : Nat) : Nat := s.fld pkCp (CP_CAP_STAT_STATE.ix k 0x40)
def State.setCapState (s : State) (k x : Nat) : State := s.setFld pkCp (CP_CAP_STAT_STATE.ix k 0x40) x

/-- Record size in words (R275). -/
def State.capSize (s : State) (k : Nat) : Nat :=
  1 + ((List.range 8).filter (fun c => bitN (s.fld pkCp (CP_CAP_CFG_CHMASK.ix k 0x40)) c)).length

/-- Byte address of record r of a capture. -/
def State.recAddr (s : State) (k r : Nat) : Nat :=
  let z := s.capSize k
  let per := 2048 / z
  0x34000000 + 0x2000 * (s.capt k).segs.getD (r / per) 0 + r % per * (4 * z)

/-- The trigger condition of a record (R276). -/
def State.capTrig (s : State) (k : Nat) (abandoned : Bool) (v : Word) : Bool :=
  let c := s.capt k
  let lvl := (s.word pkCp (CP_CAP_TLEVEL.ix k 0x40)).toNat
  let lt (a b : Nat) : Bool := !(fIsNan f32 a) && !(fIsNan f32 b) && flt f32 a b
  let le (a b : Nat) : Bool := !(fIsNan f32 a) && !(fIsNan f32 b) && !(flt f32 b a)
  match s.fld pkCp (CP_CAP_CFG_TRIG.ix k 0x40), c.prev with
  | 0, _ => c.force
  | 1, some p => !abandoned && lt p.toNat lvl && le lvl v.toNat
  | 2, some p => !abandoned && lt lvl p.toNat && le v.toNat lvl
  | 3, _ => c.pennant
  | _, _ => false

/-- One record is written (R275) and the trigger judged. -/
def State.capRecord (s : State) (k : Nat) (r : Run) (abandoned : Bool) : State :=
  let c := s.capt k
  let cap := s.fld pkCp (CP_CAP_CAP_N.ix k 0x40)
  let mask := s.fld pkCp (CP_CAP_CFG_CHMASK.ix k 0x40)
  let chans := (List.range 8).filter (fun i => bitN mask i)
  let val (ch : Nat) : Word := if abandoned then 0x7FC00000#32 else tget 0#32 r.stCap ch
  let tch := val (s.fld pkCp (CP_CAP_CFG_TCH.ix k 0x40))
  let armed := s.capState k == 2
  let trig := armed && s.capTrig k abandoned tch
  let idx := c.written % cap
  let a := s.recAddr k idx
  let head := r.tick % 16777216 + 0x80000000 * b2n abandoned + 0x40000000 * b2n trig
  let s := s.setM32 a (BitVec.ofNat 32 head)
  let s := (List.range chans.length).foldl (fun s i => s.setM32 (a + 4 + 4 * i) (val (chans.getD i 0))) s
  let s := s.setFld pkCp (CP_CAP_COUNT_N.ix k 0x40) (s.fld pkCp (CP_CAP_COUNT_N.ix k 0x40) + 1)
  let c1 := { c with written := c.written + 1, force := false, pennant := false, prev := if abandoned then c.prev else some tch }
  if trig then
    let short := decide (c.written < c.pre)
    let s := ((s.setCapt k { c1 with after := 0 }).setCapState k 3).setFld pkCp (CP_CAP_TRIGREC_N.ix k 0x40) idx
    let s := (s.setBit pkCp (CP_CAP_STAT_PRE_SHORT.ix k 0x40) short).setFld pkCp (CP_CAP_FIRST_N.ix k 0x40)
      (if short then 0 else (idx + cap - c.pre) % cap)
    let s := s.irq pkCp (16 + k)
    if cap - c.pre - 1 = 0 then (s.setCapState k 4).irq pkCp (8 + k) else s
  else if s.capState k = 3 then
    let s := s.setCapt k { c1 with after := c.after + 1 }
    if cap - c.pre - 1 ≤ c.after + 1 then (s.setCapState k 4).irq pkCp (8 + k) else s
  else s.setCapt k c1

/-- A run of group g of engine k ends, committed or abandoned: every DEC-th release is recorded (R275). -/
def State.capRun (s : State) (k g : Nat) (r : Run) (abandoned : Bool) : State :=
  let c := s.capt k
  let st := s.capState k
  if (st != 2 && st != 3) || s.fld pkCp (CP_CAP_CFG_GRP.ix k 0x40) != g || !(s.busy pkCp) then s
  else
    let n := c.dec + 1
    if n < s.fld pkCp (CP_CAP_CFG_DEC.ix k 0x40) then s.setCapt k { c with dec := n }
    else (s.setCapt k { c with dec := 0 }).capRecord k r abandoned

/-- Engine k leaves RUN, or the pool drains: a capture in progress is cut (R274). -/
def State.capCut (s : State) (k : Nat) : State :=
  match s.capState k with
  | 2 => (s.setCapState k 1).setBit pkCp (CP_CAP_STAT_CUT.ix k 0x40) true
  | 3 => (s.setCapState k 4).setBit pkCp (CP_CAP_STAT_CUT.ix k 0x40) true
  | _ => s

/-! ### Abandonment (R217) -/

/-- Why a run ends without committing; `silent` without count or pennant (R212, R226, R227). -/
inductive Abandon
  | late | stale | nonFinite | ecc | silent
  deriving DecidableEq, Repr

/-- A run is abandoned: staging discarded, counts and pennants of R217 (log entry 27). -/
def State.dropRun (s : State) (k g : Nat) (why : Abandon) : State :=
  let r : Run := tget {} (s.eng k).runs g
  let s := s.setEng k { s.eng k with runs := tdel (s.eng k).runs g }
  let s := s.capRun k g r true
  let pk := pkCe k
  let src := 0x080 + k
  let abnd (s : State) (kind lvl : Nat) : State :=
    let s := ((s.cntS pk (CE_GRP_FLAGS_CONS_ABND.ix g 16)).cntS pk (CE_GRP_CNT_ABANDON.ix g 16)).irq pk 9
    let n := s.fld pk (CE_GRP_FLAGS_CONS_ABND.ix g 16)
    if n = 3 then s.raise src 0x06 2 else if kind = 0 then s else s.raise src kind lvl
  let s := match why with
    | .late =>
      let s := ((s.cntS pk (CE_GRP_FLAGS_CONS_LATE.ix g 16)).cntS pk (CE_GRP_CNT_LATE.ix g 16)).irq pk 8
      s.raise src 0x05 (if s.fld pk (CE_GRP_FLAGS_CONS_LATE.ix g 16) = 3 then 2 else 0)
    | .stale => abnd s 0x06 0
    | .nonFinite => abnd (s.setBit pk (CE_GRP_FLAGS_NF.ix g 16) true) 0x06 1
    | .ecc => abnd s 0 0
    | .silent => s
  s.xchkMark k g true

/-- A run of the engine is abandoned, and the next ready group starts (R217). -/
def State.abandonRun (s : State) (k g : Nat) (why : Abandon) : State := (s.dropRun k g why).startTop k

/-- Every open run is abandoned without count or pennant. -/
def State.abandonAll (s : State) (k : Nat) : State :=
  (forL (s.eng k).runs (fun x s => s.dropRun k x.1 .silent) s).refreshOpen k

/-- The three references go to +0.0 A (R226, R227). -/
def State.zeroRefs (s : State) (k : Nat) : State := forN 3 (fun j s => s.setWord (pkCe k) (CE_REF.ix j) 0#32) s

/-! ### Injection generators (R272, R273) -/

def State.ijGen (s : State) (k : Nat) : Nat := s.fld (pkIj k) IJ_STAT_GEN

/-- The generator enters a state; its page is in RUN only with it. -/
def State.ijGo (s : State) (k x : Nat) : State :=
  let s := s.setFld (pkIj k) IJ_STAT_GEN x
  if x = 2 then (if s.st (pkIj k) == .idle then s.setSt (pkIj k) .run else s)
  else if s.st (pkIj k) == .run then s.setSt (pkIj k) .idle else s

/-- CEk leaves RUN, or the generator's page is disabled: IDLE with output +0.0 at once (R272). -/
def State.ijAbort (s : State) (k : Nat) : State :=
  if s.ijGen k = 0 then s
  else
    let s := ((s.ijGo k 0).setWord (pkIj k) IJ_SAMPLE 0#32).setBit (pkIj k) IJ_STAT_ABORTED true
    let e := s.eng k
    (s.setInj k {}).setEng k { e with runs := e.runs.map (fun x => (x.1, { x.2 with inj := 0#32 })) }

/-- The sample x(n) before its clamp (R273). -/
def State.ijWave (s : State) (k : Nat) : Nat :=
  let pk := pkIj k
  let n := (s.inj k).n
  let amp := (s.word pk IJ_AMP).toNat
  let par (i : Nat) : Nat := (s.word pk (IJ_PAR.ix i)).toNat
  match s.fld pk IJ_CFG_WAVE with
  | 1 => if par 0 % 16777216 ≤ n then amp else 0
  | 2 => (fmul f32 amp (Config.sinTurn (s.inj k).ph.toNat (2 ^ 32))).1
  | 3 =>
    let hold := max 1 (par 1 % 256)
    if Config.prbs (par 0 % 8) (par 2 % 2 ^ 31) (n / hold) then amp else fnegP f32 amp
  | 4 =>
    let nper := max 2 (par 0 % 65536)
    let comps := (List.range 8).filter (fun i => s.fld pk (IJ_MSC_HARM.ix i) != 0)
    let term (i : Nat) : Nat :=
      let q := s.fld pk (IJ_MSC_HARM.ix i) * (n % nper) % nper
      (fmul f32 (fofInt f32 (s.fld pk (IJ_MSC_WEIGHT.ix i))).1
        (Config.sinTurn ((q * 65536 + s.fld pk (IJ_MSC_PHASE.ix i) * nper) % (nper * 65536)) (nper * 65536))).1
    let sum := comps.foldl (fun acc i => (fadd f32 acc (term i)).1) 0
    let wsum := comps.foldl (fun acc i => acc + s.fld pk (IJ_MSC_WEIGHT.ix i)) 0
    if comps.isEmpty then 0 else (fdiv f32 (fmul f32 amp sum).1 (fofInt f32 wsum).1).1
  | _ => 0

/-- A binary32 value clamped to ±lim. -/
def clampF (v lim : Nat) : Nat :=
  if fIsNan f32 v then v
  else if flt f32 lim v then lim else if flt f32 v (fnegP f32 lim) then fnegP f32 lim else v

/-- The chirp's phase step round_even(f(n) × PERIOD × 2^32) (R273), exact but for the one rounding. -/
def State.chirpStep (s : State) (k : Nat) : Int :=
  let pk := pkIj k
  let n := (s.inj k).n
  let dur := s.fld pk IJ_DUR_N
  let val (i : Nat) : Int := match fdec f32 (s.word pk (IJ_PAR.ix i)).toNat with
    | .fin ng m e => (if ng then -1 else 1) * (m * 2 ^ (e + 149).toNat : Nat)
    | _ => 0
  let f := val 0 * dur + (val 1 - val 0) * n
  rneDivI (f * (s.fld (pkCe 0) CE_TICK_CFG_PERIOD) * 2 ^ 32) (dur * 1000000 * 2 ^ 149)

/-- The generator at a base-tick boundary (R272, R273): it starts, advances or ends. -/
def State.ijTick (s : State) (k tickNo : Nat) : State :=
  let pk := pkIj k
  let x := s.inj k
  let sample (s : State) : State :=
    (s.setWord pk IJ_SAMPLE (BitVec.ofNat 32 (clampF (s.ijWave k) (s.word pk IJ_LIMIT).toNat))).setFld pk IJ_ELAPSED_N (s.inj k).n
  match s.ijGen k with
  | 1 =>
    if x.stopReq then (s.setInj k {}).ijGo k 0
    else if x.late || decide ((s.word pk IJ_START_TICK).toNat = tickNo) then sample ((s.setInj k {}).ijGo k 2)
    else s
  | 2 =>
    if x.stopReq || decide (s.fld pk IJ_DUR_N ≤ x.n + 1) then
      ((s.setInj k {}).ijGo k 0).setWord pk IJ_SAMPLE 0#32
    else
      let ph := if s.fld pk IJ_CFG_WAVE = 2 then x.ph + BitVec.ofInt 32 (s.chirpStep k) else x.ph
      sample (s.setInj k { x with n := x.n + 1, ph := ph })
  | _ => s

/-! ### Swell tables (R263-R269) -/

def swBin (k j b : Nat) : Nat := 0x33000000 + 0x4000 * k + 0x1000 * j + 4 * b
def swKey (k j : Nat) : Nat := 4 * k + j

def State.swGuard (s : State) (k j : Nat) : Bool := s.bit (pkSw k) (SW_TBL_STAT_GUARD.ix j 0x40)

/-- S of a table, recomputed from its bins in ascending order, binary64 (R267). -/
def State.swSum (s : State) (k j : Nat) : Nat :=
  (List.range 1024).foldl (fun acc b =>
    let v := (fconv f32 f64 (s.m32 (swBin k j b)).toNat).1
    (fadd f64 acc (fmul f64 v v).1).1) 0

/-- The RMS of a sum S, binary32 (R266). -/
def rmsOf (sum : Nat) : Nat := (fconv f64 f32 (fsqrt f64 (fmul f64 sum 0x3F50000000000000).1).1).1

/-- S and TBLj_RMS are recomputed. -/
def State.swRecompute (s : State) (k j : Nat) : State :=
  let sum := s.swSum k j
  (s.setSwt (swKey k j) { s.swt (swKey k j) with sum := sum }).setWord (pkSw k) (SW_TBL_RMS.ix j 0x40) (BitVec.ofNat 32 (rmsOf sum))

/-- A table is cleared at a boundary (R269). -/
def State.swClear (s : State) (k j : Nat) : State :=
  let s := { s with mem := mzero s.mem (swBin k j 0) 0x1000 }
  let s := (s.setSwt (swKey k j) {}).setBit (pkSw k) (SW_TBL_STAT_GUARD.ix j 0x40) false
  s.setWord (pkSw k) (SW_TBL_RMS.ix j 0x40) 0#32

/-- ef of every table of an engine goes to +0.0 (R269). -/
def State.swEfZero (s : State) (k : Nat) : State :=
  forN 4 (fun j s => s.setSwt (swKey k j) { s.swt (swKey k j) with ef := 0#32 }) s

/-- A reduced to [0, 2 pi) or [-pi, pi) by R617, with its flags. -/
def fwrap (a : Nat) (sym : Bool) : FRes :=
  match fdec f32 a with
  | .fin n m e =>
    let p : Int := 0xC90FDAA22168C235 * 2 ^ 88
    let v : Int := if n then -(m * 2 ^ (e + 149).toNat : Nat) else (m * 2 ^ (e + 149).toNat : Nat)
    let r0 := v % p
    let r := if sym && decide (p ≤ 2 * r0) then r0 - p else r0
    if r = 0 then (0, {})
    else
      let x := fround f32 (decide (r < 0)) r.natAbs 1 (-149)
      if !sym && x.1 = 0x40C90FDB then (0, x.2)
      else if sym && x.1 = 0x40490FDB then (0xC0490FDB, x.2)
      else x
  | _ => (f32.nanPat, { nv := true })

/-- Place of an angle in a table (R207): bin and fraction, from the reduced angle. -/
def binOf (red : Nat) : Nat × Nat :=
  let f := (fmul f32 (fdiv f32 red twoPi32).1 0x44800000).1
  match fdec f32 f with
  | .fin _ m e =>
    let i := if 0 ≤ e then m * 2 ^ e.toNat else m / 2 ^ (-e).toNat
    (i, (fsub f32 f (fofInt f32 i).1).1)
  | _ => (0, f32.nanPat)

/-- The value SWL returns for a reduced angle, with its flags (R207, R263, R268). -/
def State.swLookup (s : State) (k j red : Nat) : FRes :=
  let off := !(s.bit (pkSw k) (SW_TBL_CFG_USE.ix j 0x40)) || s.st (pkSw k) == .fault || s.st (pkSw k) == .test
    || (s.bit (pkSw k) (SW_TBL_CFG_GUARD_ZERO.ix j 0x40) && s.swGuard k j)
  if off then (0, {})
  else
    let (i, r) := binOf red
    let t (b : Nat) : Nat := (s.m32 (swBin k j (b % 1024))).toNat
    let d := fsub f32 (t (i + 1)) (t i)
    let x := ffma f32 r d.1 (t i)
    (x.1, ((fdiv f32 red twoPi32).2).or (d.2.or x.2))

/-- One bin learns (R266): answers the state with the bin stored and S adjusted. -/
def State.swBinLearn (s : State) (k j b wt g kappa bmax : Nat) : State :=
  let old := (s.m32 (swBin k j b)).toNat
  let t0 := (ffma f32 wt (ffma f32 (fnegP f32 kappa) old g).1 old).1
  let big := !(fIsNan f32 t0) && flt f32 bmax (fabsP t0)
  let t := if big then bmax + t0 / 0x80000000 * 0x80000000 else t0
  let sq (v : Nat) : Nat := let d := (fconv f32 f64 v).1; (fmul f64 d d).1
  let x := s.swt (swKey k j)
  let sum := (fadd f64 (fsub f64 x.sum (sq old)).1 (sq t)).1
  let s := ((s.setM32 (swBin k j b) (BitVec.ofNat 32 t)).setSwt (swKey k j) { x with sum := sum }).stepMark (swBin k j b)
  if big then s.cntS (pkSw k) (SW_TBL_CNT_CLAMPED.ix j 0x40) else s

/-- The learning law at commit, for one staged sample (R266-R268). -/
def State.swLearn (s : State) (k : Nat) (r : Run) (j : Nat) (a e : Word) : State :=
  let pk := pkSw k
  let rg (f : Field) : Nat := (s.word pk (f.ix j 0x40)).toNat
  let x := s.swt (swKey k j)
  let sp := r.speeds.getD (s.fld pk (SW_TBL_CFG_SPD_SC.ix j 0x40)) (0#32, true)
  let w := (fmul f32 sp.1.toNat (rg SW_TBL_SPD_MUL)).1
  let skip := sp.2 || fIsNan f32 w || flt f32 (fabsP w) (rg SW_TBL_WMIN) || flt f32 (rg SW_TBL_WMAX) (fabsP w)
  let ef := (ffma f32 (rg SW_TBL_ALPHA) (fsub f32 e.toNat x.ef.toNat).1 x.ef.toNat).1
  if !(s.bit pk (SW_TBL_CFG_LRN.ix j 0x40)) || s.swGuard k j || !(s.running pk) then s
  else if !(fIsFinite f32 e.toNat) then s
  else if skip then
    let s := (s.setSwt (swKey k j) { x with ef := 0#32 }).cntS pk (SW_TBL_CNT_FROZEN.ix j 0x40)
    (s.setBit pk (SW_TBL_STAT_FROZEN.ix j 0x40) true).setBit pk (SW_TBL_STAT_LEARNED.ix j 0x40) false
  else
    let s := s.setSwt (swKey k j) { x with ef := BitVec.ofNat 32 ef }
    let (i, fr) := binOf (fwrap a.toNat false).1
    let lead := s.fld pk (SW_TBL_CFG_LEAD.ix j 0x40)
    let pos := !(flt f32 w 0)
    let b0 := if pos then (i + 1024 - lead) % 1024 else (i + lead) % 1024
    let g := (fmul f32 (rg SW_TBL_GAIN) ef).1
    let kappa := (fsub f32 0x3F800000 (rg SW_TBL_LAMBDA)).1
    let s := s.swBinLearn k j b0 (fsub f32 0x3F800000 fr).1 g kappa (rg SW_TBL_BMAX)
    let s := s.swBinLearn k j ((b0 + 1) % 1024) fr g kappa (rg SW_TBL_BMAX)
    let s := s.cntW pk (SW_TBL_UPDATES_N.ix j 0x40)
    let s := (s.setBit pk (SW_TBL_STAT_FROZEN.ix j 0x40) false).setBit pk (SW_TBL_STAT_LEARNED.ix j 0x40) true
    let rms := rmsOf (s.swt (swKey k j)).sum
    let s := s.setWord pk (SW_TBL_RMS.ix j 0x40) (BitVec.ofNat 32 rms)
    let s := if s.fld pk (SW_TBL_UPDATES_N.ix j 0x40) % 65536 = 0 then s.swRecompute k j else s
    if !(fIsNan f32 rms) && flt f32 (rg SW_TBL_RMSLIM) rms then
      ((s.setBit pk (SW_TBL_STAT_GUARD.ix j 0x40) true).irq pk (8 + j)).raise (0x086 + k) 0x06 1
    else s

/-! ### What page states do to an engine (R226-R228, R269, R274) -/

/-- The engine leaves RUN: captures cut, the generator aborted. -/
def State.ceLeaves (s : State) (k : Nat) : State := (s.capCut k).ijAbort k

/-- The engine goes to OFF, FAULT or TEST: open runs abandoned without count, references at +0.0 A, the published angle stale. -/
def State.ceStop (s : State) (k : Nat) (dest : PageSt) : State :=
  let s := ((s.when (s.running (pkCe k)) (fun s => s.ceLeaves k)).abandonAll k).zeroRefs k
  let s := s.setEng k { s.eng k with pubStale := true }
  if dest = .fault then s.swEfZero k else s

/-- BR of an engine: P reloaded from the initial-state image, except from OFF and after a test (R227, R228). -/
def State.ceReinit (s : State) (k : Nat) : State :=
  let st := s.st (pkCe k)
  let s := s.swEfZero k
  if st = .off ∨ st = .test then s
  else { s with mem := mcopy s.mem (ceImgAddr k 0) (cePAddr k 0) 0x400 }

end Sys2Proof.Machine
end

