-- ==== Sys2Proof/Machine/Gate.lean ====
section
/-!
DEFINITION. Machine/Gate.lean: the shared operations of gate legs, bridges and isolation switches (R286-R310, R400).
-/
namespace Sys2Proof.Machine

def State.leg (s : State) (k : Nat) : Leg := tget {} s.legs k
def State.setLeg (s : State) (k : Nat) (l : Leg) : State := { s with legs := tput s.legs k l }

/-- The present time in taps of 156.25 ps (R72). -/
def State.tapNow (s : State) : Nat := 16 * s.cyc

/-- A tap time as the delay line places it: on whole GT cycles while tap codes are forced to 0 (R73). -/
def State.placed (s : State) (t : Nat) : Nat := if s.pw.tapsForced then t / 16 * 16 else t

/-- The bridge of a phase (R284). -/
abbrev bridgeOf (k : Nat) : Nat := k / 3

/-- Insert a placed action in time order. -/
def insertAct (a : SwitchAct) : List SwitchAct → List SwitchAct
  | [] => [a]
  | b :: t => if a.time < b.time then a :: b :: t else b :: insertAct a t

/-- GB.STAT.LEGFLT: bit j, leg 3m + j latched or in FAULT (R317). -/
def State.legflt (s : State) (m : Nat) : Nat :=
  let f (j : Nat) : Nat := b2n ((s.leg (3 * m + j)).latch == .latch || s.st (pkGl (3 * m + j)) == .fault) * 2 ^ j
  f 0 + f 1 + f 2

/-- What the leg drives: 0 both off, 1 low on, 2 high on; the readback follows the drive (log entry 21). -/
def State.drive (s : State) (k o : Nat) : State :=
  ((s.setFld (pkGl k) GL_STAT_OUT o).setBit (pkGl k) GL_STAT_GH_ON (o == 2)).setBit (pkGl k) GL_STAT_GL_ON (o == 1)

/-- STAT.DT_OPEN and STAT.REFRESH follow the placed actions. -/
def State.legDone (s : State) (k : Nat) : State :=
  if (s.leg k).acts.isEmpty then (s.setBit (pkGl k) GL_STAT_DT_OPEN false).setBit (pkGl k) GL_STAT_REFRESH false
  else s.setBit (pkGl k) GL_STAT_DT_OPEN true

/-- Both switches of a leg are commanded off at once; placed actions are dropped. -/
def State.legOff (s : State) (k : Nat) : State :=
  let l := s.leg k
  let o := s.fld (pkGl k) GL_STAT_OUT
  let now := s.tapNow
  (((s.setLeg k { l with
    acts := [], shortOn := false, word := none
    tHoff := if o = 2 then some now else l.tHoff
    tLoff := if o = 1 then some now else l.tLoff }).drive k 0).legDone k)

/-- Dead time of a leg in taps (R289). -/
def State.dtTaps (s : State) (k : Nat) : Nat := 16 * s.fld (pkGl k) GL_DT_V

/-- One placed action takes effect (R287, R288); a switch takes its detector and BOOT fields as it turns on (R310). -/
def State.act (s : State) (k : Nat) (a : SwitchAct) : State :=
  let l := s.leg k
  let o := s.fld (pkGl k) GL_STAT_OUT
  let cfg := (s.word (pkGl k) GL_DIDT, s.word (pkGl k) GL_VDS, s.word (pkGl k) GL_BOOT)
  if a.on then (s.setLeg k (if a.high then { l with cfgH := cfg } else { l with cfgL := cfg })).drive k (if a.high then 2 else 1)
  else if a.high then
    let s1 := s.setLeg k { l with tHoff := some a.time }
    if o = 2 then s1.drive k 0 else s1
  else
    let s1 := s.setLeg k { l with tLoff := some a.time }
    if o = 1 then s1.drive k 0 else s1

/-- A new single-switch or off command from the switch states as they stand (R287, R288): pending turn-ons are cancelled,
turn-offs act at ta, a turn-on at max(ta, partner off + DT). -/
def State.applyCmd (s : State) (k cmd ta : Nat) : State :=
  let l := s.leg k
  let dt := s.dtTaps k
  let o := s.fld (pkGl k) GL_STAT_OUT
  let after (t : Option Nat) : Nat := match t with | some x => max ta (x + dt) | none => ta
  let keep := l.acts.filter (fun a => !a.on)
  let offH : List SwitchAct := if o = 2 then [⟨ta, true, false⟩] else []
  let offL : List SwitchAct := if o = 1 then [⟨ta, false, false⟩] else []
  let new : List SwitchAct :=
    match cmd with
    | 1 => if o = 1 then [] else if o = 2 then offH ++ [⟨ta + dt, false, true⟩] else [⟨after l.tHoff, false, true⟩]
    | 2 => if o = 2 then [] else if o = 1 then offL ++ [⟨ta + dt, true, true⟩] else [⟨after l.tLoff, true, true⟩]
    | _ => offH ++ offL
  (s.setLeg k { l with acts := new.foldl (fun acc a => insertAct a acc) keep }).legDone k

/-- A leg latches with a cause (R302): both switches off, the latch set. -/
def State.latchLeg (s : State) (k : Nat) : State :=
  let s1 := s.legOff k
  ((s1.setLeg k { s1.leg k with latch := .latch }).setBit (pkGl k) GL_STAT_LATCHED true).setBit (pkGl k) GL_STAT_WAIT_EDGE false

/-- The leg at the bridge idle of its GB page (R292): active short turns the low side on, a latched or faulted leg and
all-off stay off. -/
def State.legBridgeIdle (s : State) (k : Nat) : State :=
  let m := bridgeOf k
  if s.running (pkGb m) && s.bit (pkGb m) GB_CFG_IDLE && (s.leg k).latch == .none && s.st (pkGl k) != .fault then
    s.applyCmd k 1 s.tapNow
  else s.legOff k

/-! ### Isolation switches (R308): 0 OPEN, 1 CLOSING, 2 CLOSED, 3 WAIT_I, 4 OPENING -/

def State.sw (s : State) (k : Nat) : Nat := s.fld (pkIs k) IS_STAT_SW

/-- The switch enters a state; the page is in RUN in every state but OPEN. -/
def State.setSw (s : State) (k x : Nat) : State :=
  let s1 := s.setFld (pkIs k) IS_STAT_SW x
  let s2 := (s1.setBit (pkIs k) IS_STAT_VGS_ON (x == 2 || x == 3)).setBit (pkIs k) IS_STAT_VGS_OFF (x == 0)
  if x = 0 then (if s2.st (pkIs k) == .run then s2.setSt (pkIs k) .idle else s2)
  else if s2.st (pkIs k) == .idle then s2.setSt (pkIs k) .run else s2

/-- The switch opens without waiting for current: from CLOSING, CLOSED and WAIT_I (R308). -/
def State.swOpenNow (s : State) (k : Nat) : State :=
  if s.sw k = 1 ∨ s.sw k = 2 ∨ s.sw k = 3 then s.setSw k 4 else s

/-- The close permit of a switch falls. -/
def State.dropPermit (s : State) (k : Nat) : State := (s.setBit (pkIs k) IS_STAT_PERMIT false).swOpenNow k

/-- The switch starts closing, from OPEN with the page enabled (R308). -/
def State.swClose (s : State) (k : Nat) : State :=
  if s.sw k = 0 ∧ s.st (pkIs k) = .idle then s.setSw k 1 else s

/-- The page enters IDLE from OFF, FAULT or TEST: with AUTO and the permit present the switch closes (R308). -/
def State.isIdle (s : State) (k : Nat) : State :=
  if s.bit (pkIs k) IS_CFG_AUTO && s.bit (pkIs k) IS_STAT_PERMIT then s.swClose k else s

/-! ### Bridge cuts (R293) and stops (R291) -/

/-- The GB and GL pages of a bridge leave RUN: every gate off (R291). -/
def State.bridgeStop (s : State) (m : Nat) : State :=
  let legs := [3 * m, 3 * m + 1, 3 * m + 2]
  let s := forL legs (fun k s => s.legOff k) s
  let s := forL legs (fun k s => if s.running (pkGl k) then s.setSt (pkGl k) .idle else s) s
  if s.running (pkGb m) then s.setSt (pkGb m) .idle else s

/-- A GL page enters RUN: a bootstrap UVLO still present latches the leg (R296). -/
def State.legStart (s : State) (k : Nat) : State :=
  if s.bit (pkGl k) GL_STAT_BST_UV then
    (((s.latchLeg k).setBit (pkGl k) GL_FLT_BST_UV true).cntS (pkGl k) GL_CNT_BST_UV).irq (pkGl k) 9
      |>.raise (0x0A0 + k) 0x07 1
  else s

/-- The GB page starts where the enable is present and VGD is above the UVLO; its GL pages start with it (R291), and a leg whose page
is not in RUN goes to the bridge idle (R292). -/
def State.bridgeStart (s : State) (m : Nat) : State :=
  let legs := [3 * m, 3 * m + 1, 3 * m + 2]
  let s := if s.st (pkGb m) = .idle ∧ s.bit (pkGb m) GB_STAT_EN_SW ∧ ¬ s.bit (pkGb m) GB_STAT_VGD_UV
    then s.setSt (pkGb m) .run else s
  if s.running (pkGb m) then
    forL legs (fun k s =>
      if s.st (pkGl k) = .idle then (s.setSt (pkGl k) .run).legStart k
      else if s.st (pkGl k) = .off then s.legBridgeIdle k
      else s) s
  else s

/-- A Seawall cut of bridge m in the OPEN or the SHORT form (R293, R294, R310). -/
def State.cutBridge (s : State) (m : Nat) (short : Bool) : State :=
  let legs := [3 * m, 3 * m + 1, 3 * m + 2]
  let s := s.bridgeStop m
  let s := forL legs (fun k s => s.setBit (pkGl k) GL_STAT_EN_SW false) s
  let s := ((s.setBit (pkGb m) GB_STAT_EN_SW false).setBit (pkGb m) GB_STAT_CUT true).setBit (pkGb m) GB_STAT_CUT_FORM short
  let s := (s.cntS (pkGb m) GB_CNT_CUTS).irq (pkGb m) 9
  if short then
    forL legs (fun k s =>
      if (s.leg k).latch == .latch || s.st (pkGl k) == .fault then s
      else
        (s.setLeg k { s.leg k with acts := [⟨s.tapNow + s.dtTaps k, false, true⟩], shortOn := true }).legDone k) s
  else forL legs (fun k s => s.dropPermit k) s

end Sys2Proof.Machine
end

