-- ==== Sys2Proof/Machine/IfaceBase.lean ====
section
/-!
DEFINITION. Machine/IfaceBase.lean: the CAN, SPI and SAR blocks in the state, and a SAR converter that stops (R53, R514).
-/
namespace Sys2Proof.Machine

def State.canOf (s : State) (k : Nat) : Can := tget {} s.can k
def State.setCan (s : State) (k : Nat) (c : Can) : State := { s with can := tput s.can k c }
def State.spiOf (s : State) (k : Nat) : Spi := tget {} s.spi k
def State.setSpi (s : State) (k : Nat) (c : Spi) : State := { s with spi := tput s.spi k c }
def State.sarOf (s : State) (k : Nat) : Sar := tget {} s.sar k
def State.setSar (s : State) (k : Nat) (c : Sar) : State := { s with sar := tput s.sar k c }

/-- Results of a converter whose page leaves RUN are stale (R53). -/
def State.sarStop (s : State) (k : Nat) : State :=
  forN 16 (fun i s => s.setBit (pkGa k) (GA_RES_STALE.ix i) true) (s.setSar k {})

end Sys2Proof.Machine
end

