-- ==== Sys2Proof/Machine/Loop.lean ====
section
/-!
DEFINITION. Machine/Loop.lean: the hysteretic current loops and the three-phase coordinators: one decision of all of them
(R236-R255).
-/
namespace Sys2Proof.Machine

def State.loop (s : State) (k : Nat) : Loop := tget {} s.loops k
def State.setLoop (s : State) (k : Nat) (l : Loop) : State := { s with loops := tput s.loops k l }

/-- The present decision's time in taps. -/
def State.dn (s : State) : Int := 1280 * s.dec

/-! ### Windows and times -/

/-- T_min of a bridge in taps (R243). -/
def State.tminOf (s : State) (m : Nat) : Nat :=
  let f := s.fld (pkHc m) HC_FWIN_FMAX
  (32000000 + f - 1) / f

/-- T_min of a leg: DT + 200 ns where the dead time is not less (R243). -/
def State.legTmin (s : State) (k : Nat) : Nat :=
  let t := s.tminOf (bridgeOf k)
  let dt := s.dtTaps k
  if t ≤ dt then dt + 1280 else t

/-- dtx of an edge to `high` at a current i in 1/256 codes (R240), in taps. -/
def State.dtx (s : State) (k : Nat) (high : Bool) (i : Int) : Nat :=
  let zc : Int := 256 * s.fld (pkHl k) HL_PRED_ZC
  let dt := s.dtTaps k
  if zc < i then (if high then dt else 0) else if i < -zc then (if high then 0 else dt) else dt / 2

/-- When an edge issued now at placement p takes effect (R239). -/
def State.effAt (s : State) (k : Nat) (high : Bool) (p : Nat) (i : Int) : Int :=
  s.dn + p + 48 + 16 * s.fld (pkHl k) HL_PRED_TGATE + s.dtx k high i

/-! ### Reference and sample (R238, R254) -/

/-- A finite binary32 value over 2^-149. -/
def f32Int (w : Word) : Int :=
  match fdec f32 w.toNat with
  | .fin n m e => (if n then -1 else 1) * (m * 2 ^ (e + 149).toNat : Nat)
  | _ => 0

/-- The limit of a phase's reference code: ±0.9 FS (R238), and in Lee mode half the bridge's rated current as well (R552). -/
def State.refLimit (s : State) (k : Nat) : Int :=
  if s.bit pkWg WG_STAT_LEE then
    let ir := f32Int (s.sea.mf.leeIrated.getD (bridgeOf k) 0#32)
    min 29491 (rneDivI (ir * 16384) (f32Int (s.word (pkCs k) CS_SCALE)).natAbs).natAbs
  else 29491

/-- The reference code of a phase (R238, R552). -/
def State.refCode (s : State) (k : Nat) : Int :=
  let ref := f32Int (s.word (pkCe (bridgeOf k)) (CE_REF.ix (k % 3)))
  let sc := f32Int (s.word (pkCs k) CS_SCALE)
  clampI (-(s.refLimit k)) (s.refLimit k) (rneDivI (ref * 32768) sc.natAbs)

/-- The fast sample of a phase (R141). -/
def State.fastUse (s : State) (k : Nat) : FastUse × Bool :=
  let w := s.word (pkCs k) CS_FAST
  let stale := fget CS_FAST_STALE w == 1
  (⟨sgn 16 (fget CS_FAST_CODE w), !stale && fget CS_FAST_CLIP w == 0, fget CS_FAST_RELIEF w == 1⟩, stale)

/-- The slope of a state. -/
def Loop.slope (l : Loop) (high : Bool) : Int := if high then l.sHigh else l.sLow

/-- The current a decision uses, in 1/256 codes: the sample, or the last valid one advanced at each decision since by the slope of
the state that the leg then had (R254). -/
def Loop.current (l : Loop) (u : FastUse) (stale : Bool) : Int :=
  if stale then l.cur + (match l.sig with | some h => l.slope h | none => 0) else 256 * u.code

/-! ### Prediction and request (R239, R242) -/

/-- A slope times a time in taps over 200 ns, in 2^-16 codes (R239). -/
def slopeTime (sl t : Int) : Int := rneDivI (sl * 256 * t) 1280

/-- The predicted current in 2^-16 codes, and te after its minimum (R239). -/
def State.predict (s : State) (k : Nat) (l : Loop) (sig : Bool) (i : Int) : Int × Int :=
  let ts := s.dn - 2192
  let teff := s.effAt k (!sig) 0 i
  let te := min l.te teff
  if !(s.bit (pkHl k) HL_CFG_PRED_EN) then (256 * i, te)
  else if te ≤ ts then (256 * i + slopeTime (l.slope sig) (teff - ts), te)
  else (256 * i + slopeTime (l.slope (!sig)) (te - ts) + slopeTime (l.slope sig) (teff - te), te)

/-- A request: the leg's new state and its placement. -/
structure Req where
  leg : Nat
  high : Bool
  p : Nat
  deriving DecidableEq, Repr

/-- The edge the loop asks for (R242): e and h in 2^-16 codes, the slope of the present state in 1/256. -/
def wantEdge (sig place : Bool) (e h sl : Int) : Option Nat :=
  let e := if sig then e else -e
  let sl := if sig then sl else -sl
  if h ≤ e then some 0
  else if place && decide (0 < sl ∧ h ≤ e + 256 * sl) then some (min 1279 ((h - e) * 1280 / (256 * sl)).toNat)
  else none

/-- R245: a placement that keeps T_min, or none where the request is refused. -/
def State.keepTmin (s : State) (k : Nat) (l : Loop) (p : Nat) : Option Nat :=
  match l.lastEdge with
  | none => some p
  | some t =>
    let least := t + s.legTmin k
    if least ≤ s.dn + p then some p
    else if least < s.dn + 1280 then some (least - s.dn).toNat
    else none

/-! ### Entering and leaving RUN (R252, R253) -/

/-- The isolation switch counts as closed (R308). -/
def State.swClosed (s : State) (k : Nat) : Bool := s.sw k == 2 || s.sw k == 3

/-- The first three conditions of R252. -/
def State.loopMay (s : State) (k : Nat) : Bool :=
  s.running (pkGb (bridgeOf k)) && s.bit (pkGl k) GL_STAT_EN_SW && (s.leg k).latch != .latch && s.swClosed k

/-- What a loop loses when it leaves RUN, whatever its page goes to. -/
def State.loopLeaves (s : State) (k : Nat) : State :=
  let l := s.loop k
  let s := s.setLoop k { l with sig := none, prev := none, age := 0, periodAt := none, periodOk := false, subst := false
                                deferred := false, lastEdge := none, brSince := false }
  ((s.setBit (pkHl k) HL_STAT_COAST false).setBit (pkHl k) HL_STAT_SUBST false).setBit (pkHl k) HL_STAT_REFUSING false

/-- The loop leaves RUN for IDLE. -/
def State.loopStop (s : State) (k : Nat) : State :=
  let s := s.loopLeaves k
  if s.running (pkHl k) then s.setSt (pkHl k) .idle else s

/-- The loop enters RUN (R253). -/
def State.loopStart (s : State) (k : Nat) : State :=
  let l := s.loop k
  let h := if l.brSince then 256 * s.fld (pkHl k) HL_HINIT_V else l.h
  (s.setLoop k { h := h, brSince := false, errRun := l.errRun, word := l.word }).setSt (pkHl k) .run

/-- The page states of a loop at a decision (R252). -/
def State.loopState (s : State) (k : Nat) : State :=
  if s.running (pkHl k) then (if s.loopMay k then s else s.loopStop k)
  else if s.st (pkHl k) == .idle && s.loopMay k && !(s.fastUse k).2 then s.loopStart k
  else s

/-- A coordinator's page at a decision (R252). -/
def State.coordState (s : State) (m : Nat) : State :=
  if s.running (pkHc m) && !(s.running (pkGb m)) then s.setSt (pkHc m) .idle
  else if s.st (pkHc m) == .idle && s.running (pkGb m) then s.setSt (pkHc m) .run
  else s

/-! ### The band (R244, R246, R247) -/

/-- h in force: HINIT with BAND_AUTO = 0 (R244). -/
def State.halfBand (s : State) (k : Nat) : Nat :=
  if s.bit (pkHl k) HL_CFG_BAND_AUTO then (s.loop k).h else 256 * s.fld (pkHl k) HL_HINIT_V

/-- The band update of R244 for a counted period of T taps, h and the limits in 1/256 codes. -/
def bandUpdate (h t ftgt ksh hmin hmax : Nat) : Nat :=
  let b (n : Nat) : Nat := (fofRat f32 n 256).1
  let mn (x y : Nat) : Nat := if flt f32 x y then x else y
  let mx (x y : Nat) : Nat := if flt f32 x y then y else x
  let tt := (fdiv f32 0x3F800000 (fofInt f32 (100 * ftgt)).1).1
  let d := (fdiv f32 (fsub f32 tt (fofRat f32 t 6400000000).1).1 tt).1
  let hn := (fadd f32 (b h) (fmul f32 (fmul f32 (b h) d).1 (fofRat f32 1 (2 ^ ksh)).1).1).1
  let hn := mn (mx hn (fofRat f32 h 512).1) (fofRat f32 h 128).1
  (ftoIntScaled f32 (mn (mx hn (b hmin)) (b hmax)) 8).toNat

/-- STAT.H, BAND_MIN and BAND_MAX follow h. -/
def State.showBand (s : State) (k : Nat) : State :=
  let h := s.halfBand k
  let atMax := decide (256 * s.fld (pkHl k) HL_BAND_HMAX ≤ h)
  let was := s.bit (pkHl k) HL_STAT_BAND_MAX
  let s := (s.setFld (pkHl k) HL_STAT_H (h / 256)).setBit (pkHl k) HL_STAT_BAND_MIN (decide (h ≤ 256 * s.fld (pkHl k) HL_BAND_HMIN))
  let s := s.setBit (pkHl k) HL_STAT_BAND_MAX atMax
  if atMax && !was then s.irq (pkHl k) 9 else s

/-- A counted period of T taps ends (R244, R246, R247). -/
def State.periodEnd (s : State) (k t : Nat) : State :=
  let pk := pkHl k
  let l := s.loop k
  let m := bridgeOf k
  let hmin := s.fld pk HL_BAND_HMIN
  let s := if s.bit pk HL_CFG_BAND_AUTO then
      s.setLoop k { l with h := bandUpdate l.h t (s.fld (pkHc m) HC_FWIN_FTGT) (s.fld pk HL_CFG_KSH) (256 * hmin) (256 * s.fld pk HL_BAND_HMAX) }
    else s
  let s := s.showBand k
  let s := (s.setFld pk HL_PERIOD_PEAK (min 65535 l.peak)).setFld pk HL_PERIOD_T (min 65535 (t / 640))
  let s := if 65535 ≤ t / 640 then s.modPage pk (fun p => { p with sat := true }) else s
  let low := decide (64000000 < t * s.fld (pkHc m) HC_FWIN_FMIN) && s.halfBand k == 256 * hmin
  let s := s.setBit pk HL_STAT_LOWF low
  let s := if low then (s.cntS pk HL_CNT2_LOWF).irq pk 10 else s
  if s.fld pk HL_ERRLIM_LIM < l.peak then
    let n := l.errRun + 1
    if s.fld pk HL_ERRLIM_ERRT ≤ n then
      (((s.setLoop k { s.loop k with errRun := 0 }).cntS pk HL_CNT2_ERRRUNS).irq pk 12).raise (0x040 + k) 0x06 1
    else s.setLoop k { s.loop k with errRun := n }
  else s.setLoop k { s.loop k with errRun := 0 }

/-! ### Edges -/

/-- A command word (R286). -/
def mkWord (edge : Bool) (cmd p : Nat) : BitVec 16 := BitVec.ofNat 16 (32768 * b2n edge + 2048 * cmd + p)

/-- An edge of a leg is issued: σ, te, the period, the word (R239, R242, R244, R245). -/
def State.issue (s : State) (k : Nat) (high : Bool) (p : Nat) (i : Int) (byCoord : Bool) : State :=
  let l := s.loop k
  let t := s.dn + p
  let rising := high && !byCoord
  let s := match l.periodAt with
    | some t0 =>
      let n := (t - t0).toNat
      if rising && l.periodOk && decide (n * s.fld (pkHc (bridgeOf k)) HC_FWIN_FMIN ≤ 128000000) then s.periodEnd k n else s
    | none => s
  let l := s.loop k
  let l := { l with sig := some high, te := s.effAt k high p i, lastEdge := some t, edgeDec := s.dec, subst := byCoord
                    word := mkWord true (if high then 2 else 1) p }
  let l := if rising then { l with periodAt := some t, periodOk := true, peak := 0 }
    else if byCoord then { l with periodOk := false } else l
  (s.setLoop k l).cntW (pkHl k) HL_EDGES_N

/-! ### The coordinator (R248-R250) -/

/-- Requests in the order of R248: legs deferred before, then by placement, ties by phase. -/
def insertReq (r : Req) : List Req → List Req
  | [] => [r]
  | x :: t => if r.p < x.p then r :: x :: t else x :: insertReq r t

def State.orderReqs (s : State) (rs : List Req) : List Req :=
  rs.filter (fun r => (s.loop r.leg).deferred)
    ++ (rs.filter (fun r => !(s.loop r.leg).deferred)).foldl (fun acc r => insertReq r acc) []

/-- Issued and deferred requests (R248). -/
def spreadReqs (maxe spread : Nat) : List Req → Option Nat → Nat → List Req × List Req
  | [], _, _ => ([], [])
  | r :: t, prev, n =>
    let p := match prev with | some q => max r.p (q + spread) | none => r.p
    if maxe ≤ n ∨ 1279 < p then
      let x := spreadReqs maxe spread t prev n
      (x.1, r :: x.2)
    else
      let x := spreadReqs maxe spread t (some p) (n + 1)
      ({ r with p := p } :: x.1, x.2)

/-- The bridge vector (R249). -/
def State.bridgeVec (s : State) (m : Nat) : Nat :=
  (List.range 3).foldl (fun n j => n + b2n ((s.loop (3 * m + j)).sig == some true) * 2 ^ j) 0

/-- Legs in which two vectors differ, ascending. -/
def vecDiff (a b : Nat) : List Nat := (List.range 3).filter (fun j => bitN a j != bitN b j)

/-- The substitution of R249: the opposite zero's edges, where one is to be made and can be. -/
def State.substitute (s : State) (m : Nat) (iss : List Req) : Option (List Req) :=
  let hc := pkHc m
  let spread := s.fld hc HC_CFG_SPREAD
  let sv := s.bridgeVec m
  let v := iss.foldl (fun n r => putBitN n (r.leg % 3) r.high) sv
  let zm := s.fld hc HC_CFG_ZMODE
  let opp := 7 - v
  let want := !iss.isEmpty && (v == 0 || v == 7) &&
    ((zm == 1 && decide ((vecDiff opp sv).length < (vecDiff v sv).length)) || (zm == 2 && v == 7))
  let first := iss.foldl (fun n r => min n r.p) 1279
  let legs := vecDiff opp sv
  let es := (List.range legs.length).map (fun i => (⟨3 * m + legs.getD i 0, bitN opp (legs.getD i 0), first + i * spread⟩ : Req))
  let ok := es.all (fun r => decide (r.p ≤ 1279) && s.running (pkHl r.leg) && (s.loop r.leg).sig.isSome
      && (s.keepTmin r.leg (s.loop r.leg) r.p) == some r.p)
    && decide (es.length ≤ s.fld hc HC_CFG_MAXE)
  if want && ok then some es else none

/-- The current of a loop at this decision, in 1/256 codes. -/
def State.loopCurrent (s : State) (k : Nat) : Int := (s.loop k).current (s.fastUse k).1 (s.fastUse k).2

/-- One coordinator's decision (R248-R250). -/
def State.coordinate (s : State) (m : Nat) (reqs : List Req) : State :=
  let hc := pkHc m
  let emit (byCoord : Bool) (rs : List Req) (s : State) : State :=
    forL rs (fun r s => s.issue r.leg r.high r.p (s.loop r.leg).cur byCoord) s
  let setDef (ds : List Req) (s : State) : State :=
    let s := forL [3 * m, 3 * m + 1, 3 * m + 2] (fun k s =>
      s.setLoop k { s.loop k with deferred := ds.any (fun r => r.leg == k) }) s
    let s := s.setFld hc HC_STAT_DEFERRED (ds.foldl (fun n r => n + 2 ^ (r.leg % 3)) 0)
    forL ds (fun _ s => s.cntS hc HC_CNT_DEFER) s
  let s :=
    if !(s.running hc) then setDef [] (emit false reqs s)
    else if s.bit hc HC_STAT_SWAP_BUSY && s.bridgeVec m == 7 then
      let sp := s.fld hc HC_CFG_SPREAD
      let es : List Req := (List.range 3).map (fun j => ⟨3 * m + j, false, min (j * sp) 1279⟩)
      let s := setDef reqs (emit true es s)
      (s.cntW hc HC_ZSWAPS_N).setBit hc HC_STAT_SWAP_BUSY false
    else
      let s := s.setBit hc HC_STAT_SWAP_BUSY false
      let x := spreadReqs (s.fld hc HC_CFG_MAXE) (s.fld hc HC_CFG_SPREAD) (s.orderReqs reqs) none 0
      let s := setDef x.2 s
      match s.substitute m x.1 with
      | some es => (emit true es s).cntS hc HC_CNT_ZSUB
      | none => emit false x.1 s
  (s.setFld hc HC_STAT_VEC (s.bridgeVec m)).setFld hc HC_TMIN_V (s.tminOf m)

/-! ### One decision -/

/-- A loop in RUN coasts on a stale sample, or leaves RUN when the limit has coasted (R254). -/
def State.loopCoast (s : State) (k : Nat) : State :=
  let pk := pkHl k
  if !(s.running pk) then s
  else
    let (_, stale) := s.fastUse k
    let l := s.loop k
    if !stale then s.setBit pk HL_STAT_COAST false
    else if s.fld pk HL_COAST_LIMIT ≤ l.age then ((s.loopStop k).irq pk 11).raise (0x040 + k) 0x05 1
    else (s.setBit pk HL_STAT_COAST true).cntS pk HL_CNT_COASTED

/-- What a loop in RUN asks for at this decision, with the state after its prediction and a refusal (R239-R245, R253). -/
def State.loopAsk (s : State) (k : Nat) : State × Option Req :=
  let pk := pkHl k
  if !(s.running pk) then (s, none)
  else
    let l := s.loop k
    let i := s.loopCurrent k
    let r := s.refCode k
    let s := s.setLoop k { l with cur := i }
    match l.sig with
    | none => (s, some ⟨k, decide (i < 256 * r), 0⟩)
    | some sig =>
      let (ip, te) := s.predict k l sig i
      let e := ip - 65536 * r
      let s := s.setLoop k { l with cur := i, te := te, peak := max l.peak ((i - 256 * r).natAbs / 256) }
      match wantEdge sig (s.bit pk HL_CFG_PLACE_EN) e (256 * s.halfBand k) (l.slope sig) with
      | none => (s, none)
      | some p =>
        match s.keepTmin k l p with
        | some p' => (s.setBit pk HL_STAT_REFUSING false, some ⟨k, !sig, p'⟩)
        | none => (((s.cntS pk HL_CNT_REFUSED).irq pk 8).setBit pk HL_STAT_REFUSING true, none)

/-- After the decision: the slope of the present state, the sample kept, the word of a leg without an edge (R241, R286). -/
def State.loopAfter (s : State) (k : Nat) : State :=
  let pk := pkHl k
  let idle : Nat := if s.running (pkGb (bridgeOf k)) && s.bit (pkGb (bridgeOf k)) GB_CFG_IDLE then 1 else 0
  let l := s.loop k
  let refr := if s.bit (pkGl k) GL_STAT_REFRESH then some s.dec else l.refreshAt
  let l := { l with refreshAt := refr }
  let edged := l.edgeDec == s.dec && l.sig.isSome
  let s1 :=
    match s.running pk, l.sig with
    | true, some sig =>
      let (u, stale) := s.fastUse k
      let settle := s.fld pk HL_CFG_SETTLE
      let calm := match refr with | some d => decide (d + settle < s.dec) | none => true
      let clean := decide (l.edgeDec + settle + 1 ≤ s.dec) && u.good && !l.subst && calm && (match l.prev with
        | some v => v.good && v.relief == u.relief
        | none => false)
      let sh := 2 ^ s.fld pk HL_CFG_SH
      let upd (x : Int) : Int := match l.prev with | some v => x + rneDivI (256 * (u.code - v.code) - x) sh | none => x
      let l := if clean then (if sig then { l with sHigh := upd l.sHigh } else { l with sLow := upd l.sLow }) else l
      let l := { l with prev := some { u with good := u.good && !stale }
                        age := if stale then l.age + 1 else 0, periodOk := l.periodOk && !stale
                        word := if edged then l.word else mkWord false (if sig then 2 else 1) 0 }
      (s.setLoop k l).setFld pk HL_STAT_LEG (if sig then 2 else 1)
    | true, none =>
      let (u, stale) := s.fastUse k
      let l := { l with prev := some { u with good := u.good && !stale }
                        age := if stale then l.age + 1 else 0, word := mkWord false idle 0 }
      (s.setLoop k l).setFld pk HL_STAT_LEG idle
    | false, _ => (s.setLoop k { l with word := mkWord false idle 0 }).setFld pk HL_STAT_LEG idle
  let l1 := s1.loop k
  let sat (x : Int) : Nat := unsgn 16 (satSgn 16 (x / 16))
  let s2 := (s1.setFld pk HL_SLOPE_S_HIGH (sat l1.sHigh)).setFld pk HL_SLOPE_S_LOW (sat l1.sLow)
  let s3 := (s2.setFld pk HL_REFC_R (unsgn 16 (s.refCode k))).setBit pk HL_REFC_REF_STALE (!(s.busy (pkCe (bridgeOf k))))
  (s3.setBit pk HL_STAT_SUBST (l1.subst && l1.sig.isSome)).showBand k

/-- R255: a bank swap of BAND or HINIT: h is clamped into the new limits, the open period does not count. -/
def State.bandSwap (s : State) (k : Nat) : State :=
  let l := s.loop k
  s.setLoop k { l with h := clampN (256 * s.fld (pkHl k) HL_BAND_HMIN) (256 * s.fld (pkHl k) HL_BAND_HMAX) l.h, periodOk := false }

/-- R255: a bank swap of FWIN: the open periods of the bridge do not count. -/
def State.fwinSwap (s : State) (m : Nat) : State :=
  let s := forL [3 * m, 3 * m + 1, 3 * m + 2] (fun k s => s.setLoop k { s.loop k with periodOk := false }) s
  s.setFld (pkHc m) HC_TMIN_V (s.tminOf m)

/-- BR of a loop. -/
def State.loopReinit (s : State) (k : Nat) : State :=
  s.setLoop k { word := (s.loop k).word }

end Sys2Proof.Machine
end

