-- ==== Sys2Proof/Machine/MauloBase.lean ====
section
/-!
DEFINITION. Machine/MauloBase.lean: the node's time state and what stopping a channel page does to it (R474).
-/
namespace Sys2Proof.Machine

def State.setMa (s : State) (m : Maulo) : State := { s with ma := m }
def State.mport (s : State) (p : Nat) : MPort := tget {} s.ma.ports p
def State.setMport (s : State) (p : Nat) (x : MPort) : State := s.setMa { s.ma with ports := tput s.ma.ports p x }
def State.berth (s : State) (n : Nat) : Berth := tget {} s.berths n
def State.setBerth (s : State) (n : Nat) (b : Berth) : State := { s with berths := tput s.berths n b }

def State.nodeId (s : State) : Nat := s.fld pkMs MS_NODE_ID
/-- TSTAT.STATE: 0 LISTEN, 1 COLDSTART, 2 INTEGRATE, 3 ACTIVE, 4 HOLDOVER (R494). -/
def State.timeState (s : State) : Nat := s.fld pkMs MS_TSTAT_STATE
def State.pierHead (s : State) : Bool := s.bit pkMs MS_TSTAT_PH
/-- Plan in force: true Single. -/
def State.planSingle (s : State) : Bool := s.bit pkMs MS_STAT_PLAN
def State.maCycle (s : State) : Word := s.word pkMs MS_CYCLE
/-- The cycle length in µs. -/
def State.cycleUs (s : State) : Nat := s.fld pkMs MS_SCHED_CYCLE

/-- The node changes its time state; the channel pages are in RUN in ACTIVE and HOLDOVER. -/
def State.setTime (s : State) (st : Nat) : State :=
  if s.timeState = st then s
  else
    let on := st == 3 || st == 4
    let was := s.timeState == 3 || s.timeState == 4
    let s := (s.setFld pkMs MS_TSTAT_STATE st).irq pkMs 11
    let s := forL [0, 1] (fun c s =>
      let s := s.setBit (pkMa c) MA_STAT_TX_EN (on && (s.st (pkMa c) == .idle || s.running (pkMa c)))
      if on && s.st (pkMa c) == .idle then s.setSt (pkMa c) .run
      else if !on && s.running (pkMa c) then s.setSt (pkMa c) .idle else s) s
    let s := if on && !was then s.setMa { s.ma with lastCnt := [] } else s
    let s := if st ≤ 1 then { s with tickAligned := false } else s
    if st = 0 then
      (((s.setFld pkMs MS_TSTAT_CLEAN 0).setFld pkMs MS_TSTAT_OVER 0).setFld pkMs MS_TSTAT_MISS 0).setBit pkMs MS_TSTAT_PH false
    else s

/-- What a channel page loses when it stops: with both pages out of RUN and IDLE the node is held in LISTEN (R474). -/
def State.maLeaves (s : State) (c : Nat) : State :=
  let other := s.st (pkMa (1 - c))
  let s := (s.setBit (pkMa c) MA_STAT_TX_EN false).setBit (pkMa c) MA_STAT_SYNCED false
  if other != .run && other != .idle then s.setTime 0 else s

end Sys2Proof.Machine
end

