-- ==== Sys2Proof/Machine/Reinit.lean ====
section
/-!
DEFINITION. Machine/Reinit.lean: block re-initialisation (BR, R56), the outputs a block drives when it goes to OFF or FAULT (R51,
R54), and what each block does when its page starts, stops or is drained.
-/
namespace Sys2Proof.Machine

/-- A block's internal state reset (R56: integrators, filters, FIFOs, counters), except what its chapter keeps. -/
def State.blockReset (s : State) (k : Nat) : State :=
  match kindOf k with
  | some .gl => (((s.setLeg (k % 32) {}).setFld k GL_STAT_OUT 0).setFld k GL_STAT_GH_ON 0).setFld k GL_STAT_GL_ON 0
      |>.setBit k GL_STAT_LATCHED false |>.setBit k GL_STAT_WAIT_EDGE false |>.setBit k GL_STAT_DT_OPEN false
      |>.setBit k GL_STAT_REFRESH false |>.setBit k GL_STAT_LEAK_BUSY false
  | some .is => s.setSw (k % 32) 0
  | some .byt | some .byv | some .byp =>
    { s with buoys := s.buoys.filter (fun x => x.1 / 32 != k) }
  | some .cs => s.syncTrim (k % 32)
  | some .sc => s.scReinit (k % 32)
  | some .sx => { s with sx := {} }
  | some .ce => s.ceReinit (k % 32)
  | some .ij => (s.setInj (k % 32 - 8) {}).setFld k IJ_STAT_GEN 0
  | some .hl => s.loopReinit (k % 32)
  | some .hc => s.setFld k HC_STAT_VEC (s.bridgeVec (k % 32 - 24))
  | some .cv => s.cvReinit (k % 32)
  | some .ma => s.setMa { s.ma with accepted := s.ma.accepted.filter (fun n => n / 64 != k % 32), closed := s.ma.closed.filter (fun c => c != k % 32) }
  | some .port => s.setMport (k % 32 - 4) {}
  | some .ms => { (forL [0, 1] (fun c (s : State) => if s.running (pkMa c) then s.setSt (pkMa c) .idle else s) s).setMa { tm := s.ma.tm } with tickAligned := false }
  | some .bth => { s with berths := [] }
  | some .ac => s.acReinit (k % 32)
  | some .can => s.setCan (k % 32) {}
  | some .spi => s.setSpi (k % 32) {}
  | some .sent => { s with sent := tput s.sent (k % 32) {} }
  | some .ga => s.setSar (k % 32) {}
  | _ => s

/-- Registers of a page after a BR: RW and RWD fields from the configuration shadow, the others at reset (R56, R57); banked
registers written in TEST go to the inactive bank (R53, R65). -/
def Page.reinitRegs (k : Nat) (p : Page) : Page :=
  let p := p.shadow.foldl (fun q x => q.putReg (isBanked k x.1) (!q.activeB) x.1 x.2) p
  let keep (x : Nat × Word) : Nat × Word :=
    match regDesc k x.1 with
    | none => x
    | some d =>
      (x.1, d.fields.foldl (fun acc f =>
        match f.acc with
        | .rw | .rwd => acc
        | _ => fput ⟨0, f.lo, f.width⟩ acc (fget ⟨0, f.lo, f.width⟩ (regReset k x.1))) x.2)
  { p with regs := p.regs.map keep, shadow := [], held := [], swapPending := false, copyBusy := false }

/-- BR of a page (R56). Registers that a chapter keeps are put back by `keepRegs`. -/
def keepRegs (k : Nat) : List Nat :=
  match kindOf k with
  | some .gl => [0x080]
  | some .is => [0x048]
  | some .gb => [0x044, 0x048]
  | some .cs => [0x048, 0x04C, 0x050, 0x054, 0x058, 0x05C, 0x064]
  | some .cst => [0x040, 0x044, 0x048, 0x04C, 0x050, 0x054, 0x058, 0x05C, 0x064, 0x090, 0x098]
  | some .sc => [0x080, 0x084, 0x088, 0x08C, 0x090, 0x094, 0x098, 0x09C, 0x0A0]
  | some .ce => [0x048, 0x050, 0x054, 0x080, 0x090, 0x0A0, 0x0B0]
  | some .sw => [0x044, 0x0A8, 0x0AC, 0x0B0, 0x0E8, 0x0EC, 0x0F0, 0x128, 0x12C, 0x130, 0x168, 0x16C, 0x170]
  | some .ms => [0x0C8]
  | _ => []

/-- Block re-initialisation of a page (R56, R57). -/
def State.reinit (s : State) (k : Nat) : State :=
  let old := s.page k
  let p := old.reinitRegs k
  let p := (keepRegs k).foldl (fun p off =>
    if tmem old.regs off then { p with regs := tput p.regs off (tget 0#32 old.regs off) } else p) p
  (s.setPage k p).blockReset k

/-- The outputs of a block at its idle, and the rest that going to OFF, FAULT or TEST does (R53, R54). -/
def State.toIdleOutputs (s : State) (k : Nat) (dest : PageSt) : State :=
  match kindOf k with
  | some .gl => if dest != .off then s.legOff (k % 32) else s.legBridgeIdle (k % 32)
  | some .gb => s.bridgeStop (k % 32 - 24)
  | some .is => s.swOpenNow (k % 32)
  | some .cs => match dest with
    | .off => s.csOff (k % 32)
    | .fault => s.csFault (k % 32)
    | _ => s.csLeaves (k % 32)
  | some .cst => s.cstLeaves
  | some .sc => match dest with
    | .test => s.scTest (k % 32)
    | _ => s.scStale (k % 32)
  | some .ce => s.ceStop (k % 32) dest
  | some .ij => s.ijAbort (k % 32 - 8)
  | some .cp => forN 6 (fun m s => s.capCut m) s
  | some .hl => s.loopLeaves (k % 32)
  | some .cv => s.cvLeaves (k % 32)
  | some .ma => s.maLeaves (k % 32)
  | some .ac => s.acLeaves (k % 32)
  | some .can => s.setBit k CAN_STAT_SYNCED false
  | some .spi => s.setSpi (k % 32) { s.spiOf (k % 32) with jobs := [] }
  | some .ga => s.sarStop (k % 32)
  | _ => s

/-- What a bank swap does beside the swap (R66). -/
def State.onSwap (s : State) (k : Nat) : State :=
  match kindOf k with
  | some .hl => s.bandSwap (k % 32)
  | some .hc => s.fwinSwap (k % 32 - 24)
  | _ => s

/-- The swap takes effect: ACTIVE changes, SWAP_PENDING clears, one swap is counted, SWAP_DONE sets. -/
def State.doSwap (s : State) (k : Nat) : State :=
  ((s.modPage k (fun p => { p with activeB := !p.activeB, swapPending := false, swapCount := p.swapCount + 1 })).irq k 3).onSwap k

/-- A pending swap is taken at a swap point, or at once in OFF and IDLE; held in DRAIN, FAULT and TEST and while a copy
runs (R66). -/
def State.trySwap (s : State) (k : Nat) : State :=
  let p := s.page k
  if p.swapPending && !p.copyBusy && (p.st == .run || p.st == .off || p.st == .idle) then s.doSwap k else s

/-- The page goes to OFF on EN = 0: outputs at idle, DRAIN_MODE applied, DRAINED sets (R51, R54); a swap
held through the drain takes effect (R66). -/
def State.goOff (s : State) (k : Nat) : State :=
  let s := (s.toIdleOutputs k .off)
  let s := if (s.page k).drainMode = 1#2 then s.reinit k else s
  (((s.setSt k .off).modPage k (fun p => { p with initPending := p.en })).irq k 0).trySwap k

/-- A level-1 or level-2 reaction sends a page to FAULT: outputs to the block idle at once, an open atomic unit or drain
abandoned, FAULT flag (R51). -/
def State.goFault (s : State) (k : Nat) : State :=
  if s.st k == .fault then s
  else ((s.toIdleOutputs k .fault).setSt k .fault |>.modPage k (fun p => { p with initPending := false })).irq k 1

/-- What enabling a page from OFF does beside its BR (R51). -/
def State.onEnable (s : State) (k : Nat) : State :=
  match kindOf k with
  | some .sc => s.scEnable (k % 32)
  | _ => s

/-- What entering IDLE does beside the change of page state. -/
def State.onIdle (s : State) (k : Nat) : State :=
  match kindOf k with
  | some .is => s.isIdle (k % 32)
  | some .cs | some .cst => s.refill (k % 32)
  | _ => s

/-- A page leaves FAULT or TEST through BR: IDLE if EN = 1, else OFF (R51); fixed-enable pages return to RUN (R45). A Cove
pair stays in FAULT while its memories are copied (R337), and so does an application pair (R387). -/
def State.leaveThroughBr (s : State) (k : Nat) : State :=
  let held := kindOf k == some .cv && s.st k == .fault
  let s := s.reinit k
  if held then s.cvCopyStart (k % 32) else
  if kindOf k == some .ac && s.st k == .fault then s.acCopyStart (k % 32) else
  if kindOf k == some .qg then s.setSt k (if s.busy (pkAc (k % 32 - 8)) then .run else .idle) else
  let fixed := match kindOf k with | some d => fixedEnable d | none => false
  if fixed then s.setSt k .run
  else if (s.page k).en then (s.setSt k .idle).onIdle k
  else s.setSt k .off

/-- What is known of a block's start condition beside the event itself (R51 and the block chapters). -/
def State.startOk (s : State) (k : Nat) : Bool :=
  match kindOf k with
  | some .gl => s.running (pkGb (bridgeOf (k % 32)))
  | some .gb => s.bit k GB_STAT_EN_SW && !(s.bit k GB_STAT_VGD_UV)
  | some .is => s.sw (k % 32) != 0
  | some .cs | some .cst => s.pllB
  | some .sc => decide (s.scMode (k % 32) ≤ 2)
  | some .ce | some .ij => false
  | some .hl => false
  | some .hc => s.running (pkGb (k % 32 - 24))
  | some .cv | some .ac | some .qg => false
  | some .ma => s.timeState == 3 || s.timeState == 4
  | _ => true

/-- What the start of a block does beside the change of page state. -/
def State.onStart (s : State) (k : Nat) : State :=
  match kindOf k with
  | some .gl => s.legStart (k % 32)
  | some .gb => s.bridgeStart (k % 32 - 24)
  | some .cs => if s.td.awaitRun && s.serves (k % 32) && s.tdPhase == tdRelief then s.tdVerifyStart else s
  | some .sc => match s.goodSave with
    | some v => s.slackRestore (k % 32) v.positions
    | none => s
  | some .ma => s.setBit k MA_STAT_TX_EN true
  | some .can => s.setBit k CAN_STAT_SYNCED true
  | _ => s

/-- What EN = 0 written in RUN does beside the change of page state (R54). -/
def State.onDrain (s : State) (k : Nat) : State :=
  match kindOf k with
  | some .is => s.swOpenNow (k % 32)
  | some .gb => s.bridgeStop (k % 32 - 24)
  | some .ij => s.ijAbort (k % 32 - 8)
  | some .ce => s.ceLeaves (k % 32)
  | some .ma => s.maLeaves (k % 32)
  | some .ac => s.acDrain (k % 32)
  | _ => s

end Sys2Proof.Machine
end

