-- ==== Sys2Proof/Machine/Pages.lean ====
section
/-!
DEFINITION. Machine/Pages.lean: the commands every page answers: enable and disable, start and stop, lock, key, banks (R38-R69).
-/
namespace Sys2Proof.Machine

abbrev Result := Host.Outcome State Fault Refusal

/-! ### PAGE_CTRL (R44-R46, R51-R55, R62) -/

/-- The fields of a PAGE_CTRL write. -/
def ctrlEn (v : Word) : Bool := bitN v.toNat 0
def ctrlMode (v : Word) : Nat := bitsN v.toNat 2 1
def ctrlSel (v : Word) : Bool := bitN v.toNat 4
def ctrlLock (v : Word) : Bool := bitN v.toNat 7

/-- Why a PAGE_CTRL write is refused (R46, R60, R62). -/
def ctrlCause (k : Nat) (p : Page) (keyOk : Bool) (v : Word) : Option Nat :=
  let modeChanged := legalize (.range 0 1) 2 (ctrlMode v) != p.drainMode.toNat
  let selChanged := pageHasBanks k && ctrlSel v != p.shadowSel
  if p.lock && (modeChanged || selChanged) then some 2
  else if (k / 32 = 6 || k / 32 = 7) && ctrlEn v && !p.en && !keyOk then some 3
  else none

/-- EN written `b` on a page that is not fixed-enable (R51, R52, R55); a QG page's state follows its AC page alone (R393). -/
def State.writeEn (s : State) (k : Nat) (b : Bool) : State :=
  let p := s.page k
  let s1 := s.setPage k { p with en := b }
  if kindOf k == some .qg then s1 else
  match p.st with
  | .off => s1.setPage k { p with en := b, initPending := b }
  | .idle => if b then s1 else s1.goOff k
  | .run => if b then s1 else (s1.setSt k .drain).onDrain k
  | .drain | .fault | .test => s1

/-- An accepted PAGE_CTRL write takes effect: DRAIN_MODE, SHADOW_SEL and LOCK first, then EN. -/
def State.ctrlApply (s : State) (k : Nat) (v : Word) : State :=
  let fixed := match kindOf k with | some d => fixedEnable d | none => true
  let s1 := s.modPage k (fun p => { p with
    drainMode := BitVec.ofNat 2 (legalize (.range 0 1) 2 (ctrlMode v))
    shadowSel := if pageHasBanks k then ctrlSel v else p.shadowSel
    lock := p.lock || ctrlLock v })
  let s2 := if ctrlMode v > 1 then s1.logClamp k 0 4 else s1
  if fixed || ctrlEn v == (s2.page k).en then s2 else s2.writeEn k (ctrlEn v)

/-- A write of PAGE_CTRL by `who` (R44, R46, R51, R60, R62). -/
def State.ctrlWrite (s : State) (who : Initiator) (k : Nat) (v : Word) : State :=
  if kindOf k = none then s
  else
    let keyOk := s.keyOk k who
    let s := s.keyTaken k who
    match ctrlCause k (s.page k) keyOk v with
    | some c => s.logClamp k c 4
    | none => s.ctrlApply k v

/-- R51, R46: PAGE_CTRL written with EN = 1: an OFF page is to be initialised; in DRAIN, FAULT and TEST the bit is stored. -/
def execEnableWrite (who : Initiator) (page : Nat) (mode : BitVec 2) (sel : Bool) (s : State) : Result :=
  .next (s.ctrlWrite who page (BitVec.ofNat 32 (1 + 2 * mode.toNat + 16 * b2n sel)))

/-- R51: the block is initialised to its BR state with the current configuration; the page enters IDLE. -/
def execBlockInitialised (page : Nat) (s : State) : Result :=
  .next (if (s.page page).initPending && s.st page == .off then
      ((((s.reinit page).onEnable page).setSt page .idle).modPage page (fun p => { p with initPending := false })).onIdle page
    else s)

/-- R54, R51: PAGE_CTRL written with EN = 0: a drain from RUN, or OFF at once from IDLE. -/
def execDisableWrite (who : Initiator) (page : Nat) (mode : BitVec 2) (sel : Bool) (s : State) : Result :=
  .next (s.ctrlWrite who page (BitVec.ofNat 32 (2 * mode.toNat + 16 * b2n sel)))

/-- R54, R52: the atomic unit ends; the page enters OFF, and goes on to IDLE where EN was written 1 meanwhile. -/
def execDrainEnd (page : Nat) (s : State) : Result :=
  .next (if s.st page == .drain then s.goOff page else s)

/-- R62: PAGE_CTRL written with LOCK = 1, its other fields as they stand. -/
def execLockWrite (who : Initiator) (page : Nat) (s : State) : Result :=
  let p := s.page page
  .next (s.ctrlWrite who page
    (BitVec.ofNat 32 (0x80 + b2n p.en + 2 * p.drainMode.toNat + 16 * b2n p.shadowSel)))

/-- R51: a block's start condition is met: IDLE to RUN. -/
def execBlockStart (page : Nat) (s : State) : Result :=
  .next (if s.st page == .idle && s.startOk page then (s.setSt page .run).onStart page else s)

/-- R51: a block's stop condition is met: RUN to IDLE. An engine, and an application pair, has none (R224, R393). -/
def execBlockStop (page : Nat) (s : State) : Result :=
  .next (if s.st page == .run && !(match kindOf page with | some d => fixedEnable d | none => true)
      && kindOf page != some .ce && kindOf page != some .ac && kindOf page != some .qg
    then (s.setSt page .idle).trySwap page else s)

/-! ### Keys (R63, R64) -/

/-- KEY1 of a page. -/
def key1 (k : Nat) : Word := keyBase + BitVec.ofNat 32 (pageType k)

/-- KEY2 of a page: the bitwise inverse of KEY1. -/
def key2 (k : Nat) : Word := ~~~ key1 k

/-- A key word judged as step 1: KEY1 starts a sequence; another word counts one failure when no failure ended a sequence
with it. -/
def Page.keyStep1 (p : Page) (k : Nat) (who : Initiator) (w : Word) (counted : Bool) : Page :=
  if w = key1 k then { p with key := .first who }
  else if counted then p else p.keyFailed

/-- A word written to PAGE_KEY (R64). -/
def Page.keyWord (p : Page) (k : Nat) (who : Initiator) (w : Word) : Page :=
  match p.key with
  | .idle => p.keyStep1 k who w false
  | .first a => if a = who ∧ w = key2 k then { p with key := .opened who } else p.keyFailed.keyStep1 k who w true
  | .opened _ => p.keyFailed.keyStep1 k who w true

/-- R64: a key word advances, opens or fails the sequence. -/
def execKeyWord (who : Initiator) (page : Nat) (w : Word) (s : State) : Result :=
  .next (if kindOf page = none then s else s.modPage page (fun p => p.keyWord page who w))

/-- R64: the 10 µs window is missed: the sequence fails. -/
def execKeyTimeout (page : Nat) (s : State) : Result :=
  .next (if (s.page page).key = .idle then s else s.modPage page Page.keyFailed)

/-! ### Banks (R65, R66) -/

/-- An accepted swap request (R66). -/
def State.swapReq (s : State) (k : Nat) : State :=
  let p := s.page k
  if p.swapPending then s.setPage k { p with swapIgnored := true }
  else
    let s1 := s.setPage k { p with swapPending := true }
    if p.st == .off || p.st == .idle then s1.trySwap k else s1

/-- A write of PAGE_SHADOW_CTRL is refused while the page is locked; on a page without banks the offset is reserved. -/
def State.shadowCtrl (s : State) (who : Initiator) (k : Nat) (f : State → State) : State :=
  if pageHasBanks k then
    let s := s.keyTaken k who
    if (s.page k).lock then s.logClamp k 2 0x20 else f s
  else s

/-- An accepted COPY: refused with CAUSE 4 while a swap is pending, ignored while a copy runs (R66). A run bound to the inactive
bank of an engine stands for a swap still in progress (R219). -/
def State.copyReq (s : State) (k : Nat) : State :=
  let p := s.page k
  if p.swapPending || (kindOf k == some .ce && s.bit k CE_STAT_OLDBANK_OPEN) then s.logClamp k 4 0x20
  else if p.copyBusy then s
  else s.setPage k { p with copyBusy := true }

/-- R66: the copy ends: the inactive bank holds the active one's words, held writes are applied over them. -/
def State.copyDone (s : State) (k : Nat) : State :=
  let p := s.page k
  if p.copyBusy then
    let p1 := if p.activeB then { p with bankA := p.bankB } else { p with bankB := p.bankA }
    let p2 := p.held.foldl (fun q x => q.putReg true (!q.activeB) x.1 x.2) p1
    let s1 := s.setPage k { p2 with copyBusy := false, held := [] }
    if p.st == .off || p.st == .idle then s1.trySwap k else s1
  else s

/-- R66: at the page's swap point a pending swap takes effect. The schedule's is the cycle boundary, with its own command (R464). -/
def execSwapPoint (page : Nat) (s : State) : Result := .next (if page = pkMs then s else s.trySwap page)

/-- R66: a COPY request. -/
def execCopy (who : Initiator) (page : Nat) (s : State) : Result :=
  .next (s.shadowCtrl who page (fun s => s.copyReq page))

/-- R66: a copy ends. -/
def execCopyDone (page : Nat) (s : State) : Result := .next (s.copyDone page)

end Sys2Proof.Machine
end

