-- ==== Sys2Proof/Machine/DredgeOps.lean ====
section
/-!
DEFINITION. Machine/DredgeOps.lean: the shared operations of Dredge: the test catalogue, granting, ending and aborting tests
(R567-R582).
-/
namespace Sys2Proof.Machine

/-- The catalogue of R572: tokens and test code of the test named by a page; none for a page Dredge does not test. The loops
of bridge m are tested together under HCm. -/
def drTest (k : Nat) : Option DrTest :=
  match kindOf k with
  | some .ac => some ⟨k, [k], 5, 1⟩
  | some .cv => some ⟨k, [k], 4, 1⟩
  | some .ce => some ⟨k, [k], 3, 1⟩
  | some .sw | some .ij | some .cp => some ⟨k, [k], 1, 1⟩
  | some .hc => let m := k % 32 - 24; some ⟨k, [k, pkHl (3 * m), pkHl (3 * m + 1), pkHl (3 * m + 2)], 1, 1⟩
  | some .cs | some .cst => some ⟨k, [k], 1, 3⟩
  | some .sc => some ⟨k, [k], 1, 1⟩
  | some .sx => some ⟨k, [k], 6, 5⟩
  | some .gl => some ⟨k, [k], 2, 6⟩
  | some .gb => some ⟨k, [k], 1, 8⟩
  | some .is => some ⟨k, [k], 2, 4⟩
  | some .port => some ⟨k, [k], 8, 5⟩
  | some .mp => some ⟨k, [k], 3, 5⟩
  | some .can | some .spi | some .sent => some ⟨k, [k], 1, 1⟩
  | some .ga => some ⟨k, [k], 1, 7⟩
  | some .byt | some .byv | some .byp => some ⟨k, [k], 1, 8⟩
  | some .hm => some ⟨k, [k], 1, 1⟩
  | _ => none

/-- The block a test tests: the pages it quarantines, or for a pair's comparators, which quarantine nothing, the pair's. -/
def DrTest.blocks (t : DrTest) : List Nat := if t.pages.isEmpty then [t.page] else t.pages

/-- The march over the memories: it holds tokens and quarantines no page (R572, R573). -/
def marchTest : DrTest := ⟨pkDr, [], 20, 2⟩

/-- The source from which a page's failed test is reported (R340, R394, R445, R580, R585 and the block chapters). -/
def pageSource (k : Nat) : Nat :=
  let i := k % 32
  match kindOf k with
  | some .cs => 0x020 + i
  | some .cst => 0x032
  | some .hl => 0x040 + i
  | some .hc => 0x052 + (i - 24)
  | some .sc => 0x060 + i
  | some .sx => 0x06C
  | some .ce => 0x080 + i
  | some .sw => 0x086 + i
  | some .ij => 0x08C + (i - 8)
  | some .cp => 0x092
  | some .gl => 0x0A0 + i
  | some .gb => 0x0B2 + (i - 24)
  | some .is => 0x0C0 + i
  | some .cv => 0x103 + 16 * i
  | some .ac => 0x142 + 16 * i
  | some .qg => 0x143 + 16 * (i - 8)
  | some .ma => 0x1A0 + i
  | some .port => 0x1A2 + (i - 4)
  | some .ms => 0x1A6
  | some .bth => 0x1AA
  | some .mp => 0x1C0 + i
  | some .bol => 0x1C2
  | some .wg => 0x1C3
  | some .can => 0x200 + i
  | some .spi => 0x204 + i
  | some .sent => 0x20A + i
  | some .ga => 0x212 + i
  | some .byt => 0x221
  | some .byv => 0x22D
  | some .byp => 0x23D
  | some .dr => 0x220
  | some .hm => 0x242
  | _ => 0

/-- Tokens in use (R570). -/
def State.tokensUsed (s : State) : Nat := (s.dr.running.map (·.tokens)).foldl (· + ·) 0

/-- Tokens free, out of 30. -/
def State.tokensFree (s : State) : Nat := 30 - s.tokensUsed

/-- A page's bit in FAILMAP (R580). -/
def State.failed (s : State) (k : Nat) : Bool := bitN (s.word pkDr (DR_FAILMAP.ix (k / 32))).toNat (k % 32)

/-- A page's FAILMAP bit is set or cleared. -/
def State.setFailed (s : State) (k : Nat) (b : Bool) : State :=
  let f := DR_FAILMAP.ix (k / 32)
  s.setWord pkDr f (BitVec.ofNat 32 (putBitN (s.word pkDr f).toNat (k % 32) b))

/-- A page that has failed its own test stays in FAULT, also while its retest is due (R580). -/
def State.keptInFault (s : State) (k : Nat) : Bool := s.failed k || s.dr.retest.contains k

/-- A page leaves TEST: through BR, and TEST_DONE sets (R51); a page that only a pass returns goes back to FAULT (R580). A page in
another state has left already. -/
def State.leaveTest (s : State) (k : Nat) : State :=
  if s.st k = .test then
    let s := (s.leaveThroughBr k).irq k 2
    if s.keptInFault k then s.goFault k else s
  else s

/-- Every running test is aborted at once: its pages return through BR, its tokens come back, and the test goes to the
queue's tail (R571, R581). The march pauses with its tokens (R582). -/
def State.abortTests (s : State) : State :=
  let r := s.dr.running.filter (fun t => t != marchTest)
  let s := forL r (fun t s => (forL t.pages (fun k s => s.leaveTest k) s).cntS pkDr DR_CNT_ABORTS) s
  { s with dr := { s.dr with running := s.dr.running.filter (fun t => t == marchTest), queue := s.dr.queue ++ r } }

/-- A fault reaction takes a page out of TEST: the test is aborted and goes to the queue's tail, its tokens return, no failure is
recorded; its other pages return through BR (R581, R582). -/
def State.dropTestOf (s : State) (k : Nat) : State :=
  let hit := s.dr.running.filter (fun t => t.pages.contains k)
  if hit.isEmpty then s
  else
    let s := forL hit (fun t s => (forL (t.pages.filter (· != k)) (fun j s => s.leaveTest j) s).cntS pkDr DR_CNT_ABORTS) s
    { s with dr := { s.dr with running := s.dr.running.filter (fun t => !(t.pages.contains k)), queue := s.dr.queue ++ hit,
                               stepHold := if s.dr.stepHold.map pkCe = some k then none else s.dr.stepHold } }

/-- A level-1 or level-2 reaction sends a page to FAULT (R51, R52, R439, R582). -/
def State.faultPage (s : State) (k : Nat) : State := (s.dropTestOf k).goFault k

end Sys2Proof.Machine
end

