-- ==== Sys2Proof/Machine/AppFault.lean ====
section
/-!
DEFINITION. Machine/AppFault.lean: how an application pair goes to FAULT (R385, R387, R394).
-/
namespace Sys2Proof.Machine

abbrev acSource (k : Nat) : Nat := 0x140 + 16 * k

/-- A level-2 event of a pair (R385): DIVERGE records cause and count, the pair goes to FAULT. `off` is the source of R394. -/
def State.acFault (s : State) (k cause kind off : Nat) : State :=
  let s := s.setWord (pkAc k) AC_DIVERGE (BitVec.ofNat 32 (cause * 2 ^ 24 + (s.appOf k).main.retired % 2 ^ 24))
  ((s.irq (pkAc k) 10).raise (acSource k + off) kind 2).faultPage (pkAc k)

/-- A restart (R386, R387): kind 0x04 at level 2, counted. -/
def State.acRestart (s : State) (k cause : Nat) : State := (s.cntS (pkAc k) AC_CNT_RESTARTS).acFault k cause 0x04 1

/-- The pair runs or drains. -/
def State.acOn (s : State) (k : Nat) : Bool := s.busy (pkAc k)

/-- The mirrored region of a pair's instruction TCM (R371). -/
def inMirror (k a : Nat) : Bool := decide (0x30000000 + k * 0x100000 ≤ a ∧ a < 0x3001E000 + k * 0x100000)
def inItcm (k a : Nat) : Bool := decide (0x30000000 + k * 0x100000 ≤ a ∧ a < 0x30040000 + k * 0x100000)
def inDtcm (k a : Nat) : Bool := decide (0x30040000 + k * 0x100000 ≤ a ∧ a < 0x30080000 + k * 0x100000)

end Sys2Proof.Machine
end

