-- ==== Sys2Proof/Machine/SeawallOps.lean ====
section
/-!
DEFINITION. Machine/SeawallOps.lean: what the Seawall grants and cuts (R400-R406, R541, R593) and the manifest it reads
(R412-R415, R559).
-/
namespace Sys2Proof.Machine

/-- A bridge's manifest entry in force. -/
def State.entry (s : State) (m : Nat) : BridgeEntry := s.sea.mf.bridges.getD m {}

/-- BOL_OUT is asserted by this unit. -/
def State.bolOut (s : State) : Bool := s.bit pkSea SEAWALL_STAT_BOL_OUT

/-- This unit holds authority: it asserts BOL_OUT (R400, R401, R91). -/
def State.holdsAuthority (s : State) : Bool := s.bolOut

/-- R392 exempts the unit: bench mode and no watch group. -/
def State.debugExempt (s : State) : Bool := s.sea.mf.bench && s.sea.mf.gsize == 0

/-- A debugger is attached to some pair, or has been since the Flood, and R392 does not exempt the unit. -/
def State.debuggerBars (s : State) : Bool :=
  ((List.range 4).any (fun k => s.bit (pkAc k) AC_STAT_DBG_ATTACHED) || s.sea.dbgBarred) && !s.debugExempt

/-- Condition 2 of R400. -/
def State.sealGood (s : State) : Bool :=
  s.bit pkSea SEAWALL_STAT_SEAL_OK && s.bit pkSea SEAWALL_STAT_CONFIRMED && !(s.bit pkSea SEAWALL_STAT_HARD)

/-- Condition 7 of R400. -/
def State.wdGood (s : State) : Bool :=
  decide (2 ≤ s.sea.wdGoodFlood) && decide (s.fld pkSea SEAWALL_WD_Q_FAIL_CNT < s.sea.mf.wdFailMax)

/-- Peers' lines as condition 5 of R400 reads them. -/
def State.peersReleased (s : State) : Bool :=
  s.sea.mf.gsize == 0 ||
    (!(s.bit pkSea SEAWALL_STAT_BOL_IN0) && (s.sea.mf.gsize != 3 || !(s.bit pkSea SEAWALL_STAT_BOL_IN1)))

/-- Conditions 1, 2, 6 and 7 of R400 and no unit-wide soft cut. -/
def State.unitGood (s : State) : Bool :=
  s.inHigh && s.sealGood && !(s.bit pkSea SEAWALL_STAT_UNIT_SOFT) && !s.debuggerBars && s.wdGood

/-- Soft cut of bridge m in force. -/
def State.softCutOf (s : State) (m : Nat) : Bool := bitN (s.fld pkSea SEAWALL_STAT_SOFT) m

/-- R400: the Seawall gives bridge m its enable and its close permit. -/
def State.enable (s : State) (m : Nat) : Bool :=
  s.unitGood && !(s.softCutOf m) && (s.entry m).en && s.bolOut && s.peersReleased

/-- R401: the Seawall may assert BOL_OUT. -/
def State.mayClaim (s : State) : Bool := s.unitGood && !s.sea.withdrawn

/-- SAFE_EN and SAFE_HCUT follow the Seawall (R593). -/
def State.safeOutputs (s : State) : State :=
  { s with sea := { s.sea with
    safeEn := s.bolOut && (List.range 6).any (fun m => s.enable m)
    safeHcut := s.bit pkSea SEAWALL_STAT_HARD } }

/-- A bridge that loses its enable without a cut of its own acts as an OPEN-form cut (R400). -/
def State.enforce (s : State) : State :=
  (forN 6 (fun m s =>
    if s.bit (pkGb m) GB_STAT_EN_SW && !(s.enable m) && !(s.bit (pkGb m) GB_STAT_CUT) then s.cutBridge m false
    else s) s).safeOutputs

/-- The WG's claim ends (R401). -/
def State.endClaim (s : State) : State := { s with sea := { s.sea with claim := false } }

/-- BOL_OUT is released: every enable falls, AUTH reads 0, and the unit falls silent (R537). -/
def State.releaseBol (s : State) : State :=
  if s.bolOut then
    let s := (s.endClaim.setBit pkSea SEAWALL_STAT_BOL_OUT false).setBit pkSys SYS_TIDE_STAT_AUTH false
    (s.setBit pkBol BOL_STAT_CLAIM_WIN false).enforce.wgSilent
  else s.endClaim

/-- Cut a bridge unless it is cut already in that form or in the OPEN form. -/
def State.cutOnce (s : State) (m : Nat) (short : Bool) : State :=
  if s.bit (pkGb m) GB_STAT_CUT && (!(s.bit (pkGb m) GB_STAT_CUT_FORM) || short) then s else s.cutBridge m short

/-- BUS cycles in one second. -/
def secondCycles : Nat := 400000000

/-- The shoot-through reports of bridge m within the last second (R402). -/
def State.shootTimes (s : State) (m : Nat) : List Nat := (tget [] s.sea.shoot m).filter (fun t => s.cyc < t + secondCycles)

/-- Soft cut of bridge m for cause bit c of BCAUSE: 0 ITRIP, 1 DCWIN, 2 QUAY, 3 EDGES, 4 TEMP (R402, R403, R423). A cut not in
force before aborts the running Dredge tests (R32); each cause raises its pennant. -/
def State.softCut (s : State) (m c kind : Nat) : State :=
  let b := 5 * m + c
  let was := s.softCutOf m
  let s := s.setFld pkSea SEAWALL_STAT_SOFT (putBitN (s.fld pkSea SEAWALL_STAT_SOFT) m true)
  let s := s.setFld pkSea SEAWALL_BCAUSE_V (putBitN (s.fld pkSea SEAWALL_BCAUSE_V) b true)
  let s := { s with sea := { s.sea with
    causesGone := tput s.sea.causesGone m false, laneReleased := tput s.sea.laneReleased m false } }
  let s := (s.cutOnce m (s.entry m).form).raise (0x192 + m) kind 2 b
  (if was then s else (s.irq pkSea 9).abortTests).safeOutputs

/-- Unit-wide soft cut (R402-R404): every bridge in its own form, BOL_OUT released. -/
def State.unitCut (s : State) (cause : Field) : State :=
  let s := s.setBit pkSea cause true
  if s.bit pkSea SEAWALL_STAT_UNIT_SOFT then s.releaseBol
  else
    let s := s.setBit pkSea SEAWALL_STAT_UNIT_SOFT true
    let s := forN 6 (fun m s => s.cutOnce m (s.entry m).form) s
    ((s.releaseBol.irq pkSea 9).abortTests).safeOutputs

/-- The pennant kind of a hard cut (R406). -/
def hardKind (h : Nat) : Nat := if h = 1 ∨ h = 2 then 0x11 else if h = 3 then 0x08 else if h = 4 then 0x10 else 0x06

/-- A hard cut latches with cause h (R406); a latched hard cut keeps its first cause. -/
def State.hardCut (s : State) (h : Nat) : State :=
  if s.bit pkSea SEAWALL_STAT_HARD then s
  else
    let s := ((s.setBit pkSea SEAWALL_STAT_HARD true).setFld pkSea SEAWALL_STAT_HCAUSE h).cntS pkSea SEAWALL_INPUTS_HC_COUNT
    let s := { s with sea := { s.sea with aonHard := true } }
    let s := forN 6 (fun m s => s.cutOnce m false) s
    ((((s.releaseBol.irq pkSea 10).raise 0x19A (hardKind h) 3 h)).abortTests).safeOutputs

/-! ### The watchdog's question and answers (R409) -/

/-- One step of the 16-bit LFSR. -/
def lfsrStep (q : Nat) : Nat :=
  let b := (q / 2 ^ 15 + q / 2 ^ 13 + q / 2 ^ 12 + q / 2 ^ 10) % 2
  (2 * q + b) % 65536

/-- Rotate left within 16 bits. -/
def rotl16 (x n : Nat) : Nat := (x * 2 ^ n + x / 2 ^ (16 - n)) % 65536

/-- The expected answer of pair index k. -/
def wdAnswer (q k : Nat) : Nat := rotl16 (q ^^^ (0x1111 * (k + 1))) (q % 16)

/-! ### The manifest (R412-R415, R559) -/

/-- Base of the manifest area of bank 0 A or 1 B (R114). -/
def mfBase (b : Nat) : Nat := if b = 0 then 0x10BF0000 else 0x117F0000

def State.mfWord (s : State) (b off : Nat) : Nat := (s.m32 (mfBase b + off)).toNat

/-- A bridge entry as the manifest holds it. -/
def State.mfBridge (s : State) (b m : Nat) : BridgeEntry :=
  let o := 0x40 + 16 * m
  let w0 := s.mfWord b o
  let w1 := s.mfWord b (o + 4)
  let w2 := s.mfWord b (o + 8)
  let w3 := s.mfWord b (o + 12)
  { en := bitN w0 0, form := bitN w0 1, cmpFilt := bitsN w0 11 8, edgeMax := bitsN w0 23 16
    itripPos := bitsN w1 15 0, itripNeg := bitsN w1 31 16, dcMin := bitsN w2 15 0, dcMax := bitsN w2 31 16
    tclMax := bitsN w3 7 0 }

def inR (lo hi n : Nat) : Bool := decide (lo ≤ n) && decide (n ≤ hi)

/-- A word holds no 1 outside a mask. -/
def onlyBits (w mask : Nat) : Bool := w &&& mask == w

/-- R414: an entry is legal; with EN = 0 it is not checked beyond that bit. -/
def State.bridgeLegal (s : State) (b m : Nat) : Bool :=
  let e := s.mfBridge b m
  let o := 0x40 + 16 * m
  !e.en ||
    (inR 1 8 e.cmpFilt && inR 4 255 e.edgeMax && inR 20 2000 e.itripPos && inR 20 2000 e.itripNeg
      && inR 0 750 e.dcMin && inR (e.dcMin + 10) 800 e.dcMax && inR 100 175 e.tclMax
      && onlyBits (s.mfWord b o) 0x00FF0F03 && onlyBits (s.mfWord b (o + 12)) 0x000000FF)

/-- LEN is legal (R413). -/
def lenLegal (n : Nat) : Bool := inR 1024 65472 n && n % 4 == 0

def State.mfZero (s : State) (b off n : Nat) : Bool := (List.range n).all (fun i => s.mfWord b (off + 4 * i) == 0)

/-- R413: the header is legal. -/
def State.headerLegal (s : State) (b : Nat) : Bool :=
  let u := s.mfWord b 0x10
  let g := bitsN u 1 0
  let r := bitsN u 5 4
  s.mfWord b 0 == 0x4B5A4D46 && lenLegal (s.mfWord b 4) && (g != 0 || s.mfWord b 8 == 0)
    && g != 1 && (if g = 0 then r == 0 else inR 1 3 r) && (!(bitN u 8) || g == 0) && onlyBits u 0x133
    && s.mfZero b 0x14 11

/-- R559: the watch-group area is legal. -/
def State.wgAreaLegal (s : State) (b : Nat) : Bool :=
  let w := s.mfWord b 0x100
  let f (off lo hi : Nat) : Bool := legalize (.f32 (BitVec.ofNat 32 lo) (BitVec.ofNat 32 hi) 0xFFFFFFFF#32) 32 (s.mfWord b off) == s.mfWord b off
  onlyBits w 0xF1 && !(inR 8 14 (bitsN w 7 4))
    && (List.range 6).all (fun m =>
      if (s.mfBridge b m).en then f (0x104 + 4 * m) 0x3F800000 0x44FA0000 else s.mfWord b (0x104 + 4 * m) == 0)
    && f 0x11C 0 0x461C4000 && f 0x120 0 0x49742400 && s.mfZero b 0x124 55

/-- R412-R415: the range check of the manifest of a bank. -/
def State.mfLegal (s : State) (b : Nat) : Bool :=
  let w0 := s.mfWord b 0xA0
  let w1 := s.mfWord b 0xA4
  let sw := s.mfWord b 0xB0
  let hm := s.mfWord b 0xC0
  s.headerLegal b && (List.range 6).all (fun m => s.bridgeLegal b m)
    && inR 10 1000 (bitsN w0 15 0) && inR 10 90 (bitsN w0 23 16) && inR 1 7 (bitsN w0 27 24) && bitsN w0 31 28 != 0
    && bitsN w1 15 0 != 0 && onlyBits w1 0xFFFF && s.mfZero b 0xA8 2
    && inR 140 175 (bitsN sw 7 0) && onlyBits sw 0xFF && s.mfZero b 0xB4 3
    && inR 1 10000 (bitsN hm 31 16) && onlyBits hm 0xFFFF000F && s.mfZero b 0xC4 3
    && s.mfZero b 0xD0 12 && s.wgAreaLegal b && s.mfZero b 0x200 128

/-- The values of a manifest that has passed its range check. -/
def State.mfValues (s : State) (b : Nat) : Manifest :=
  let u := s.mfWord b 0x10
  let w0 := s.mfWord b 0xA0
  let hm := s.mfWord b 0xC0
  { gsize := bitsN u 1 0, rank := bitsN u 5 4, bench := bitN u 8
    bridges := (List.range 6).map (fun m => s.mfBridge b m)
    wdPeriod := bitsN w0 15 0, wdOpen := bitsN w0 23 16, wdFailMax := bitsN w0 27 24, wdPairs := bitsN w0 31 28
    wdSeed := bitsN (s.mfWord b 0xA4) 15 0, tkpMax := bitsN (s.mfWord b 0xB0) 7 0
    hmLimit := bitsN hm 3 0, hmQuiet := bitsN hm 31 16
    leeEn := bitN (s.mfWord b 0x100) 0, leePin := bitsN (s.mfWord b 0x100) 7 4
    leeIrated := (List.range 6).map (fun m => s.m32 (mfBase b + 0x104 + 4 * m))
    leeRate := s.m32 (mfBase b + 0x11C), leeAcc := s.m32 (mfBase b + 0x120) }

/-- The seal (R415): CRC-32C over LEN bytes, or over 65 472 bytes where LEN fails R413. -/
def State.sealOf (s : State) (b : Nat) : Word :=
  let n := s.mfWord b 4
  crc32c (mbytes s.mem (mfBase b) (if lenLegal n then n else 65472))

/-- R417: the confirmation record of a bank is valid. -/
def State.recordValid (s : State) (b : Nat) : Bool :=
  s.mfWord b 0xFFC0 == 0x4B5A5343 && s.m32 (mfBase b + 0xFFC8) == ~~~ (s.m32 (mfBase b + 0xFFC4))

end Sys2Proof.Machine
end

