-- ==== Sys2Proof/Machine/Seawall.lean ====
section
/-!
DEFINITION. Machine/Seawall.lean: the Seawall's commands (R400-R424, R619).
-/
namespace Sys2Proof.Machine

/-- A unit recovery is requested (R109); it is carried out by the UR command. -/
def State.requestUr (s : State) (c : UrCause) : State := { s with pw := { s.pw with urReq := s.pw.urReq ++ [c] } }

/-! ### Cuts -/

/-- R402: a comparator of the phase beyond its threshold for CMP_FILT cycles. -/
def execPhaseCurrentTrip (phase : Nat) (neg : Bool) (s : State) : Result :=
  let f := if neg then SEAWALL_CMP_NEG_V else SEAWALL_CMP_POS_V
  .next ((s.setFld pkSea f (putBitN (s.fld pkSea f) phase true)).softCut (bridgeOf phase) 0 0x06)

/-- R402: the DC link outside its window for 16 cycles. -/
def execDcLinkWindow (bridge : Nat) (s : State) : Result := .next (s.softCut bridge 1 0x06)

/-- R402: more than EDGE_MAX edges on one leg within 100 µs. -/
def execCommandEdgeRate (leg : Nat) (s : State) : Result := .next (s.softCut (bridgeOf leg) 3 0x06)

/-- R402: the bridge's gate cluster above TCL_MAX for 1 ms. -/
def execClusterTemperature (bridge : Nat) (s : State) : Result := .next (s.softCut bridge 4 0x0F)

/-- R402, R404: the Seawall's own temperature above TKP_MAX for 1 ms. -/
def execKpTemperature (s : State) : Result := .next ((s.unitCut SEAWALL_UCAUSE_KP_TEMP).raise 0x198 0x0F 3)

/-- Every bridge in use has fallen silent (R541). -/
def State.allSilent (s : State) : Bool :=
  s.sea.mf.gsize != 0 && s.sea.mf.bridges.any (·.en) &&
    (List.range 6).all (fun m => !(s.entry m).en || s.sea.silent.any (fun k => bridgeOf k == m))

/-- R21, R402, R541: no valid command word for a leg in five decision times. -/
def execGateCommandSilence (leg : Nat) (s : State) : Result :=
  let s0 := { s with sea := { s.sea with silent := leg :: s.sea.silent.filter (fun k => k != leg) } }
  let s1 := s0.softCut (bridgeOf leg) 2 0x0B
  .next (if s1.allSilent && !(s1.bit pkSea SEAWALL_STAT_UNIT_SOFT) then
      (s1.unitCut SEAWALL_UCAUSE_QUAY).raise 0x198 0x0B 3
    else s1)

/-- R301, R402: a shoot-through report; the third within 1 s from one bridge is a hard cut. -/
def execShootThroughReport (leg : Nat) (s : State) : Result :=
  let m := bridgeOf leg
  let times := s.shootTimes m ++ [s.cyc]
  let s1 := { s with sea := { s.sea with shoot := tput s.sea.shoot m times } }
  .next (if 3 ≤ times.length then s1.hardCut 3 else s1)

/-- The soft cut of bridge m ends where its causes are gone and its lane has been released (R405). -/
def State.tryEndSoft (s : State) (m : Nat) : State :=
  if s.softCutOf m && tget false s.sea.causesGone m && tget false s.sea.laneReleased m then
    let s := s.setFld pkSea SEAWALL_STAT_SOFT (putBitN (s.fld pkSea SEAWALL_STAT_SOFT) m false)
    let s := forL [3 * m, 3 * m + 1, 3 * m + 2] (fun k s => s.legOff k) s
    (if s.bit pkSea SEAWALL_STAT_UNIT_SOFT || s.bit pkSea SEAWALL_STAT_HARD then s
      else s.setBit (pkGb m) GB_STAT_CUT false).safeOutputs
  else s

/-- The Harbourmaster signals the release of the leg group's isolation (R405). -/
def State.signalRelease (s : State) (m : Nat) : State :=
  { s with sea := { s.sea with laneReleased := tput s.sea.laneReleased m true } }.tryEndSoft m

/-- R405: none of the soft cut's causes has been present for 16 SWRC cycles. -/
def execSoftCutEnd (bridge : Nat) (s : State) : Result :=
  let clear (f : Field) (s : State) : State :=
    s.setFld pkSea f (putBitsN (s.fld pkSea f) (3 * bridge) 3 0)
  let s1 := clear SEAWALL_CMP_NEG_V (clear SEAWALL_CMP_POS_V s)
  .next ({ s1 with sea := { s1.sea with causesGone := tput s1.sea.causesGone bridge true } }.tryEndSoft bridge)

/-- R407, R408: the self-test of Flood ends, or a continuous check fails; an AON flag found set latches HCAUSE 6. -/
def execSeawallSelfTest (passed : Bool) (s : State) : Result :=
  let s1 := s.setBit pkSea SEAWALL_STAT_SELFTEST_OK passed
  let s2 := if s1.sea.aonHard then s1.hardCut 6 else s1
  .next (if passed then s2 else s2.hardCut 4)

/-! ### Watchdog (R409, R619) -/

/-- A watchdog period begins: the next question is published and SWQ raised on the pairs named. -/
def State.wdBegin (s : State) : State :=
  let s1 := s.setFld pkSea SEAWALL_WD_Q_Q (lfsrStep (s.fld pkSea SEAWALL_WD_Q_Q))
  { s1 with swq := s1.swq ||| BitVec.ofNat 4 s1.sea.mf.wdPairs, sea := { s1.sea with wdAnswers := 0, wdBad := false } }

/-- The watchdog is loaded with the seed in force and its first period begins. -/
def State.wdLoad (s : State) : State := (s.setFld pkSea SEAWALL_WD_Q_Q s.sea.mf.wdSeed).wdBegin

/-- A period that was not good (R409). -/
def State.wdFail (s : State) : State :=
  let n := satInc 255 (s.fld pkSea SEAWALL_WD_Q_FAIL_CNT)
  let s := ((s.setFld pkSea SEAWALL_WD_Q_FAIL_CNT n).setFld pkSea SEAWALL_WD_Q_GOOD 0).irq pkSea 8
  let s := s.raise 0x199 0x05 (if s.inHigh then 1 else 0)
  if s.inHigh && decide (s.sea.mf.wdFailMax ≤ n) then
    ((s.unitCut SEAWALL_UCAUSE_WD).raise 0x199 0x05 3).enforce
  else s.enforce

/-- A good period (R409). -/
def State.wdPass (s : State) : State :=
  let s := s.setFld pkSea SEAWALL_WD_Q_FAIL_CNT (s.fld pkSea SEAWALL_WD_Q_FAIL_CNT - 1)
  let s := s.cntS pkSea SEAWALL_WD_Q_GOOD
  { s with sea := { s.sea with wdGoodFlood := s.sea.wdGoodFlood + 1 } }

/-- R409: a watchdog period ends and is judged; the next begins. -/
def execWatchdogPeriod (s : State) : Result :=
  .next (if s.sea.wdRun then
      (if s.sea.wdAnswers == 2 && !s.sea.wdBad then s.wdPass else s.wdFail).wdBegin
    else s)

/-- R409: a write to WD_ANS. -/
def execWdAns (who : Initiator) (v : Word) (inWindow : Bool) (s : State) : Result :=
  let s := s.keyTaken pkSea who
  let k := bitsN v.toNat 17 16
  let named := match who with | .ac p => bitN s.sea.mf.wdPairs p | _ => false
  let good := named && inWindow && k == s.sea.wdAnswers && decide (s.sea.wdAnswers < 2) &&
    bitsN v.toNat 15 0 == wdAnswer (s.fld pkSea SEAWALL_WD_Q_Q) k
  .next { s with sea := { s.sea with wdAnswers := s.sea.wdAnswers + 1, wdBad := s.sea.wdBad || !good } }

/-! ### Manifest (R415, R619) -/

/-- The outcome of the check: 0 passed or unconfirmed, 1 the seal differs, 2 the range check fails (R415). -/
def State.mfOutcome (s : State) (b : Nat) : Nat :=
  if !(s.recordValid b) then 0
  else if !(s.mfLegal b) then 2
  else if s.sealOf b == s.m32 (mfBase b + 0xFFC4) then 0 else 1

/-- The registers that show the manifest checked (R419-R421). -/
def State.mfShow (s : State) (b : Nat) : State :=
  let ok := s.recordValid b
  let good := ok && s.mfLegal b && s.sealOf b == s.m32 (mfBase b + 0xFFC4)
  let s1 := ((s.setWord pkSea SEAWALL_SEAL_CALC (s.sealOf b)).setBit pkSea SEAWALL_STAT_CONFIRMED ok).setBit pkSea
    SEAWALL_STAT_SEAL_OK good
  let s2 := (s1.setWord pkSea SEAWALL_WGID (s.m32 (mfBase b + 8))).setWord pkSea SEAWALL_VERSION (s.m32 (mfBase b + 12))
  (s2.setWord pkSea SEAWALL_UNIT (s.m32 (mfBase b + 16))).setFld pkSea SEAWALL_COMM_COUNT
    (if ok then bitsN (s.mfWord b 0xFFCC) 7 0 else 0)

/-- The values of a manifest that passed take effect at once; one that fails leaves the fixed values (R440, R619). -/
def State.mfApply (s : State) (b : Nat) : State :=
  let pass := s.mfLegal b
  let mf : Manifest := if pass then s.mfValues b else {}
  let wd (x : Manifest) : List Nat := [x.wdPeriod, x.wdOpen, x.wdFailMax, x.wdPairs, x.wdSeed]
  let changed := (pass && !s.sea.mfPassed) || wd mf != wd s.sea.mf
  let s1 := { s with sea := { s.sea with mf := mf, mfPassed := pass, mfBank := some b } }
  let s2 := ((s1.setFld pkHm HM_LIMITS_QUIET mf.hmQuiet).setFld pkHm HM_LIMITS_UNIT_LIMIT mf.hmLimit).setBit pkHm HM_STAT_MFST pass
  if changed && s2.sea.wdRun then s2.wdLoad else s2

/-- The check of one bank at step 8 of R123, or repeated for the bank that runs. -/
def State.mfCheck (s : State) (b : Nat) (settled : Bool) : State :=
  let h := s.mfOutcome b
  let unconf := !(s.recordValid b)
  let s1 := (s.mfShow b).mfApply b
  let s2 := if unconf then s1.raise 0x19B 0x11 0 else s1
  if h = 0 then { s2 with sea := { s2.sea with heldOutcome := 0 } }
  else if settled then { s2 with sea := { s2.sea with heldOutcome := 0 } }.hardCut h
  else { s2 with sea := { s2.sea with heldOutcome := h } }

/-! ### Edge-qualified inputs and commissioning (R410, R411, R417, R418) -/

/-- R410, R411: the rising edge of SEAWALL_RST_N after a low time. -/
def execSeawallRstN (lowUs : Nat) (s : State) : Result :=
  let s := s.setBit pkSea SEAWALL_INPUTS_RST_LVL true
  .next (if lowUs < 10000 then s.cntS pkSea SEAWALL_INPUTS_IGNORED
    else if 2000000 < lowUs then s.setBit pkSea SEAWALL_INPUTS_RST_STUCK false
    else if s.bit pkSea SEAWALL_STAT_HARD then
      let s1 := (s.setBit pkSea SEAWALL_STAT_HARD false).setFld pkSea SEAWALL_STAT_HCAUSE 0
      let s2 := s1.setFld pkHm HM_STAT_UNIT_REC 0
      ({ s2 with sea := { s2.sea with aonHard := false, shoot := [] } }.safeOutputs).requestUr .seawallEdge
    else s)

/-- R410: an edge-qualified input low for 2 s. -/
def execEdgeInputStuck (commission : Bool) (s : State) : Result :=
  .next (if commission then
      ((s.setBit pkSea SEAWALL_INPUTS_COMM_STUCK true).setBit pkSea SEAWALL_INPUTS_COMM_LVL false).raise 0x19C 0x06 1
    else ((s.setBit pkSea SEAWALL_INPUTS_RST_STUCK true).setBit pkSea SEAWALL_INPUTS_RST_LVL false).raise 0x19C 0x06 1)

/-- The confirmation record of the bank checked is written with COUNT + 1 (R417). -/
def State.writeRecord (s : State) (b : Nat) : State :=
  let sl := s.word pkSea SEAWALL_SEAL_CALC
  let n := (s.fld pkSea SEAWALL_COMM_COUNT + 1) % 256
  let a := mfBase b + 0xFFC0
  let s1 := (((s.setM32 a 0x4B5A5343#32).setM32 (a + 4) sl).setM32 (a + 8) (~~~ sl)).setM32 (a + 12) (BitVec.ofNat 32 n)
  { s1 with mem := mzero s1.mem (a + 16) 48 }

/-- R410, R418: the rising edge of COMMISSION_N after a low time. -/
def execCommissionEdge (lowUs : Nat) (s : State) : Result :=
  let s := s.setBit pkSea SEAWALL_INPUTS_COMM_LVL true
  .next (if 2000000 < lowUs then s.setBit pkSea SEAWALL_INPUTS_COMM_STUCK false
    else if 10000 ≤ lowUs ∧ s.fld pkSea SEAWALL_COMM_CSTATE = 2 ∧ s.pw.tide = .dryDock then
      match s.sea.mfBank with
      | some b => (s.writeRecord b).setFld pkSea SEAWALL_COMM_CSTATE 3
      | none => s
    else s.cntS pkSea SEAWALL_INPUTS_IGNORED)

/-- Dry dock without a valid confirmation record: where RWD fields may be written (R12). -/
def State.rwdOpen (s : State) : Bool := s.pw.tide == .dryDock && !(s.bit pkSea SEAWALL_STAT_CONFIRMED)

/-- R418: SEAL_CONFIRM written. -/
def execSealConfirm (who : Initiator) (v : Word) (s : State) : Result :=
  let s := s.keyTaken pkSea who
  .next (if !s.rwdOpen then s.logClamp pkSea 6 0x50
    else if s.fld pkSea SEAWALL_COMM_CSTATE != 0 then s
    else
      let differs := v != s.word pkSea SEAWALL_SEAL_CALC
      let s1 := if differs then s.setBit pkSea SEAWALL_COMM_MISMATCH true else s
      if !s.sea.mfPassed then s1.setBit pkSea SEAWALL_COMM_RANGE_FAIL true
      else if differs then s1 else s1.setFld pkSea SEAWALL_COMM_CSTATE 1)

/-- A seal key sequence fails (R418). -/
def State.sealKeyFail (s : State) : State :=
  let s1 := (s.setFld pkSea SEAWALL_COMM_CSTATE 0).cntS pkSea SEAWALL_COMM_KEY_FAIL
  { s1 with sea := { s1.sea with keyFirst := false } }

/-- R418: SEAL_KEY written. -/
def execSealKey (who : Initiator) (v : Word) (s : State) : Result :=
  let s := s.keyTaken pkSea who
  let sl := s.word pkSea SEAWALL_SEAL_CALC
  .next (if !s.rwdOpen then s.logClamp pkSea 6 0x54
    else if s.fld pkSea SEAWALL_COMM_CSTATE != 1 then s
    else if s.sea.keyFirst then
      if v = ~~~ sl then { s with sea := { s.sea with keyFirst := false } }.setFld pkSea SEAWALL_COMM_CSTATE 2
      else s.sealKeyFail
    else if v = sl then { s with sea := { s.sea with keyFirst := true } }
    else s.sealKeyFail)

/-- R418: 1 s passed after the first key word. -/
def execSealKeyTimeout (s : State) : Result :=
  .next (if s.fld pkSea SEAWALL_COMM_CSTATE = 1 ∧ s.sea.keyFirst then s.sealKeyFail else s)

/-- R418: 60 s in KEYED without the edge. -/
def execKeyedTimeout (s : State) : Result :=
  .next (if s.fld pkSea SEAWALL_COMM_CSTATE = 2 then s.setFld pkSea SEAWALL_COMM_CSTATE 0 else s)

/-- R418: the confirmation record is read back. -/
def execRecordReadback (equal : Bool) (s : State) : Result :=
  .next (if s.fld pkSea SEAWALL_COMM_CSTATE = 3 then
      if equal then
        (((s.setFld pkSea SEAWALL_COMM_CSTATE 4).setBit pkSea SEAWALL_STAT_CONFIRMED true).setFld pkSea SEAWALL_COMM_COUNT
          (s.fld pkSea SEAWALL_COMM_COUNT + 1)).requestUr .commissioning
      else
        ((s.setFld pkSea SEAWALL_COMM_CSTATE 0).setBit pkSea SEAWALL_COMM_WRITE_FAIL true).raise 0x19B 0x11 1
    else s)

end Sys2Proof.Machine
end

