-- ==== Sys2Proof/Machine/Boot.lean ====
section
/-!
DEFINITION. Machine/Boot.lean: MRAM banks, boot records, image verification and the update port (R113-R122, R129-R131).
-/
namespace Sys2Proof.Machine

/-- Base of bank 0 A or 1 B (R35, R114). -/
def bankBase (b : Nat) : Nat := if b = 0 then 0x10000000 else 0x10C00000

def State.setBoot (s : State) (f : Boot → Boot) : State := { s with boot := f s.boot }

/-! ### Boot records (R119) -/

/-- The record of a bank: SEQ and STATE, where it is valid. -/
def State.record (s : State) (b : Nat) : Option (Nat × Nat) :=
  let a := bankBase b + 0xBEF000
  if s.m32 a = 0x4B5A4252#32 ∧ s.m32 (a + 12) = crc32c (mbytes s.mem a 12) then some ((s.m32 (a + 4)).toNat, (s.m32 (a + 8)).toNat)
  else none

/-- The record in force: its bank, SEQ and STATE. -/
def State.recordInForce (s : State) : Option (Nat × Nat × Nat) :=
  match s.record 0, s.record 1 with
  | some a, some b =>
    let d := (b.1 + 2 ^ 32 - a.1) % 2 ^ 32
    if 1 ≤ d ∧ d < 2 ^ 31 then some (1, b) else some (0, a)
  | some a, none => some (0, a)
  | none, some b => some (1, b)
  | none, none => none

/-- STATE of the record in force, 0 where none is. -/
def State.recState (s : State) : Nat := match s.recordInForce with | some (_, _, st) => st | none => 0

def recPref (st : Nat) : Nat := st % 2
def recTry (st : Nat) : Bool := bitN st 1
def recTrial (st : Nat) : Bool := bitN st 2

/-- A new record is written into the bank whose record is not in force. -/
def State.writeBootRec (s : State) (st : Nat) : State :=
  let (b, q) := match s.recordInForce with | some (b, q, _) => (1 - b, (q + 1) % 2 ^ 32) | none => (0, 1)
  let a := bankBase b + 0xBEF000
  let s := ((s.setM32 a 0x4B5A4252#32).setM32 (a + 4) (BitVec.ofNat 32 q)).setM32 (a + 8) (BitVec.ofNat 32 st)
  let s := s.setM32 (a + 12) (crc32c (mbytes s.mem a 12))
  { s with mem := mzero s.mem (a + 16) 4080 }

/-! ### Images (R115, R116) -/

def State.imgWord (s : State) (b off : Nat) : Nat := (s.m32 (bankBase b + off)).toNat

/-- The fuse key slot that a bank's public key matches. -/
def State.imgSlot (s : State) (b : Nat) : Nat := Config.keySlot (mbytes s.mem (bankBase b + 0x40) 64)

/-- R116: the image of a bank is valid. -/
def State.imageValid (s : State) (b : Nat) : Bool :=
  let n := s.imgWord b 0x008
  let slot := s.imgSlot b
  s.imgWord b 0 == 0x4B5A3341 && s.imgWord b 4 == 1 && n % 64 == 0 && decide (n ≤ 12254976)
    && decide (slot < 3) && !(bitN (s.fld pkSec SEC_ROLLBACK_REVOKED) slot)
    && decide (s.fld pkSec SEC_ROLLBACK_COUNT ≤ s.imgWord b 0x010)
    && Config.ecdsaOk (mbytes s.mem (bankBase b + 0x40) 64) (mbytes s.mem (bankBase b + 0x80) 32)
      (mbytes s.mem (bankBase b + 0xA0) 32) (mbytes s.mem (bankBase b) 0x80 ++ mbytes s.mem (bankBase b + 0x100) n)

/-- What is known of a bank's image (R122). -/
def State.setImg (s : State) (b : Nat) (x : ImgSt) : State := s.setBoot (fun t => if b = 0 then { t with imgA := x } else { t with imgB := x })

/-- The bank whose record was found to ask for a trial is tried first (R117, R119). -/
def firstBank (st : Nat) : Nat := if recTry st then 1 - recPref st else recPref st

/-- The bank step 8 checks: the running one once settled, else the first to be tried (R415). -/
def State.checkBank (s : State) : Nat :=
  match s.boot.runBank, s.boot.toTry with
  | some b, _ => b
  | none, b :: _ => b
  | none, [] => firstBank s.recState

/-- Step 9 begins: the boot ROM's change of the record, and the order of the banks (R117, R119). -/
def State.beginTry (s : State) : State :=
  let st := s.recState
  let first := firstBank st
  let s :=
    if recTry st then s.writeBootRec (recPref st + 4)
    else if recTrial st then s.writeBootRec (recPref st)
    else s
  s.setBoot (fun t => { t with toTry := [first, 1 - first], trialFlood := recTry st })

/-- Duration of this Flood in ms, as TIDE_STAT.FLOOD_MS shows it (R91). -/
def State.floodMs (s : State) : Nat := min 255 ((s.cyc - s.pw.floodStart) / 400000)

/-- FLOOD_MS is written, a counter of class S (R67, R91). -/
def State.showFloodMs (s : State) : State :=
  let n := s.floodMs
  let s := s.setFld pkSys SYS_TIDE_STAT_FLOOD_MS n
  if n = 255 then s.modPage pkSys (fun p => { p with sat := true }) else s

/-- The power state changes; TIDE_STAT shows it, and the Seawall's conditions follow (R75, R80, R91). -/
def State.setTide (s : State) (t : Tide) : State :=
  let code := match t with | .flood => 1 | .high => 2 | .ebb => 3 | .dryDock => 4 | .slack => 0
  ({ s with pw := { s.pw with tide := t } }.setFld pkSys SYS_TIDE_STAT_TIDE code).enforce

/-- A bank's image is valid: it runs (R117, R130), and an outcome of the manifest check held for it latches or lapses
(R415). -/
def State.bankRuns (s : State) (b : Nat) (fallback : Bool) : State :=
  let s := s.setBoot (fun t => { t with runBank := some b, toTry := [] })
  let s := (((s.setImg b .valid).setFld pkSec SEC_BOOT_STAT_BANK b).setFld pkSec SEC_BOOT_STAT_KEY_SLOT (s.imgSlot b)).setFld pkSec
    SEC_BOOT_STAT_IMG_ROLLBACK (s.imgWord b 0x010)
  let s := (s.setBit pkSec SEC_BOOT_STAT_FALLBACK fallback).setBit pkSec SEC_BOOT_STAT_TRIAL (s.boot.trialFlood && !fallback)
  let h := s.sea.heldOutcome
  let s := { s with sea := { s.sea with heldOutcome := 0 } }
  if h != 0 && s.sea.mfBank == some b then s.hardCut h else s

/-- Both banks failed: Dry dock at once, with image loading on SPI5 (R117); a held outcome of the manifest check latches
(R415). -/
def State.noImageDock (s : State) : State :=
  let s := (s.raise 0x1FC 0x10 3).setBit pkSec SEC_BOOT_STAT_NO_IMAGE true
  let s := { s with pw := { s.pw with noImage := true }, boot := { s.boot with toTry := [] } }
  let h := s.sea.heldOutcome
  let s := { s with sea := { s.sea with heldOutcome := 0 } }
  let s := if h != 0 then s.hardCut h else s
  s.showFloodMs.setTide .dryDock

/-- The boot ROM finishes verifying one bank (R116, R117). -/
def State.verifyNext (s : State) : State :=
  match s.boot.toTry with
  | [] => s
  | b :: rest =>
    if s.imageValid b then s.bankRuns b rest.isEmpty
    else
      let s := ((s.setImg b .failed).setBit pkSec (if b = 0 then SEC_BOOT_STAT_FAIL_A else SEC_BOOT_STAT_FAIL_B) true).raise 0x1FC 0x10 1
      if rest.isEmpty then s.noImageDock else s.setBoot (fun t => { t with toTry := rest })

/-! ### Bank control (R118, R131) -/

/-- CONFIRM: the running trial bank becomes preferred and the fuse counter advances; ignored without a trial. -/
def State.bankConfirm (s : State) : State :=
  match s.boot.runBank with
  | some b =>
    if s.bit pkSec SEC_BOOT_STAT_TRIAL then
      let st := s.recState
      let s := (s.writeBootRec (b + 2 * b2n (recTry st))).setBit pkSec SEC_BOOT_STAT_TRIAL false
      s.setFld pkSec SEC_ROLLBACK_COUNT (max (s.fld pkSec SEC_ROLLBACK_COUNT) (s.imgWord b 0x010 % 64))
    else s
  | none => s

/-- TRY_OTHER: the next Flood tries the non-preferred bank. -/
def State.bankTry (s : State) : State :=
  let st := s.recState
  s.writeBootRec (recPref st + 2 + 4 * b2n (recTrial st))

/-- An accepted write of BANK_CTRL. -/
def State.bankCtrl (s : State) (v : Word) : State :=
  (s.when (bitN v.toNat 1) State.bankConfirm).when (bitN v.toNat 0) State.bankTry

/-- BANK_CTRL.PREF from the record in force. -/
def State.bankPref (s : State) : Word := BitVec.ofNat 32 (256 * recPref s.recState)

/-! ### The update port (R121, R122, R129) -/

/-- The inactive bank: the one that does not run. -/
def State.inactiveBank (s : State) : Nat := 1 - s.fld pkSec SEC_BOOT_STAT_BANK

/-- Word count of a target region. -/
def regionWords (manifest : Bool) : Nat := if manifest then 0x4000 else 0x2EC000
def regionBase (manifest : Bool) : Nat := if manifest then 0xBF0000 else 0

/-- OPEN: ignored while the port is open or a verification runs. -/
def State.updOpen (s : State) (target : Bool) : State :=
  if s.boot.portOpen || s.boot.verifying then s
  else
    let s := s.setBoot (fun t => { t with
      portOpen := true, portTarget := target, nonce := t.nonceIn, portWord := 0, overrun := false, manifestWritten := false })
    (s.setImg s.inactiveBank .unverified).setWord pkSec SEC_UPD_STAT 1#32

/-- A ciphertext word. -/
def State.updData (s : State) (w : Word) : State :=
  let t := s.boot
  if !t.portOpen then s
  else if regionWords t.portTarget ≤ t.portWord then
    (s.setBoot (fun t => { t with overrun := true })).setBit pkSec SEC_UPD_STAT_OVERRUN true
  else
    let a := bankBase s.inactiveBank + regionBase t.portTarget + 4 * t.portWord
    let s := s.setM32 a (w ^^^ Config.updKey t.nonce (t.portWord / 4) (t.portWord % 4))
    (s.setBoot (fun t => { t with portWord := t.portWord + 1, manifestWritten := t.manifestWritten || t.portTarget })).cntS pkSec
      SEC_UPD_STAT_WORDS

/-- CLOSE_VERIFY: the port closes and the inactive bank is verified. -/
def State.updClose (s : State) : State :=
  if s.boot.portOpen then
    ((s.setBoot (fun t => { t with portOpen := false, verifying := true })).setBit pkSec SEC_UPD_STAT_OPEN false).setBit pkSec
      SEC_UPD_STAT_BUSY true
  else s

/-- An accepted write of UPD_CTRL. -/
def State.updCtrl (s : State) (v : Word) : State :=
  (s.when (bitN v.toNat 0) (fun s => s.updOpen (bitN v.toNat 4))).when (bitN v.toNat 1) State.updClose

/-- Verification of the inactive bank ends (R121). -/
def State.updVerified (s : State) : State :=
  if s.boot.verifying then
    let b := s.inactiveBank
    let ok := s.imageValid b && !s.boot.overrun
    let s := (s.setBoot (fun t => { t with verifying := false })).setBit pkSec SEC_UPD_STAT_BUSY false
    let s := (s.setImg b (if ok then .valid else .failed)).setBit pkSec (if ok then SEC_UPD_STAT_VERIFY_OK else SEC_UPD_STAT_VERIFY_FAIL) true
    if s.boot.manifestWritten then s
    else { s with mem := mcopy s.mem (bankBase (1 - b) + 0xBF0000) (bankBase b + 0xBF0000) 0x10000 }
  else s

/-- Ebb while the port is open: it closes, the inactive bank unverified (R122). -/
def State.portCut (s : State) : State :=
  if s.boot.portOpen || s.boot.verifying then
    let s := s.setBoot (fun t => { t with portOpen := false, verifying := false })
    ((s.setImg s.inactiveBank .unverified).setBit pkSec SEC_UPD_STAT_OPEN false).setBit pkSec SEC_UPD_STAT_BUSY false
  else s

end Sys2Proof.Machine
end

