-- ==== Sys2Proof/Machine/EngineCmd.lean ====
section
/-!
DEFINITION. Machine/EngineCmd.lean: the commands of the control engines, swell learners, injection generators and captures
(R200-R283). Base tick and commit stand in Tick.lean.
-/
namespace Sys2Proof.Machine

/-! ### Inputs, check and pairing -/

/-- R24: a value written to an engine's input register is staged; each group takes it at its next start. -/
def execEngineInputWrite (who : Initiator) (engine slot : Nat) (v : Word) (s : State) : Result :=
  .next ((s.regWrite who (pkCe engine) (0x140 + 4 * (slot % 32)) v).1)

/-- R221: CTRL.GO: the program check runs; refused with CAUSE 5 in RUN and DRAIN. -/
def execGo (who : Initiator) (engine : Nat) (s : State) : Result :=
  .next (s.command (pkCe engine) who (fun s =>
    if s.busy (pkCe engine) then s.logClamp (pkCe engine) 5 0x044
    else s.setEng engine { s.eng engine with checking := true }))

/-- This engine is the lower, or the upper, of an enabled pair (R225). -/
def State.pairLower (s : State) (k : Nat) : Bool := k % 2 == 0 && s.bit (pkCe k) CE_CFG_PAIR
def State.pairUpper (s : State) (k : Nat) : Bool := k % 2 == 1 && s.bit (pkCe (k - 1)) CE_CFG_PAIR

/-- Codes 0x03 and 0x0A of one operation (R222). -/
def opBad03 (f : OpF) (u : OpUse) : Bool :=
  (u.dst == 0 && f.dst != 0) || (u.dst != 0 && !(dstLegal f.dst u.dst))
    || (if u.a then !(readable f.a) else f.a != 0) || (if u.b then !(readable f.b) else f.b != 0)
    || (if u.coef != 0 then !(decide (0x200 ≤ f.c ∧ f.c < 0x300)) else if u.c then !(readable f.c) else f.c != 0)
    || (u.st == 0 && f.s != 0) || f.aux &&& u.aux != f.aux || (f.op == 0x12 && f.aux % 4 == 3)

def opBad0A (f : OpF) (u : OpUse) : Bool :=
  (u.coef != 0 && decide (0x200 ≤ f.c ∧ 0x300 < f.c + u.coef)) || (u.st != 0 && decide (256 < f.s + u.st))

/-- P slots an operation writes, as destination or in its state block (R222). -/
def opSlots (f : OpF) (u : OpUse) : List Nat :=
  (if 0x100 ≤ f.dst ∧ f.dst < 0x200 then (List.range u.dst).map (fun i => f.dst - 0x100 + i) else [])
    ++ (List.range u.st).map (fun i => f.s + i)

/-- What the walk of the check remembers: P slots with the group that writes them, phases referenced, per group the cycles and
the words committed (P 0-255, O 256 on, references 512 on). -/
structure Walk where
  slots : List (Nat × Nat) := []
  refs : List Nat := []
  cyc : List (Nat × Nat) := []
  words : List (Nat × Nat) := []
  deriving DecidableEq, Repr

/-- The enabled groups in ascending number. -/
def State.enabledGroups (s : State) (k : Nat) : List Nat := (List.range 4).filter (fun g => s.grpEn k g)

/-- Stage 1 of R222: the code 0x06 and its CHECK_OP. -/
def State.checkRanges (s : State) (k : Nat) : Option (Nat × Nat) :=
  let gs := s.enabledGroups k
  match gs.find? (fun g => s.grpEnd k g < s.grpStart k g) with
  | some g => some (6, s.grpStart k g)
  | none =>
    let pairs := gs.flatMap (fun a => (gs.filter (fun b => a < b)).map (fun b => (a, b)))
    match pairs.find? (fun p => s.grpStart k p.1 ≤ s.grpEnd k p.2 && s.grpStart k p.2 ≤ s.grpEnd k p.1) with
    | some p => some (6, s.grpStart k p.2)
    | none => none

/-- Stage 2 of R222 at one operation: the lowest failing code, or the walk with the operation taken in. -/
def State.checkOp (s : State) (k g i : Nat) (w : Walk) : Nat ⊕ Walk :=
  let f := opFields (s.ceProg k i)
  match opUse f with
  | none => .inl 2
  | some u =>
    let ps := opSlots f u
    if opBad03 f u then .inl 3
    else if ps.any (fun p => w.slots.any (fun x => x.1 == p && x.2 != g)) then .inl 4
    else if f.op == 0x12 && w.refs.contains (f.aux % 4) then .inl 5
    else if f.op == 0x10 && s.fld (pkCe k) (CE_LINK_TYPE.ix (f.aux % 32)) == 0 then .inl 7
    else if opBad0A f u then .inl 10
    else
      let ws := ps ++ (if f.op = 0x11 then [256 + f.aux % 32] else []) ++ (if f.op = 0x12 then [512 + f.aux % 4] else [])
      .inr { slots := w.slots ++ ps.map (fun p => (p, g))
             refs := if f.op = 0x12 then w.refs ++ [f.aux % 4] else w.refs
             cyc := tput w.cyc g (tget 0 w.cyc g + u.cyc)
             words := ws.foldl (fun l x => if l.contains (g, x) then l else l ++ [(g, x)]) w.words }

/-- The examined operations in ascending index, each with its group. -/
def State.examined (s : State) (k : Nat) : List (Nat × Nat) :=
  (List.range 256).filterMap (fun i =>
    match (s.enabledGroups k).find? (fun g => s.grpStart k g ≤ i && i ≤ s.grpEnd k g) with
    | some g => some (i, g)
    | none => none)

/-- Stage 2 of R222 over the examined operations. -/
def State.checkWalk (s : State) (k : Nat) : List (Nat × Nat) → Walk → (Nat × Nat) ⊕ Walk
  | [], w => .inr w
  | (i, g) :: t, w =>
    match s.checkOp k g i w with
    | .inl c => .inl (c, i)
    | .inr w1 => s.checkWalk k t w1

/-- WCET of a group (R214). -/
def Walk.wcet (w : Walk) (g : Nat) : Nat := 32 + tget 0 w.cyc g + 8 + (w.words.filter (fun x => x.1 == g)).length

/-- Stage 3 of R222: links and the angle SST of a pair, then the schedule bound of R223. -/
def State.checkLast (s : State) (k : Nat) (w : Walk) : Option (Nat × Nat) :=
  let gs := s.enabledGroups k
  let link := (List.range 32).find? (fun i => s.fld (pkCe k) (CE_LINK_TYPE.ix i) == 5 && !(s.pairUpper k))
  let ssts := (s.examined k).filter (fun x => let f := opFields (s.ceProg k x.1); f.op == 0x11 && f.aux % 32 == 31)
  let t := 200 * s.fld (pkCe 0) CE_TICK_CFG_PERIOD
  let load (g : Nat) : Nat := w.wcet g + ((gs.filter (fun m => m < g)).map (fun m =>
    ((s.grpN k g + s.grpN k m - 1) / s.grpN k m + 1) * (w.wcet m + 40))).foldl (· + ·) 0
  match link with
  | some i => some (9, i)
  | none =>
    if s.pairLower k && ssts.length != 1 then
      some (9, match ssts with | _ :: x :: _ => x.1 | _ => match gs with | g :: _ => s.grpStart k g | [] => 0)
    else match gs.find? (fun g => s.grpN k g * t < load g) with
      | some g => some (8, s.grpStart k g)
      | none => none

/-- The check fails with a code and an index (R221, R222). -/
def State.checkFail (s : State) (k : Nat) (c : Nat × Nat) : State :=
  ((s.setFld (pkCe k) CE_STAT_CHECK c.1).setFld (pkCe k) CE_STAT_CHECK_OP c.2).irq (pkCe k) 10

/-- R221-R223: the program check ends. -/
def execCheckComplete (engine : Nat) (s : State) : Result :=
  let k := engine
  let e := s.eng k
  .next (if !e.checking then s
    else
      let s := s.setEng k { e with checking := false }
      match s.checkRanges k with
      | some c => s.checkFail k c
      | none => match s.checkWalk k (s.examined k) {} with
        | .inl c => s.checkFail k c
        | .inr w => match s.checkLast k w with
          | some c => s.checkFail k c
          | none =>
            let s := (s.setFld (pkCe k) CE_STAT_CHECK 1).setFld (pkCe k) CE_STAT_CHECK_OP 0
            let s := forL (s.enabledGroups k) (fun g s => s.setFld (pkCe k) (CE_GRP_TIME_WCET.ix g 16) (w.wcet g)) s
            ({ s with mem := mcopy s.mem (cePAddr k 0) (ceImgAddr k 0) 0x400 }).irq (pkCe k) 11)

/-! ### Operations (R204-R207, R616-R618) -/

/-- The next operation of the engine's running group, where it has this opcode; no effect otherwise. -/
def State.capstan (s : State) (k code : Nat) (f : Nat → Run → OpF → State) : State :=
  match s.activeRun k with
  | some (g, r) =>
    let o := opFields (s.ceProg k r.pc)
    if s.busy (pkCe k) && r.started && r.pc ≤ s.grpEnd k g && o.op == code then f g r o else s
  | none => s

/-- An operation of one result. -/
def State.op1 (s : State) (k code : Nat) (f : (Nat → Nat) → OpF → FRes) : State :=
  s.capstan k code (fun g r o => let x := f (s.opnd k g r) o; s.opDone k g [(o.dst, x.1)] x.2)

/-- R204: NOP. -/
def execCapstanNop (engine : Nat) (s : State) : Result :=
  .next (s.capstan engine 0x00 (fun g _ _ => s.nextOp engine g))

/-- R204: MOV; the bits are moved as they are (R616). -/
def execCapstanMov (engine : Nat) (s : State) : Result := .next (s.op1 engine 0x01 (fun rd o => (rd o.a, {})))
/-- R204: ADD. -/
def execCapstanAdd (engine : Nat) (s : State) : Result := .next (s.op1 engine 0x02 (fun rd o => fadd f32 (rd o.a) (rd o.b)))
/-- R204: SUB. -/
def execCapstanSub (engine : Nat) (s : State) : Result := .next (s.op1 engine 0x03 (fun rd o => fsub f32 (rd o.a) (rd o.b)))
/-- R204: MUL. -/
def execCapstanMul (engine : Nat) (s : State) : Result := .next (s.op1 engine 0x04 (fun rd o => fmul f32 (rd o.a) (rd o.b)))
/-- R204: FMA, rounded once. -/
def execCapstanFma (engine : Nat) (s : State) : Result :=
  .next (s.op1 engine 0x05 (fun rd o => ffma f32 (rd o.a) (rd o.b) (rd o.c)))

/-- A signalling NaN. -/
def isSnan (a : Nat) : Bool := (fdec f32 a).isSnan

/-- minimumNumber (max := false) or maximumNumber of R205. -/
def fminmax (mx : Bool) (a b : Nat) : FRes :=
  let fl : FFlags := { nv := isSnan a || isSnan b }
  if fIsNan f32 a && fIsNan f32 b then (f32.nanPat, fl)
  else if fIsNan f32 a then (b, fl)
  else if fIsNan f32 b then (a, fl)
  else if (fordKey f32 a < fordKey f32 b) != mx then (a, {}) else (b, {})

/-- R204: MIN. -/
def execCapstanMin (engine : Nat) (s : State) : Result := .next (s.op1 engine 0x06 (fun rd o => fminmax false (rd o.a) (rd o.b)))
/-- R204: MAX. -/
def execCapstanMax (engine : Nat) (s : State) : Result := .next (s.op1 engine 0x07 (fun rd o => fminmax true (rd o.a) (rd o.b)))
/-- R616: ABS clears the sign bit. -/
def execCapstanAbs (engine : Nat) (s : State) : Result := .next (s.op1 engine 0x08 (fun rd o => (fabsP (rd o.a), {})))
/-- R616: NEG inverts the sign bit. -/
def execCapstanNeg (engine : Nat) (s : State) : Result := .next (s.op1 engine 0x09 (fun rd o => (fnegP f32 (rd o.a), {})))
/-- R204: SEL by the sign bit of C. -/
def execCapstanSel (engine : Nat) (s : State) : Result :=
  .next (s.op1 engine 0x0A (fun rd o => (if rd o.c / 0x80000000 % 2 = 0 then rd o.a else rd o.b, {})))
/-- R204: DIV. -/
def execCapstanDiv (engine : Nat) (s : State) : Result := .next (s.op1 engine 0x0B (fun rd o => fdiv f32 (rd o.a) (rd o.b)))
/-- R204: SQRT. -/
def execCapstanSqrt (engine : Nat) (s : State) : Result := .next (s.op1 engine 0x0C (fun rd o => fsqrt f32 (rd o.a)))
/-- R617: WRAP. -/
def execCapstanWrap (engine : Nat) (s : State) : Result :=
  .next (s.op1 engine 0x0D (fun rd o => fwrap (rd o.a) (o.aux % 2 == 1)))

/-- An SLD delivers a value with its stale mark (R210). -/
def State.sldTake (s : State) (k g : Nat) (o : OpF) (v : Word) (stale : Bool) : State :=
  if stale && bitN o.aux 5 then s.abandonRun k g .stale
  else
    let s := if stale then (s.setBit (pkCe k) (CE_GRP_FLAGS_STALE_SEEN.ix g 16) true).irq (pkCe k) 12 else s
    s.opDone k g [(o.dst, v.toNat)] {}

/-- The partner angle published during a run's release tick (R225). -/
def State.partnerAngle (s : State) (k : Nat) (r : Run) : Option (Word × Bool) :=
  ((s.eng (k - 1)).pubs.find? (fun x => x.1 == r.tick)).map (fun x => (x.2, (s.eng (k - 1)).pubStale))

/-- R204, R209, R210, R225: SLD from the snapshot, or the partner's angle, for which it waits. -/
def execCapstanSld (engine : Nat) (s : State) : Result :=
  .next (s.capstan engine 0x10 (fun g r o =>
    let i := o.aux % 32
    if s.fld (pkCe engine) (CE_LINK_TYPE.ix i) = 5 then
      match s.partnerAngle engine r with
      | some x => s.sldTake engine g o x.1 x.2
      | none => s
    else let x := r.links.getD i (0#32, true); s.sldTake engine g o x.1 x.2))

/-- R225: the partner-angle wait exceeds PAIR_TMO: the last published value is taken as stale. -/
def execPairTimeout (engine : Nat) (s : State) : Result :=
  .next (s.capstan engine 0x10 (fun g r o =>
    if s.fld (pkCe engine) (CE_LINK_TYPE.ix (o.aux % 32)) = 5 && (s.partnerAngle engine r).isNone then
      let v := match (s.eng (engine - 1)).pubs with | x :: _ => x.2 | [] => 0#32
      ((s.irq (pkCe engine) 13).raise (0x080 + engine) 0x05 1).sldTake engine g o v true
    else s))

/-- The lower engine publishes its angle in the tick that runs now; a run spans at most 255 ticks (R213, R225). -/
def State.publish (s : State) (k : Nat) (w : Word) : State :=
  let now := s.word (pkCe 0) CE_TICKNO
  let e := s.eng k
  s.setEng k { e with pubs := (now.toNat, w) :: e.pubs.filter (fun x => x.1 != now.toNat && decide ((now - BitVec.ofNat 32 x.1).toNat < 256))
                      pubStale := false }

/-- R204, R217, R225: SST; an angle in slot 31 of a lower engine is published at once. -/
def execCapstanSst (engine : Nat) (s : State) : Result :=
  .next (s.capstan engine 0x11 (fun g r o =>
    let v := s.opnd engine g r o.a
    if !(fIsFinite f32 v) then s.abandonRun engine g .nonFinite
    else
      let w := BitVec.ofNat 32 v
      let s := if s.pairLower engine && o.aux % 32 == 31 then
          s.publish engine w
        else s
      (s.setRun engine g { r with stO := tput r.stO (o.aux % 32) w }).nextOp engine g))

/-- R204, R217: REF. -/
def execCapstanRef (engine : Nat) (s : State) : Result :=
  .next (s.capstan engine 0x12 (fun g r o =>
    let v := s.opnd engine g r o.a
    if !(fIsFinite f32 v) then s.abandonRun engine g .nonFinite
    else (s.setRun engine g { r with stR := tput r.stR (o.aux % 4) (BitVec.ofNat 32 v) }).nextOp engine g))

/-- Results chained with their flags. -/
def FRes.then' (x : FRes) (f : Nat → FRes) : FRes := let y := f x.1; (y.1, x.2.or y.2)

/-- R204: CLK: each step of the expressions rounded in the order written (log entry 26). -/
def execCapstanClk (engine : Nat) (s : State) : Result :=
  .next (s.capstan engine 0x18 (fun g r o =>
    let rd := s.opnd engine g r
    let c : FRes := if o.aux % 2 = 1 then fsub f32 (fnegP f32 (rd o.a)) (rd o.b) else (rd o.c, {})
    let d := ((fmul f32 0x40000000 (rd o.a)).then' (fun x => fsub f32 x (rd o.b))).then' (fun x => fsub f32 x c.1)
      |>.then' (fun x => fdiv f32 x 0x40400000)
    let q := (fsub f32 (rd o.b) c.1).then' (fun x => fmul f32 x (kConst 6))
    s.opDone engine g [(o.dst, d.1), (o.dst + 1, q.1)] (c.2.or (d.2.or q.2))))

/-- R204, R616: ICLK (log entry 26). -/
def execCapstanIclk (engine : Nat) (s : State) : Result :=
  .next (s.capstan engine 0x19 (fun g r o =>
    let rd := s.opnd engine g r
    let h := fdiv f32 (fnegP f32 (rd o.a)) 0x40000000
    let b := fmul f32 (rd o.b) (kConst 7)
    let x := fadd f32 h.1 b.1
    let y := fsub f32 h.1 b.1
    s.opDone engine g [(o.dst, if fIsNan f32 (rd o.a) then f32.nanPat else rd o.a), (o.dst + 1, x.1), (o.dst + 2, y.1)] (h.2.or (b.2.or (x.2.or y.2)))))

/-- Sine and cosine of an operand with the flag of a signalling NaN or an infinity (R205, R618). -/
def trig (t : Nat) : Nat × Nat × FFlags :=
  match fdec f32 t with
  | .fin _ _ _ => (Config.fsin t, Config.fcos t, {})
  | .inf _ => (f32.nanPat, f32.nanPat, { nv := true })
  | .nan g => (f32.nanPat, f32.nanPat, { nv := g })

/-- a·c + b·s and its like, each step rounded (log entry 26). -/
def mul2add (a x b y : Nat) (sub : Bool) : FRes :=
  let p := fmul f32 a x
  let q := fmul f32 b y
  let r := if sub then fsub f32 p.1 q.1 else fadd f32 p.1 q.1
  (r.1, p.2.or (q.2.or r.2))

/-- R204: PARK. -/
def execCapstanPark (engine : Nat) (s : State) : Result :=
  .next (s.capstan engine 0x1A (fun g r o =>
    let rd := s.opnd engine g r
    let (sn, cs, fl) := trig (rd o.c)
    let d := mul2add (rd o.a) cs (rd o.b) sn false
    let q := mul2add (rd o.b) cs (rd o.a) sn true
    s.opDone engine g [(o.dst, d.1), (o.dst + 1, q.1)] (fl.or (d.2.or q.2))))

/-- R204: IPARK. -/
def execCapstanIpark (engine : Nat) (s : State) : Result :=
  .next (s.capstan engine 0x1B (fun g r o =>
    let rd := s.opnd engine g r
    let (sn, cs, fl) := trig (rd o.c)
    let d := mul2add (rd o.a) cs (rd o.b) sn true
    let q := mul2add (rd o.a) sn (rd o.b) cs false
    s.opDone engine g [(o.dst, d.1), (o.dst + 1, q.1)] (fl.or (d.2.or q.2))))

/-- a > b as R206 compares; false with a NaN. -/
def fgt (a b : Nat) : Bool := !(fIsNan f32 a) && !(fIsNan f32 b) && flt f32 b a

/-- The coefficient block and the state block of an operation. -/
def State.coefs (s : State) (k g : Nat) (r : Run) (o : OpF) (i : Nat) : Nat := s.opnd k g r (o.c + i)
def State.slotP (s : State) (k g : Nat) (r : Run) (o : OpF) (i : Nat) : Nat := s.opnd k g r (0x100 + o.s + i)

/-- min(max(x, lo), hi) with flags. -/
def clamp2 (x lo hi : Nat) : FRes := (fminmax true x lo).then' (fun y => fminmax false y hi)

/-- R206: PI. -/
def execCapstanPi (engine : Nat) (s : State) : Result :=
  .next (s.capstan engine 0x20 (fun g r o =>
    let c := s.coefs engine g r o
    let e := s.opnd engine g r o.a
    let i := s.slotP engine g r o 0
    let u := ffma f32 (c 0) e i
    let d := clamp2 u.1 (c 2) (c 3)
    let hold := (fgt u.1 (c 3) && fgt e 0) || (fgt (c 2) u.1 && fgt 0 e)
    let n : FRes := if hold then (i, {}) else (ffma f32 (c 1) e i).then' (fun x => clamp2 x (c 2) (c 3))
    s.opDone engine g [(o.dst, d.1), (0x100 + o.s, n.1)] (u.2.or (d.2.or n.2))))

/-- R206, R616: HYS: its output is moved and no flag is set. -/
def execCapstanHys (engine : Nat) (s : State) : Result :=
  .next (s.capstan engine 0x21 (fun g r o =>
    let c := s.coefs engine g r o
    let x := s.opnd engine g r o.a
    let h0 := s.slotP engine g r o 0
    let h := if fgt x (c 0) then 0x3F800000 else if fgt (c 1) x then 0 else h0
    s.opDone engine g [(o.dst, if h = 0x3F800000 then c 2 else c 3), (0x100 + o.s, h)] {}))

/-- R206: BIQ: DST is written last, as the text writes them. -/
def execCapstanBiq (engine : Nat) (s : State) : Result :=
  .next (s.capstan engine 0x22 (fun g r o =>
    let c := s.coefs engine g r o
    let x := s.opnd engine g r o.a
    let s1 := s.slotP engine g r o 0
    let s2 := s.slotP engine g r o 1
    let y := ffma f32 (c 0) x s1
    let p0 := (ffma f32 (c 1) x s2).then' (fun z => ffma f32 (fnegP f32 (c 3)) y.1 z)
    let p1 := (fmul f32 (c 2) x).then' (fun z => ffma f32 (fnegP f32 (c 4)) y.1 z)
    s.opDone engine g [(0x100 + o.s, p0.1), (0x100 + o.s + 1, p1.1), (o.dst, y.1)] (y.2.or (p0.2.or p1.2))))

/-- R204, R616: LIM; a NaN A gives the canonical NaN. -/
def execCapstanLim (engine : Nat) (s : State) : Result :=
  .next (s.capstan engine 0x23 (fun g r o =>
    let a := s.opnd engine g r o.a
    let b := fabsP (s.opnd engine g r o.b)
    let lo := if o.aux % 2 = 1 then fnegP f32 b else s.coefs engine g r o 0
    let hi := if o.aux % 2 = 1 then b else s.coefs engine g r o 1
    let x : FRes := if fIsNan f32 a then fnan f32 (isSnan a || isSnan lo || isSnan hi) else clamp2 a lo hi
    s.opDone engine g [(o.dst, x.1)] x.2))

/-- R206: SLEW. -/
def execCapstanSlew (engine : Nat) (s : State) : Result :=
  .next (s.capstan engine 0x24 (fun g r o =>
    let x := s.opnd engine g r o.a
    let p := s.slotP engine g r o 0
    let d := ((fsub f32 x p).then' (fun y => fminmax true y (fnegP f32 (s.coefs engine g r o 1)))).then' (fun y =>
      fminmax false y (s.coefs engine g r o 0))
    let z := d.then' (fun y => fadd f32 p y)
    s.opDone engine g [(o.dst, z.1), (0x100 + o.s, z.1)] z.2))

/-- R207, R264: SWL; with AUX[2] a learning sample is handed over, the first of its table in the run and only from the teaching
group. -/
def execCapstanSwl (engine : Nat) (s : State) : Result :=
  .next (s.capstan engine 0x28 (fun g r o =>
    let j := o.aux % 4
    let a := s.opnd engine g r o.a
    let red := fwrap a false
    let v := s.swLookup engine j red.1
    let give := bitN o.aux 2
    let takes := decide (s.fld (pkSw engine) (SW_TBL_CFG_TEACH.ix j 0x40) = g) && !(tmem r.teach j)
    let s := if give && takes then
        s.setRun engine g { r with teach := tput r.teach j (BitVec.ofNat 32 a, BitVec.ofNat 32 (s.opnd engine g r o.b)) }
      else if give then s.cntS (pkSw engine) (SW_TBL_CNT_IGNORED.ix j 0x40) else s
    s.opDone engine g [(o.dst, v.1)] (red.2.or v.2)))

/-- R204, R273, R616: INJ: the release tick's sample is added at an armed point, else the bits are moved. -/
def execCapstanInj (engine : Nat) (s : State) : Result :=
  .next (s.capstan engine 0x29 (fun g r o =>
    let a := s.opnd engine g r o.a
    let x : FRes := if bitN r.injPoints (o.aux % 16) then fadd f32 a r.inj.toNat else (a, {})
    s.opDone engine g [(o.dst, x.1)] x.2))

/-- R204, R275: CAP: the value is staged for its capture channel. -/
def execCapstanCap (engine : Nat) (s : State) : Result :=
  .next (s.capstan engine 0x2A (fun g r o =>
    let v := BitVec.ofNat 32 (s.opnd engine g r o.a)
    (s.setRun engine g { r with stCap := tput r.stCap (o.aux % 8) v }).nextOp engine g))

/-! ### Swell learners (R267-R269) -/

/-- R269: CMD.CLEAR takes effect at the next base-tick boundary. -/
def execClear (who : Initiator) (engine : Nat) (tables : BitVec 4) (s : State) : Result :=
  .next (s.command (pkSw engine) who (fun s => forN 4 (fun j s => if bitN tables.toNat j then
    s.setSwt (swKey engine j) { s.swt (swKey engine j) with clearReq := true } else s) s))

/-- R268: CMD.RESUME recomputes S and clears GUARD where the RMS is at or below RMSLIM. -/
def State.swResume (s : State) (k j : Nat) : State :=
  let s := s.swRecompute k j
  let rms := rmsOf (s.swt (swKey k j)).sum
  let lim := (s.word (pkSw k) (SW_TBL_RMSLIM.ix j 0x40)).toNat
  if !(fIsNan f32 rms) && !(flt f32 lim rms) then s.setBit (pkSw k) (SW_TBL_STAT_GUARD.ix j 0x40) false else s

/-- R268: CMD.RESUME. -/
def execResume (who : Initiator) (engine : Nat) (tables : BitVec 4) (s : State) : Result :=
  .next (s.command (pkSw engine) who (fun s =>
    forN 4 (fun j s => if bitN tables.toNat j then s.swResume engine j else s) s))

/-! ### Injection (R272) -/

/-- R272: CMD.ARM; a start tick already passed by less than 2^31 ticks starts at the next boundary. -/
def execInjectionArm (who : Initiator) (engine : Nat) (s : State) : Result :=
  .next (s.command (pkIj engine) who (fun s =>
    let pk := pkIj engine
    let now := s.word (pkCe 0) CE_TICKNO
    let st := s.word pk IJ_START_TICK
    let late := decide ((now - st).toNat < 2 ^ 31)
    if s.ijGen engine = 0 && s.fld pk IJ_CFG_WAVE != 0 && flt f32 0 (s.word pk IJ_LIMIT).toNat && s.st pk == .idle then
      let s := (s.setInj engine { late := late }).ijGo engine 1
      if late then s.setBit pk IJ_STAT_LATE_START true else s
    else s))

/-- R272: CMD.STOP: ARMED is disarmed, RUN ends at the next boundary. -/
def execInjectionStop (who : Initiator) (engine : Nat) (s : State) : Result :=
  .next (s.command (pkIj engine) who (fun s =>
    match s.ijGen engine with
    | 1 => (s.setInj engine {}).ijGo engine 0
    | 2 => s.setInj engine { s.inj engine with stopReq := true }
    | _ => s))

/-! ### Captures (R274-R277) -/

/-- The segment map's code of segment g (R282). -/
def State.segCode (s : State) (g : Nat) : Nat := bitsN (s.word pkCp (CP_SEGMAP.ix (g / 8))).toNat (4 * (g % 8) + 3) (4 * (g % 8))

/-- A segment's code and the free count. -/
def State.setSeg (s : State) (g c : Nat) : State :=
  let w := s.word pkCp (CP_SEGMAP.ix (g / 8))
  let s := s.setWord pkCp (CP_SEGMAP.ix (g / 8)) (BitVec.ofNat 32 (putBitsN w.toNat (4 * (g % 8)) 4 c))
  s.setFld pkCp CP_POOL_FREE ((List.range 64).filter (fun i => s.segCode i == 0)).length

/-- The registers that show a claim (R282). -/
def State.showClaim (s : State) (k : Nat) : State :=
  let segs := (s.capt k).segs
  let z := s.capSize k
  let bits (lo : Nat) : Word := BitVec.ofNat 32 ((segs.filter (fun g => lo ≤ g && g < lo + 32)).foldl (fun n g => n + 2 ^ (g - lo)) 0)
  let s := (s.setWord pkCp (CP_CAP_SEGLO.ix k 0x40) (bits 0)).setWord pkCp (CP_CAP_SEGHI.ix k 0x40) (bits 32)
  let s := s.setFld pkCp (CP_CAP_STAT_NSEG.ix k 0x40) segs.length
  (s.setFld pkCp (CP_CAP_CAP_SIZE.ix k 0x40) z).setFld pkCp (CP_CAP_CAP_N.ix k 0x40) (segs.length * (2048 / z))

/-- R274: CMD.CLAIM grants the lowest free segments whole, or is refused and counted. -/
def execCaptureClaim (who : Initiator) (engine nseg : Nat) (s : State) : Result :=
  .next (s.command pkCp who (fun s =>
    let n := clampN 1 64 nseg
    let s := if n = nseg then s else s.logClamp pkCp 0 (0x090 + 0x40 * engine)
    let free := (List.range 64).filter (fun g => s.segCode g == 0)
    if s.capState engine = 0 ∧ n ≤ free.length then
      let segs := free.take n
      let s := forL segs (fun g s => s.setSeg g (engine + 1)) s
      ((s.setCapt engine { segs := segs }).setCapState engine 1).showClaim engine
    else (s.cntS pkCp CP_REFUSED_N).setBit pkCp (CP_CAP_STAT_REFUSED.ix engine 0x40) true))

/-- R274: CMD.ARM: writing starts at record 0. -/
def execCaptureArm (who : Initiator) (engine : Nat) (s : State) : Result :=
  .next (s.command pkCp who (fun s =>
    if s.capState engine = 1 ∨ s.capState engine = 4 then
      let s := s.showClaim engine
      let cap := s.fld pkCp (CP_CAP_CAP_N.ix engine 0x40)
      let pre := min (s.fld pkCp (CP_CAP_PRE_N.ix engine 0x40)) (cap - 1)
      let s := s.setCapt engine { segs := (s.capt engine).segs, pre := pre }
      (s.setFld pkCp (CP_CAP_COUNT_N.ix engine 0x40) 0).setCapState engine 2
    else s))

/-- R276: CMD.FORCE: the next record is the software trigger; ignored outside ARMED. -/
def execCaptureForce (who : Initiator) (engine : Nat) (s : State) : Result :=
  .next (s.command pkCp who (fun s =>
    if s.capState engine = 2 then s.setCapt engine { s.capt engine with force := true } else s))

/-- R274: CMD.RELEASE: writing stops and the segments are cleared one after another. -/
def execCaptureRelease (who : Initiator) (engine : Nat) (s : State) : Result :=
  .next (s.command pkCp who (fun s =>
    if s.capState engine = 0 then s
    else
      let segs := (s.capt engine).segs
      let s := forL segs (fun g s => s.setSeg g 8) s
      { ((s.setCapt engine {}).setCapState engine 0).showClaim engine with clearing := s.clearing ++ segs }))

/-- R274: the segment being cleared is clear, and free. -/
def execSegmentCleared (s : State) : Result :=
  .next (match s.clearing with
    | [] => s
    | g :: t => { (s.setSeg g 0) with clearing := t, mem := mzero s.mem (0x34000000 + 0x2000 * g) 0x2000 })

end Sys2Proof.Machine
end

