-- ==== Sys2Proof/Machine/Links.lean ====
section
/-!
DEFINITION. Machine/Links.lean: the streams that engine links and Cove inputs name, each with its newest value and stale mark
(R208, R343). A producer page not in RUN delivers its last value stale (R53).
-/
namespace Sys2Proof.Machine

/-- TYPE 1: the newest precise sample of a phase in amperes. -/
def State.phaseStream (s : State) (k : Nat) : Word × Bool :=
  (s.word (pkCs k) CS_AMPS, s.bit (pkCs k) CS_PRECISE_STALE || !(s.running (pkCs k)))

/-- TYPE 2: a field of the newest base-tick record of a sounding channel (R208). -/
def State.scField (s : State) (k field : Nat) : Word :=
  let pk := pkSc k
  let f32w (n : Nat) : Word := BitVec.ofNat 32 n
  match field with
  | 0 => s.word pk SC_ANGLE_E
  | 1 => s.word pk SC_ANGLE_M
  | 2 => s.word pk SC_SPEED
  | 3 =>
    let frac := (fdiv f32 (fofInt f32 (s.word pk SC_ANGLE).toNat).1 (fofInt f32 (s.cpr k)).1).1
    f32w (fadd f32 (fofInt f32 (s.word pk SC_REV).toInt).1 frac).1
  | 4 => f32w (fofInt f32 (s.snd k).dpos.toInt).1
  | _ =>
    f32w (fmul f32 (fofInt f32 (s.word pk SC_LATCH_TS - s.word pk SC_EDGE_TS).toNat).1 gtSeconds).1

def State.scStream (s : State) (k field : Nat) : Word × Bool :=
  (s.scField k field, s.bit (pkSc k) SC_STAT_STALE || !(s.running (pkSc k)))

/-- TYPE 3: the newest released value of a Cove output stream (R335). -/
def State.coveStream (s : State) (k n : Nat) : Word × Bool := (s.word (pkCv k) (CV_OUT.ix n), !(s.running (pkCv k)))

/-- TYPE 4: an entry of the agreed input set. -/
def State.agreedStream (s : State) (e : Nat) : Word × Bool := tget (0#32, true) s.agreed e

/-- An O slot of an engine as committed. -/
def State.engineStream (s : State) (k o : Nat) : Word × Bool := (s.word (pkCe k) (CE_OUT.ix o), !(s.running (pkCe k)))

/-- What a Cove input link delivers at the moment of its read (R343). -/
def State.coveLink (s : State) (k n : Nat) : Word × Bool :=
  let w := (s.word (pkCv k) (CV_LINK.ix n)).toNat
  match bitsN w 31 28 with
  | 1 => s.phaseStream (min 17 (bitsN w 4 0))
  | 2 => s.scStream (min 11 (bitsN w 11 8)) (bitsN w 2 0)
  | 3 => s.coveStream (bitsN w 9 8) (bitsN w 3 0)
  | 4 => s.agreedStream (bitsN w 7 0)
  | 5 => s.engineStream (min 5 (bitsN w 10 8)) (bitsN w 4 0)
  | _ => (0#32, true)

end Sys2Proof.Machine
end

