-- ==== Sys2Proof/Machine/Cove.lean ====
section
/-!
DEFINITION. Machine/Cove.lean: the Cove pairs: registers and hazards, address generation, memories and the I/O window, the
coupling of main and checker core, and the issue of one instruction (R319-R366). A core's instruction reads program memory at
its PC; one command issues one instruction, which is one COVE cycle (R327).
-/
namespace Sys2Proof.Machine

/-! ### Registers (R323, R324, R328, R332) -/

abbrev cvAC : Nat := 0x10
abbrev cvA : Nat := 0x18
abbrev cvM : Nat := 0x20
abbrev cvSR : Nat := 0x28
abbrev cvLR : Nat := 0x29
abbrev cvILR : Nat := 0x2A
abbrev cvISR : Nat := 0x2B
abbrev cvFLR : Nat := 0x2C
abbrev cvFSR : Nat := 0x2D
abbrev cvLC : Nat := 0x2E
/-- The circular bases (R325) and the accumulators as MAC and FTAP accumulate into them (R328). -/
abbrev cvBase : Nat := 0x30
abbrev cvFwd : Nat := 0x48

/-- A register has a shadow copy (R323, R332). -/
def cvShadowed (n : Nat) : Bool := n < 0x14 || (0x18 ≤ n && n < 0x28) || (0x30 ≤ n && n < 0x38) || (0x48 ≤ n && n < 0x4C)

/-- Width of a register. -/
def cvWidth (n : Nat) : Nat :=
  if n < 0x10 then 32 else if n < 0x18 then 72 else if n < 0x20 then 16 else if n < 0x28 then 32
  else if n = 0x29 ∨ n = 0x2A ∨ n = 0x2C ∨ (0x30 ≤ n ∧ n < 0x38) then 16 else if 0x48 ≤ n ∧ n < 0x50 then 72 else 32

/-- The key of a register in the bank in use. -/
def CvCore.key (c : CvCore) (n : Nat) : Nat := if c.bank && cvShadowed n then n + 0x80 else n

/-- A register as an instruction reads it: results that have not landed are not seen (R327). -/
def CvCore.get (c : CvCore) (n : Nat) : Nat := tget 0 c.rf (c.key n) % 2 ^ cvWidth n

/-- A register as EX of a later instruction reads An and Mn (R328 names only address generation). -/
def CvCore.exGet (c : CvCore) (n : Nat) : Nat :=
  match (c.land.filter (fun l => l.key == c.key n)).getLast? with
  | some l => l.val
  | none => c.get n

/-- The RW fields of SR (R324). -/
abbrev cvSrRw : Nat := 0x31F

/-- SR with its RW fields replaced. -/
def cvSrMerge (old new : Nat) : Nat := old - old.land cvSrRw + new.land cvSrRw

/-- A write at a key. -/
def CvCore.putKey (c : CvCore) (key v : Nat) : CvCore :=
  let n := key % 0x80
  let v := if n = cvSR then cvSrMerge (tget 0 c.rf key) v else v % 2 ^ cvWidth n
  { c with rf := tput c.rf key v }

/-- A result of an operation: it stands at once. An accumulator's replaces what has not landed (log entry 28). -/
def CvCore.put (c : CvCore) (n v : Nat) : CvCore :=
  let c := c.putKey (c.key n) v
  if cvAC ≤ n ∧ n < cvA then
    let c := c.putKey (c.key (n - cvAC + cvFwd)) v
    { c with land := c.land.filter (fun l => l.key != c.key n) }
  else c

/-- What lands at the end of this instruction's EX. -/
def CvCore.landTick (c : CvCore) : CvCore :=
  let due := c.land.filter (fun l => l.left ≤ 1)
  let c := { c with land := (c.land.filter (fun l => 1 < l.left)).map (fun l => { l with left := l.left - 1 }) }
  due.foldl (fun c l => c.putKey l.key l.val) c

/-- Everything lands: no instruction issues for at least three cycles (R332, R355). -/
def CvCore.landAll (c : CvCore) : CvCore :=
  { c.land.foldl (fun c l => c.putKey l.key l.val) c with land := [], olds := [] }

/-- SR flags: C, V, Z, N; none leaves a flag as it is (R363). SL is sticky (R360). -/
structure CvFlags where
  c : Option Bool := none
  v : Option Bool := none
  z : Option Bool := none
  n : Option Bool := none
  sl : Bool := false
  deriving DecidableEq, Repr

def cvSetFlags (sr : Nat) (f : CvFlags) : Nat :=
  let put (i : Nat) (o : Option Bool) (x : Nat) : Nat := match o with | some b => putBitN x i b | none => x
  let x := put 3 f.n (put 2 f.z (put 1 f.v (put 0 f.c sr)))
  if f.sl then putBitN x 4 true else x

/-! ### Address generation (R325) -/

/-- An address after an update d. -/
def cvUpdate (a b m : Nat) (d : Int) : Nat :=
  let len := max 1 (m % 65536)
  match bitsN m 31 30 with
  | 1 =>
    let off := ((a : Int) - b) % (len : Int)
    (((b : Int) + (off + d) % (len : Int)) % 65536).toNat
  | 2 =>
    let k := Nat.log2 len
    let lo := a % 2 ^ k
    a - lo + revBits k ((((revBits k lo : Int) + d) % (2 ^ k : Int)).toNat)
  | _ => (((a : Int) + d) % 65536).toNat

/-- STEP of a modifier. -/
def cvStep (m : Nat) : Int := sgn 14 (bitsN m 29 16)

/-- An after an update d. -/
def CvCore.moved (c : CvCore) (n : Nat) (d : Int) : Nat :=
  cvUpdate (c.get (cvA + n)) (c.get (cvBase + n)) (c.get (cvM + n)) d

/-! ### Instruction words (R344-R358) -/

/-- A move field of a parallel word. -/
structure CvMove where
  op : Nat
  a : Nat
  step : Bool
  d : Nat
  deriving DecidableEq, Repr

def cvMove (m : Nat) : CvMove := ⟨bitsN m 8 7, bitsN m 6 4, bitN m 3, bitsN m 2 0⟩
def cvX (w : Nat) : CvMove := cvMove (bitsN w 17 9)
def cvY (w : Nat) : CvMove := cvMove (bitsN w 8 0)
def cvF1 (w : Nat) : Nat := bitsN w 26 24
def cvF2 (w : Nat) : Nat := bitsN w 23 21
def cvF3 (w : Nat) : Nat := bitsN w 20 18

/-- A parallel word is legal (R345-R347, R358). -/
def cvParLegal (w : Nat) : Bool :=
  let x := cvX w
  let y := cvY w
  let pop := bitsN w 30 27
  let mv := x.op != 3 && y.op != 3 && (x.op != 0 || bitsN w 17 9 == 0) && (y.op != 0 || bitsN w 8 0 == 0)
  let pair := !(x.op == 1 && y.op == 1 && x.d == y.d) && !(x.op != 0 && y.op != 0 && x.a == y.a)
  let f := match pop with
    | 0x0 => bitsN w 26 18 == 0
    | 0xD => decide (cvF3 w ≤ 1)
    | 0xE => decide (cvF3 w < 4)
    | 0xF => bitsN w 23 18 == 0
    | _ => true
  mv && pair && f

/-- Register-class operations by which of their fields must be 0 (R349). -/
def cvRLegal (w : Nat) : Bool :=
  let rop := bitsN w 26 21
  let dd := bitsN w 20 17
  let dt := bitsN w 12 9
  let one := [0x06, 0x07, 0x08, 0x16, 0x17, 0x18, 0x19, 0x1B, 0x1C, 0x1D, 0x1E].contains rop
  let cmp := rop == 0x02 || rop == 0x1A
  decide (rop ≤ 0x1E) && rop != 0x0F && bitsN w 8 0 == 0 && (!one || dt == 0) && (!cmp || dd == 0)

/-- A single-form word is legal (R348-R354, R358). -/
def cvSingleLegal (w : Nat) : Bool :=
  match bitsN w 30 27 with
  | 0x0 => cvRLegal w
  | 0x1 =>
    let op := bitsN w 26 24
    bitsN w 19 16 == 0 && op != 7 && (!(4 ≤ op && op ≤ 6) || bitsN w 15 5 == 0)
  | 0x2 => bitsN w 20 16 == 0 && decide (bitsN w 26 24 ≤ 3)
  | 0x3 => bitsN w 14 0 == 0 && decide (bitsN w 26 21 < 0x2E) && decide (bitsN w 20 15 ≤ 0x2E)
  | 0x4 => bitN w 24 == false && bitsN w 19 16 == 0
  | 0x5 => bitsN w 13 0 == 0
  | 0x6 =>
    let bop := bitsN w 26 24
    bitsN w 19 16 == 0 && decide (bop ≤ 4) && (bop ≤ 1 || bitsN w 15 0 == 0) && (bop ≤ 2 || bitsN w 23 20 == 0)
  | 0x7 => bitsN w 26 10 == 0
  | 0x8 => bitsN w 14 0 == 0 && bitsN w 22 20 != bitsN w 19 17
  | _ => false

/-- A word is a legal instruction (R358). -/
def cvLegal (w : Nat) : Bool := if bitN w 31 then cvSingleLegal w else cvParLegal w

/-- Which instruction a word is: POP, or 0x40 + ROP, 0x80 + IOP, 0x90 + AOP, 0xA0 M, 0xA1 L load, 0xA2 L store, 0xA3 S,
0xB0 + BOP, 0xB8 REP, 0xB9 FTAP. -/
def cvCode (w : Nat) : Nat :=
  if !(bitN w 31) then bitsN w 30 27
  else match bitsN w 30 27 with
    | 0x0 => 0x40 + bitsN w 26 21
    | 0x1 => 0x80 + bitsN w 26 24
    | 0x2 => 0x90 + bitsN w 26 24
    | 0x3 => 0xA0
    | 0x4 => if bitN w 25 then 0xA2 else 0xA1
    | 0x5 => 0xA3
    | 0x6 => 0xB0 + bitsN w 26 24
    | 0x7 => 0xB8
    | _ => 0xB9

/-- A branch, call, return or REP. -/
def cvIsFlow (w : Nat) : Bool := cvLegal w && (0xB0 ≤ cvCode w && cvCode w ≤ 0xB8)

/-- Why the next instruction of a core is illegal, as a cause of EXC (R329, R341, R358). -/
def CvCore.bad (c : CvCore) (w : Nat) : Option Nat :=
  if !(cvLegal w) then some 1
  else if cvIsFlow w && (c.delay.isSome || c.rep != 0) then some 3
  else none

/-! ### Faults of a pair (R337, R340) -/

abbrev cvSource (k : Nat) : Nat := 0x100 + 16 * k

/-- Divergence: DIVERGE records cause and count, the pair goes to FAULT (R337). -/
def State.cvDiverge (s : State) (k cause kind off : Nat) : State :=
  let s := s.setWord (pkCv k) CV_DIVERGE (BitVec.ofNat 32 (cause * 2 ^ 24 + (s.cove k).main.retired % 2 ^ 24))
  ((s.irq (pkCv k) 10).raise (cvSource k + off) kind 2).faultPage (pkCv k)

/-- An exception in both cores: EXC records cause and PC (R337). -/
def State.cvExcept (s : State) (k cause pc kind : Nat) : State :=
  let s := s.setWord (pkCv k) CV_EXC (BitVec.ofNat 32 (cause * 2 ^ 24 + pc))
  ((s.irq (pkCv k) 9).raise (cvSource k) kind 2).faultPage (pkCv k)

/-- An exception of one core. The main core stops; the checker's is compared with it at the same retired count (R337). -/
def State.cvExc (s : State) (k : Nat) (chk : Bool) (cause : Nat) : State :=
  let c := s.cvCore k chk
  if chk then
    match (s.cove k).main.exc with
    | some e => if c.retired = (s.cove k).main.retired then s.cvExcept k e.1 e.2 0x06 else s.cvDiverge k 4 0x03 1
    | none => s.cvDiverge k 4 0x03 1
  else s.setCvCore k chk { c with exc := some (cause, c.pc) }

/-- An uncorrectable word in either memory copy (R322, R337). -/
def State.cvEcc (s : State) (k : Nat) : State := s.cvExcept k 4 (s.cove k).main.pc 0x02

/-! ### Memories (R319, R321, R322, R365) -/

def cvPAddr (k w : Nat) : Nat := 0x31000000 + k * 0x100000 + 4 * w
def cvXAddr (k w : Nat) : Nat := 0x31040000 + k * 0x100000 + 4 * w
def cvYAddr (k w : Nat) : Nat := 0x31060000 + k * 0x100000 + 4 * w
def cvAddr (k : Nat) (y : Bool) (w : Nat) : Nat := if y then cvYAddr k w else cvXAddr k w

def State.cvMem (s : State) (chk : Bool) : List Host.Cell := if chk then s.ckMem else s.mem

/-- The instruction word at a core's PC. -/
def State.cvWord (s : State) (k : Nat) (chk : Bool) : Nat := mgetN (s.cvMem chk) (cvPAddr k (s.cvCore k chk).pc) 4

/-- An address of a space faults (R319). -/
def cvFaults (y : Bool) (a : Nat) : Bool := if y then 0x8000 ≤ a else 0x8080 ≤ a

/-- The key of a data word among the `olds`. -/
def cvOldKey (y : Bool) (a : Nat) : Nat := a + (if y then 0x10000 else 0)

/-- The old value that a read still sees. -/
def CvCore.oldOf (c : CvCore) (key : Nat) : Option Word := (c.olds.find? (fun o => o.key == key)).map (·.old)

/-- A data word as a read in MR sees it (R365). -/
def State.cvPeek (s : State) (k : Nat) (chk y : Bool) (a : Nat) : Word :=
  match (s.cvCore k chk).oldOf (cvOldKey y a) with
  | some w => w
  | none => BitVec.ofNat 32 (mgetN (s.cvMem chk) (cvAddr k y a) 4)

/-- The state with an old value remembered. -/
def State.cvRemember (s : State) (k : Nat) (chk : Bool) (key : Nat) (w : Word) (left : Nat) : State :=
  let c := s.cvCore k chk
  s.setCvCore k chk { c with olds := c.olds ++ [⟨key, w, left⟩] }

/-- A data word stored. -/
def State.cvPoke (s : State) (k : Nat) (chk y : Bool) (a : Nat) (w : Word) : State :=
  let ad := cvAddr k y a
  let s := s.cvRemember k chk (cvOldKey y a) (BitVec.ofNat 32 (mgetN (s.cvMem chk) ad 4)) 1
  if chk then { s with ckMem := msetN s.ckMem ad 4 w.toNat } else { s with mem := msetN s.mem ad 4 w.toNat }

/-! ### Signatures (R336, R366) -/

def State.cvSign (s : State) (k : Nat) (chk : Bool) (bytes : List Byte) : State :=
  let c := s.cvCore k chk
  s.setCvCore k chk { c with sig := bytes.foldl crcByte c.sig }

/-- The bytes of a register write. -/
def cvRegBytes (n v : Nat) : List Byte := leBytes n 1 ++ leBytes v (if cvAC ≤ n ∧ n < cvA then 9 else 4)

/-- A core closes its window (R336). The main core halts where a HALTREQ or a drain asked for it (R339). -/
def State.cvClose (s : State) (k : Nat) (chk : Bool) : State :=
  let v := s.cove k
  let c := v.core chk
  let entry := (c.retired, c.sig ^^^ 0xFFFFFFFF#32)
  let c := { c with win := 0, sig := 0xFFFFFFFF#32, closeNow := false }
  if chk then
    s.setCove k { v with ckSigs := v.ckSigs ++ [entry], chk := { c with halted := v.main.halted && c.retired == v.main.retired } }
  else
    let stop := v.haltReq || s.st (pkCv k) == .drain
    s.setCove k { v with sigs := v.sigs ++ [entry], closeReq := false, main := { c with halted := stop } }

/-! ### Interrupt causes (R330) -/

/-- A page routes its interrupt to a pair (R49, R50). -/
def State.routedToCv (s : State) (k : Nat) : Bool :=
  s.pages.any (fun x => s.irqLevel x.1 && x.2.route.getLsbD (8 + k))

/-- IFLAG: the latched pulses, and source 11 while it is asserted. -/
def State.cvIflag (s : State) (k : Nat) : Word :=
  let f := (s.cove k).iflag
  if s.routedToCv k then f ||| 0x800#32 else f

/-! ### The I/O window (R320, R334, R335) -/

/-- Reads marked E. -/
def cvEchoed (a : Nat) : Bool :=
  (0x8000 ≤ a && a ≤ 0x8022) || a == 0x8024 || a == 0x8030 || a == 0x8053 || a == 0x8054

/-- Writes marked H. -/
def cvHeld (a : Nat) : Bool := (0x8040 ≤ a && a ≤ 0x804F) || (0x8050 ≤ a && a ≤ 0x8052)

/-- Writes that act at once. -/
def cvAtOnce (a : Nat) : Bool := a == 0x8023 || a == 0x8030 || a == 0x8060 || a == 0x8061

/-- What the main core reads at an echoed word. -/
def State.cvIoRead (s : State) (k a : Nat) : Word :=
  let v := s.cove k
  if a ≤ 0x801F then (s.coveLink k (a - 0x8000)).1
  else match a with
    | 0x8020 => BitVec.ofNat 32 ((List.range 32).foldl (fun n i => n + b2n (s.coveLink k i).2 * 2 ^ i) 0)
    | 0x8021 => s.word (pkCe 0) CE_TICKNO
    | 0x8022 => BitVec.ofNat 32 (v.cycles + 4)
    | 0x8024 => BitVec.ofNat 32 v.timerCnt
    | 0x8030 => (v.main.olds.filter (fun o => o.key == 0x8030)).foldl (fun w o => w ||| o.old) (s.cvIflag k)
    | 0x8053 => v.farRdata
    | 0x8054 => BitVec.ofNat 32 (b2n v.far.isSome + 2 * b2n v.farErr)
    | _ => 0#32

/-- A core reads a data word: memory, or the I/O window, where the main core's echoed reads go to the checker (R334). -/
def State.cvLoad (s : State) (k : Nat) (chk y : Bool) (a : Nat) : State × Word :=
  if y || a < 0x8000 then (s, s.cvPeek k chk y a)
  else if cvEchoed a then
    if chk then
      match (s.cove k).echo with
      | .read b w :: t =>
        if a = b then (s.setCove k { s.cove k with echo := t }, w) else (s.cvDiverge k 2 0x03 1, 0#32)
      | _ => (s.cvDiverge k 2 0x03 1, 0#32)
    else
      let w := s.cvIoRead k a
      (s.setCove k { s.cove k with echo := (s.cove k).echo ++ [.read a w] }, w)
  else if (cvHeld a && a != 0x8052) || a == 0x8023 then
    let c := s.cvCore k chk
    (s, match c.oldOf a with | some w => w | none => tget 0#32 c.outs a)
  else (s, 0#32)

/-- A far access starts (R320). A FAR_CTRL write while one runs is ignored and sets ERR. -/
def State.farStart (s : State) (k : Nat) (ctrl : Word) : State :=
  let v := s.cove k
  if ctrl.toNat % 4 = 0 then s
  else if v.far.isSome then s.setCove k { v with farErr := true }
  else s.setCove k { v with far := some (!(ctrl.getLsbD 0), v.farAddr, v.farWdata) }

/-- A held entry is released (R335): an OUT word is published, FAR_CTRL starts the access. -/
def State.cvRelease (s : State) (k a : Nat) (w : Word) : State :=
  let v := s.cove k
  if 0x8040 ≤ a ∧ a ≤ 0x804F then s.setWord (pkCv k) (CV_OUT.ix (a - 0x8040)) w
  else if a = 0x8050 then s.setCove k { v with farAddr := w }
  else if a = 0x8051 then s.setCove k { v with farWdata := w }
  else s.farStart k w

/-- The checker writes a held word: the oldest entry is released, or discarded on a difference (R335, R337). -/
def State.cvMatch (s : State) (k a : Nat) (w : Word) : State :=
  let v := s.cove k
  match v.hold with
  | (b, x) :: t => if a = b ∧ w = x then (s.setCove k { v with hold := t }).cvRelease k a w else s.cvDiverge k 1 0x03 1
  | [] => s.cvDiverge k 1 0x03 1

/-- A write that acts at once, by the main core (R320, R336, R339). -/
def State.cvAct (s : State) (k a : Nat) (w : Word) : State :=
  let v := s.cove k
  if a = 0x8023 then s.setCove k { v with timerLoad := w, timerCnt := w.toNat }
  else if a = 0x8030 then s.setCove k { v with iflag := v.iflag &&& ~~~ w }
  else
    let c := { v.main with closeNow := true }
    s.setCove k { v with main := c, haltReq := v.haltReq || a == 0x8061 }

/-- A core writes a word of the I/O window. -/
def State.cvIoWrite (s : State) (k : Nat) (chk : Bool) (a : Nat) (w : Word) : State :=
  let c := s.cvCore k chk
  let own := (cvHeld a && a != 0x8052) || a == 0x8023
  let left := if cvAtOnce a then 2 else 1
  let old : Word := if a = 0x8030 then (s.cove k).iflag &&& w else tget 0#32 c.outs a
  let s := if own || a == 0x8030 then s.cvRemember k chk a old left else s
  let c := s.cvCore k chk
  let s := if own then s.setCvCore k chk { c with outs := tput c.outs a w } else s
  let v := s.cove k
  if cvHeld a then
    if chk then s.cvMatch k a w else s.setCove k { v with hold := v.hold ++ [(a, w)] }
  else if cvAtOnce a then
    if chk then
      match v.ioq with
      | (b, x) :: t =>
        if a = b ∧ w = x then
          let c := { v.chk with closeNow := v.chk.closeNow || a == 0x8060 || a == 0x8061 }
          s.setCove k { v with ioq := t, chk := c }
        else s.cvDiverge k 1 0x03 1
      | [] => s.cvDiverge k 1 0x03 1
    else (s.setCove k { v with ioq := v.ioq ++ [(a, w)] }).cvAct k a w
  else s

/-- A core stores a data word (R336: the store enters the signature). -/
def State.cvStore (s : State) (k : Nat) (chk y : Bool) (a : Nat) (w : Word) : State :=
  let s := s.cvSign k chk ([if y then 0x81#8 else 0x80#8] ++ leBytes a 2 ++ leBytes w.toNat 4)
  if y || a < 0x8000 then s.cvPoke k chk y a w else s.cvIoWrite k chk a w

/-! ### Issue of one instruction -/

/-- What an instruction does. -/
structure CvFx where
  /-- Results that stand at once, with the register number. -/
  now : List (Nat × Nat) := []
  /-- MAC and FTAP results, by accumulator: at once for accumulation, two slots later for other reads. -/
  mac : List (Nat × Nat) := []
  /-- Moves that land two slots later; those marked false are circular bases, which are no register writes. -/
  late : List (Nat × Nat) := []
  flags : CvFlags := {}
  loads : List (Bool × Nat × Nat) := []
  stores : List (Bool × Nat × Word) := []
  /-- Post-updates of address registers. -/
  post : List (Nat × Nat) := []
  /-- Further addresses read, and X addresses that must not lie in the I/O window (R326, R357). -/
  reads : List (Bool × Nat) := []
  noWindow : List Nat := []
  delay : Option CvDelay := none
  rep : Nat := 0
  deriving DecidableEq, Repr

/-- An address of the instruction faults (R326). -/
def CvFx.faults (f : CvFx) : Bool :=
  f.loads.any (fun x => cvFaults x.1 x.2.1) || f.stores.any (fun x => cvFaults x.1 x.2.1)
    || f.reads.any (fun x => cvFaults x.1 x.2) || f.noWindow.any (fun a => 0x8000 ≤ a)

/-- The entry of the echo FIFO that the checker meets next is an acceptance at this count (R334). -/
def Cove.acceptDue (v : Cove) : Option Bool :=
  match v.echo with
  | .accept fast n :: _ => if n = v.chk.retired then some fast else none
  | _ => none

/-- The checker has reached the count at which the main core closed its next window. -/
def Cove.closeDue (v : Cove) : Bool :=
  match v.sigs[v.ckSigs.length]? with
  | some e => e.1 == v.chk.retired
  | none => false

/-- A core can issue an instruction: its page runs, no window of its own waits to be closed, and the checker stays behind the
main core (R334, R336). -/
def State.cvReady (s : State) (k : Nat) (chk : Bool) : Bool :=
  let v := s.cove k
  let c := v.core chk
  s.busy (pkCv k) && c.exc.isNone && !c.halted &&
    (if chk then
      (decide (c.retired < v.main.retired) || (v.main.exc.isSome && c.retired == v.main.retired))
        && v.acceptDue.isNone && !v.closeDue
    else decide (c.win < s.fld (pkCv k) CV_CHK_WIN))

/-- The PC, the delay slots and the repetition after an instruction (R328, R354-R356). -/
def CvCore.advance (c : CvCore) (f : CvFx) : CvCore :=
  let next := (c.pc + 1) % 65536
  if 1 < c.rep then { c with rep := c.rep - 1 }
  else
    let c := { c with pc := next, rep := f.rep }
    match c.delay with
    | none => { c with delay := f.delay }
    | some d =>
      if 1 < d.left then { c with delay := some { d with left := d.left - 1 } }
      else
        let c := { c with delay := none }
        match d.act with
        | .none => c
        | .jump => { c with pc := d.target }
        | .call lr => ({ c with pc := d.target }).putKey cvLR lr
        | .reti sr => { c with pc := d.target, rf := tput c.rf cvSR ((sr.land 0x231F) % 2 ^ 14) }
        | .retf sr => { c with pc := d.target, bank := false, rf := tput c.rf cvSR (sr.land 0x131F) }

/-- LR written by a CALL at the end of its slots is a register write (R366). -/
def cvCallBytes (c : CvCore) : List Byte :=
  match c.delay with
  | some { left := 1, act := .call lr, .. } => cvRegBytes cvLR lr
  | _ => []

/-- After an instruction: a window that closes with it (R336, R339). -/
def State.cvAfter (s : State) (k : Nat) (chk : Bool) : State :=
  let v := s.cove k
  let c := v.core chk
  if c.closeNow || (!chk && v.closeReq && c.rep == 0) then s.cvClose k chk else s

/-- An instruction without an address fault: reads in MR, EX, results, retirement. -/
def State.cvRun (s : State) (k : Nat) (chk : Bool) (f : CvFx) : State :=
  let ld := f.loads.foldl (fun (x : State × List (Nat × Nat)) l =>
    let y := x.1.cvLoad k chk l.1 l.2.1
    (y.1, x.2 ++ [(l.2.2, y.2.toNat)])) (s, [])
  let s := ld.1
  let c := s.cvCore k chk
  let olds := (c.olds.map (fun o => { o with left := o.left - 1 })).filter (fun o => 0 < o.left)
  let regs := f.now ++ f.mac.map (fun x => (cvAC + x.1, x.2)) ++ f.late.filter (fun x => x.1 < cvBase) ++ ld.2
  let c := f.post.foldl (fun c x => c.putKey (c.key (cvA + x.1)) x.2) c
  let c := c.landTick
  let c := f.now.foldl (fun c x => c.put x.1 x.2) c
  let c := f.mac.foldl (fun c x => c.putKey (c.key (cvFwd + x.1)) x.2) c
  let c := { c with rf := tput c.rf cvSR (cvSetFlags (tget 0 c.rf cvSR) f.flags) }
  let lates := (f.mac.map (fun x => (cvAC + x.1, x.2)) ++ f.late ++ ld.2).map (fun x => (⟨c.key x.1, x.2, 2⟩ : CvLand))
  let sig := (regs.flatMap (fun x => cvRegBytes x.1 x.2)).foldl crcByte c.sig
  let sig := (cvCallBytes c).foldl crcByte sig
  let s := s.setCvCore k chk { c with land := c.land ++ lates, olds := olds, sig := sig }
  let s := forL f.stores (fun x s => s.cvStore k chk x.1 x.2.1 x.2.2) s
  let c := s.cvCore k chk
  let s := s.setCvCore k chk { c.advance f with retired := c.retired + 1, win := c.win + 1 }
  let v := s.cove k
  let s := if chk then s else s.setCove k { v with cycles := v.cycles + 1, timerCnt := v.timerCnt - 1 }
  if s.busy (pkCv k) then s.cvAfter k chk else s

/-- The next instruction of a core, where its word is the one named by `code`: its effect by `fx` (R327). A core with another
word at its PC issues nothing under this name. -/
def State.cvIssue (s : State) (k : Nat) (chk : Bool) (code : Nat) (fx : State → CvCore → Nat → CvFx) : State :=
  let c := s.cvCore k chk
  let w := s.cvWord k chk
  if decide (k < 4) && s.cvReady k chk && (c.bad w).isNone && cvCode w == code then
    let f := fx s c w
    if f.faults then
      let s := s.setCvCore k chk (f.post.foldl (fun c x => c.putKey (c.key (cvA + x.1)) x.2) c)
      s.cvExc k chk 2
    else if chk && (s.cove k).main.exc.isSome && c.retired == (s.cove k).main.retired then s.cvDiverge k 4 0x03 1
    else s.cvRun k chk f
  else s

/-! ### Page states (R337, R339) -/

/-- CTRL.START with the page in IDLE: both cores start at ENTRY with registers at 0 (R323, R339). -/
def State.coveStart (s : State) (k : Nat) : State :=
  let v := s.cove k
  let c : CvCore := { pc := s.fld (pkCv k) CV_CFG_ENTRY }
  if s.st (pkCv k) == .idle then
    (s.setCove k { v with main := { c with outs := v.main.outs }, chk := { c with outs := v.chk.outs }, haltReq := false
                          closeReq := false, cycles := 0 }).setSt (pkCv k) .run
  else s

/-- The pair stops at the close of its last window, once the checker has reached the main core's count (R339). -/
def State.cvStop (s : State) (k : Nat) : State :=
  if s.st (pkCv k) == .drain then (s.setBit (pkCv k) CV_STAT_HALTED false).goOff (pkCv k)
  else (((s.cvLeaves k).setSt (pkCv k) .idle).setBit (pkCv k) CV_STAT_HALTED true).irq (pkCv k) 8

end Sys2Proof.Machine
end

