-- ==== Sys2Proof/Machine/Harbour.lean ====
section
/-!
DEFINITION. Machine/Harbour.lean: the Harbourmaster: intake, processing slots, levels, incidents, reactions and history
(R425-R447).
-/
namespace Sys2Proof.Machine

/-! ### Owners and lanes (R433, R434) -/

/-- The page that owns a source, as the block chapters assign it. -/
def ownerPage (src : Nat) : Option Nat :=
  let inR' (lo n : Nat) : Bool := decide (lo ≤ src) && decide (src < lo + n)
  if inR' 0x020 18 then some (pkCs (src - 0x020))
  else if src = 0x032 then some pkCst
  else if inR' 0x040 18 then some (pkHl (src - 0x040))
  else if inR' 0x052 6 then some (pkHc (src - 0x052))
  else if inR' 0x060 12 then some (pkSc (src - 0x060))
  else if src = 0x06C then some pkSx
  else if inR' 0x080 6 then some (pkCe (src - 0x080))
  else if inR' 0x086 6 then some (pkSw (src - 0x086))
  else if inR' 0x08C 6 then some (pkIj (src - 0x08C))
  else if src = 0x092 then some pkCp
  else if inR' 0x0A0 18 then some (pkGl (src - 0x0A0))
  else if inR' 0x0B2 6 then some (pkGb (src - 0x0B2))
  else if inR' 0x0C0 18 then some (pkIs (src - 0x0C0))
  else if inR' 0x100 64 then some (pkCv ((src - 0x100) / 16))
  else if inR' 0x140 64 then (if src % 16 = 3 then some (pkQg ((src - 0x140) / 16)) else some (pkAc ((src - 0x140) / 16)))
  else if inR' 0x1A0 2 then some (pkMa (src - 0x1A0))
  else if inR' 0x1A2 4 then some (pkPort (src - 0x1A2))
  else if inR' 0x1A6 2 then some pkMs
  else if inR' 0x1A8 2 then some (pkMa (src - 0x1A8))
  else if src = 0x1AA then some pkBth
  else if inR' 0x1C0 2 then some (pkMp (src - 0x1C0))
  else if src = 0x1C2 then some pkBol
  else if inR' 0x1C3 4 then some pkWg
  else if inR' 0x200 4 then some (pkCan (src - 0x200))
  else if inR' 0x204 6 then some (pkSpi (src - 0x204))
  else if inR' 0x20A 8 then some (pkSent (src - 0x20A))
  else if inR' 0x212 2 then some (pkGa (src - 0x212))
  else if src = 0x220 then some pkDr
  else if inR' 0x221 12 then some pkByt
  else if inR' 0x22D 16 then some pkByv
  else if src = 0x23D then some pkByp
  else none

/-- The bridge whose leg group is a source's lane. -/
def laneBridge (src : Nat) : Option Nat :=
  match srcGroup src with
  | 5 => some ((src - 0x040) / 3)
  | 6 => if src < 0x058 then some (src - 0x052) else none
  | 10 => some ((src - 0x0A0) / 3)
  | 11 => if src < 0x0B8 then some (src - 0x0B2) else none
  | 12 => some ((src - 0x0C0) / 3)
  | 22 => some ((src - 0x180) / 3)
  | 23 => if src < 0x198 then some (src - 0x192) else none
  | _ => none

/-- The sensor supply that is a source's lane (R517). -/
def laneSupply (src : Nat) : Option Nat := if 0x214 ≤ src ∧ src < 0x218 then some (src - 0x214) else none

/-- The pages of a source's lane (R434). -/
def lanePages (src : Nat) : List Nat :=
  match laneBridge src with
  | some m => [pkGb m, pkGl (3 * m), pkGl (3 * m + 1), pkGl (3 * m + 2)]
  | none =>
    let g := srcGroup src
    if 18 ≤ g ∧ g ≤ 21 then [pkAc (g - 18), pkQg (g - 18)]
    else if g = 3 ∨ g = 7 ∨ g = 8 ∨ g = 9 ∨ (14 ≤ g ∧ g ≤ 17) ∨ g = 24 ∨ g = 25 ∨ g = 27 ∨ g = 28 then
      match ownerPage src with | some k => [k] | none => []
    else []

/-- A source has a lane. -/
def hasLane (src : Nat) : Bool := (lanePages src).length != 0 || (laneSupply src).isSome

/-- A source lies in the output path (R433). -/
def inOutputPath (src : Nat) : Bool :=
  let g := srcGroup src
  g == 10 || g == 11 || g == 12 || g == 22 || g == 23 || (decide (18 ≤ g ∧ g ≤ 21) && src % 16 == 3)

/-! ### Intake (R427-R431) -/

/-- LINE_LVL of a group. -/
def State.lineLvl (s : State) (g : Nat) : Nat :=
  let w := (s.word pkHm (if g < 16 then HM_LINE_LVL0 else HM_LINE_LVL1)).toNat
  bitsN w (2 * (g % 16) + 1) (2 * (g % 16))

/-- A 64-bit Tidemark time, ns. -/
def State.tmNs (s : State) : BitVec 64 := BitVec.ofNat 64 (s.ma.tm / 2 ^ 32)

/-- The quiet period in BUS cycles. -/
def State.quietCycles (s : State) : Nat := s.fld pkHm HM_LIMITS_QUIET * 400000

/-- An entry is dropped (R430, R431). -/
def State.hmDrop (s : State) (p : Pennant) : State :=
  let g := srcGroup p.source
  let x := s.srcSt p.source
  let first := match s.hm.lastDrop with | none => true | some t => decide (t + s.quietCycles ≤ s.cyc)
  let s := (s.cntS pkHm HM_CNT_DROPPED).setSrc p.source { x with dropped := satInc 255 x.dropped }
  let old := tget [] s.hm.heldSrc g
  let s := { s with hm := { s.hm with
    held := tput s.hm.held g (max (tget 0 s.hm.held g) p.level)
    heldSrc := tput s.hm.heldSrc g (if old.contains p.source then old else old ++ [p.source])
    lastDrop := some s.cyc } }
  if first then ((s.cntS pkHm HM_CNT_OVERRUNS).irq pkHm 13).raise 0x240 0x14 1 else s

/-- Captures armed on an admitted pennant take their trigger at the next record (R276). -/
def State.capPennant (s : State) (p : Pennant) : State :=
  forN 6 (fun k s =>
    if s.capState k == 2 && s.fld pkCp (CP_CAP_CFG_TRIG.ix k 0x40) == 3 && p.kind != 0#6
        && s.fld pkCp (CP_CAP_TSRC_SRC.ix k 0x40) == p.source && decide (s.fld pkCp (CP_CAP_TSRC_TLVL.ix k 0x40) ≤ p.level) then
      s.setCapt k { s.capt k with pennant := true }
    else s) s

/-- A pennant or a line record reaches the intake: admitted or dropped (R430). -/
def State.intake (s : State) (p : Pennant) : State :=
  let x := s.srcSt p.source
  let soon := match x.lastAdm with | some t => decide (s.cyc < t + 400) | none => false
  if soon || decide (64 ≤ s.hm.queue.length) then s.hmDrop p
  else
    let s := s.setSrc p.source { x with lastAdm := some s.cyc, admitted := satInc 65535 x.admitted }
    let q := s.hm.queue ++ [⟨p, s.tmNs⟩]
    let s := { s with hm := { s.hm with queue := q } }
    (s.setFld pkHm HM_QUEUE_PEAK (max (s.fld pkHm HM_QUEUE_PEAK) q.length)).capPennant p

/-- The machinery's own report of a lost or unpaired report (R428): LOST counts. -/
def State.hmLost (s : State) : State := (s.cntS pkHm HM_CNT_LOST).irq pkHm 12

/-- The pennant of a 64-bit word (R426). -/
def pennantOf (w : BitVec 64) : Pennant :=
  let n := w.toNat
  ⟨bitsN n 63 54, BitVec.ofNat 6 (bitsN n 53 48), bitsN n 47 46, BitVec.ofNat 6 (bitsN n 45 40), BitVec.ofNat 8 (bitsN n 39 32),
   BitVec.ofNat 32 n⟩

/-- The word of a pennant. -/
def Pennant.word (p : Pennant) : BitVec 64 :=
  BitVec.ofNat 64 (p.source * 2 ^ 54 + p.kind.toNat * 2 ^ 48 + p.level * 2 ^ 46 + p.seq.toNat * 2 ^ 40 + p.detail.toNat * 2 ^ 32
    + p.addr.toNat)

/-- A pennant that arrived whole: SEQ, line check and intake (R427-R430, R439). -/
def State.takePennant (s : State) (p : Pennant) : State :=
  if 0x280 ≤ p.source then s.hmLost
  else
    let x := s.srcSt p.source
    let gap := p.seq != x.expSeq
    let cross := !(s.lineMode (srcGroup p.source))
    let s := s.setSrc p.source { x with
      expSeq := p.seq + 1#6
      lineWait := false
      pennWait := cross && !x.lineWait }
    (if gap then s.raise 0x241 0x0C 1 2 p.source else s).intake p

/-- R430: a pennant arrives over a source's path: the one it sent, or a word given. -/
def execPennant (source : Nat) (word : Option (BitVec 64)) (err : SecErr) (s : State) : Result :=
  .next (
    let sent := s.wires.find? (fun p => p.source == source)
    let p := match word with | some w => some (pennantOf w) | none => sent
    let s := match word with | some _ => s | none => { s with wires := s.wires.eraseP (fun p => p.source == source) }
    match p, err with
    | some p, .none | some p, .single => s.takePennant p
    | _, _ => s)

/-- A line event of R429: the latch sets and a record is formed. -/
def State.lineEvent (s : State) (src : Nat) : State :=
  let f := HM_ELS.ix (src / 32)
  let s := s.setWord pkHm f (BitVec.ofNat 32 (putBitN (s.word pkHm f).toNat (src % 32) true))
  s.intake ⟨src, 0#6, s.lineLvl (srcGroup src), 0#6, 0#8, 0#32⟩

/-- R429, R428: an error line rises. -/
def execErrorLine (source : Nat) (s : State) : Result :=
  .next (
    let s := { s with lines := s.lines.eraseP (fun n => n == source) }
    if 0x280 ≤ source then s
    else if s.lineMode (srcGroup source) then s.lineEvent source
    else
      let x := s.srcSt source
      s.setSrc source (if x.pennWait then { x with pennWait := false } else { x with lineWait := true }))

/-- R428: 2 µs passed without the other report: kind 0x0C. -/
def execLineCheckTimeout (source : Nat) (s : State) : Result :=
  .next (
    let x := s.srcSt source
    let s := s.setSrc source { x with lineWait := false, pennWait := false }
    let s := if x.lineWait then
        ((s.hmLost.raise 0x241 0x0C (s.lineLvl (srcGroup source)) 0 source).lineEvent source)
      else s
    if x.pennWait then s.hmLost.raise 0x241 0x0C 1 1 source else s)

/-! ### Records (R442, R443) -/

/-- The newest records of the ring, oldest first, at most 16. -/
def State.newest (s : State) : List HmRec :=
  let n := (s.word pkHm HM_RING).toNat
  let k := min 16 s.hm.ring.length
  (List.range k).map (fun i => tget ⟨0#64, 0#64⟩ s.hm.ring ((n + 2048 - k + i) % 2048))

/-- A record is written to the live ring and, unless it is frozen, to the history queue. -/
def State.hmRecord (s : State) (r : HmRec) : State :=
  let i := (s.word pkHm HM_RING).toNat % 2048
  let s := { s with hm := { s.hm with ring := tput s.hm.ring i r } }.cntW pkHm HM_RING
  if s.bit pkHm HM_STAT_FROZEN then s else { s with hm := { s.hm with hist := (s.hm.hist ++ [r]).drop (s.hm.hist.length + 1 - 16) } }

/-- The history queue freezes at the first event of level 2 or above. -/
def State.hmFreeze (s : State) (l : Nat) : State :=
  if 2 ≤ l ∧ s.bit pkHm HM_STAT_FROZEN = false then (s.setBit pkHm HM_STAT_FROZEN true).irq pkHm 11 else s

/-! ### Levels (R435) -/

/-- Step 2: the time is noted and the Nth level-1 pennant within W is level 2. -/
def State.recur (s : State) (src g lvl : Nat) (line : Bool) : State × Nat :=
  if lvl = 1 ∧ line = false ∧ (g = 10 ∨ bitN (s.word pkHm HM_RECUR_EN).toNat g = true) then
    let n := if g = 10 then 3 else s.fld pkHm HM_RECUR_CFG_N
    let w := if g = 10 then secondCycles else s.fld pkHm HM_RECUR_CFG_W * 400000
    let x := s.srcSt src
    let l := s.cyc :: x.lvl1.filter (fun t => decide (s.cyc ≤ t + w))
    (s.setSrc src { x with lvl1 := l.take 7 }, if n ≤ l.length then 2 else 1)
  else (s, lvl)

/-- Steps 3 and 4. -/
def State.toUnit (s : State) (g : Nat) (srcs : List Nat) (l : Nat) : Nat :=
  let crit := (decide (14 ≤ g ∧ g ≤ 17) && s.bit (pkCv (g - 14)) CV_CFG_CRIT) || (decide (18 ≤ g ∧ g ≤ 21) && s.bit (pkAc (g - 18)) AC_CFG_CRIT)
  if l = 2 ∧ (crit ∨ srcs.any hasLane = false) then 3 else l

/-! ### Reactions (R433, R441, R551) -/

/-- The claim is withdrawn until a UR. -/
def State.withdrawClaim (s : State) : State := { s with sea := { s.sea with withdrawn := true } }.releaseBol

def State.incident (s : State) (g : Nat) : Incident := tget {} s.hm.inc g
def State.setIncident (s : State) (g : Nat) (x : Incident) : State := { s with hm := { s.hm with inc := tput s.hm.inc g x } }

/-- Level 1 with REACT1: the page goes to FAULT and returns through its BR at once. -/
def State.reactLocal (s : State) (src : Nat) : State :=
  match ownerPage src with
  | some k => if s.st k == .fault then s else (s.faultPage k).leaveThroughBr k
  | none => s

/-- A sensor supply is held off, or let on again (R517). -/
def State.holdSupply (s : State) (n : Nat) (b : Bool) : State :=
  { s with supplies := tput s.supplies n { (tget {} s.supplies n : Supply) with lane := b } }

/-- Level 2: the lane is isolated. -/
def State.reactLane (s : State) (src : Nat) : State :=
  let s := forL (lanePages src) (fun k s => s.faultPage k) s
  match laneSupply src with
  | some n => s.holdSupply n true
  | none => s

/-- Level 3: hard cut where recovery is exhausted, Lee mode where it is granted, else the claim is withdrawn. In Ebb the fault
is recorded for the next Flood (R77). -/
def State.reactUnit (s : State) (g : Nat) (srcs : List Nat) : State :=
  let outp := srcs.any inOutputPath
  let s := if s.pw.tide == .ebb then { s with pw := { s.pw with ebbFault := true } } else s
  let toLee (s : State) : State := s.setIncident g { s.incident g with st := .lee }
  if s.sea.mf.hmLimit ≤ s.fld pkHm HM_STAT_UNIT_REC then
    ((s.setBit pkHm HM_STAT_HARD_REQ true).withdrawClaim).hardCut 5
  else if outp then s.withdrawClaim
  else if s.lee then toLee s
  else if s.leeGrant then toLee s.leeEnter
  else s.withdrawClaim

/-- The reaction of level l, where it exceeds the one in force; Lee mode also ends on a level-3 event of the output path (R553). -/
def State.react (s : State) (g l : Nat) (srcs : List Nat) : State :=
  let x := s.incident g
  if x.reacted < l then
    let s := s.setIncident g { x with reacted := l, lanes := if l = 2 then x.lanes ++ srcs.filter (fun n => !(x.lanes.contains n)) else x.lanes }
    if l = 3 then s.reactUnit g srcs
    else if l = 2 then forL srcs (fun n s => s.reactLane n) s
    else if bitN (s.word pkHm HM_REACT1).toNat g then forL srcs (fun n s => s.reactLocal n) s
    else s
  else if l = 3 && s.lee && srcs.any inOutputPath then s.withdrawClaim
  else s

/-! ### Incidents (R436, R437) -/

/-- A Dredge test of a block whose sources lie in the group is running; the march tests the memories of group 26. -/
def State.underTest (s : State) (g : Nat) : Bool :=
  s.dr.running.any (fun t => if t == marchTest then g == 26 else t.blocks.any (fun k => srcGroup (pageSource k) == g))

/-- An event of effective level l ≥ 1 opens, merges into or escalates its group's incident: answers the level that stands. -/
def State.incidentEvent (s : State) (g l : Nat) (srcs : List Nat) (kind : Option Nat) (r : HmRec) : State × Nat :=
  let x := s.incident g
  if x.st = .closed then
    let kinds := match kind with | some k => BitVec.ofNat 64 (2 ^ k) | none => 0#64
    let y : Incident := { st := .held, level := l, first := r, last := r, kinds := kinds, count := 1
                          helds := if kind.isNone then 1 else 0, quietFrom := s.cyc }
    let s := (s.setIncident g y).irq pkHm (7 + l)
    ({ s with hm := { s.hm with openedNow := s.hm.openedNow ++ [g] } }.react g l srcs, l)
  else
    let ctx := s.pw.tide == .flood || s.underTest g || x.st == .probation
    let again := match kind with | some k => bitN x.kinds.toNat k | none => false
    let esc := ctx && again && !x.acked
    let top := max x.level l
    let s := if esc then s.cntS pkHm (if top = 3 then HM_ESC_ESC_CAP else HM_ESC_ESCALATED) else s
    let lv := if esc then min 3 (top + 1) else top
    let x := s.incident g
    let y : Incident := { x with
      st := if x.st = .lee then .lee else .held
      level := lv
      last := if kind.isNone then x.last else r
      kinds := match kind with | some k => x.kinds ||| BitVec.ofNat 64 (2 ^ k) | none => x.kinds
      count := satInc 65535 x.count
      helds := if kind.isNone then satInc 255 x.helds else x.helds
      escalations := if esc then satInc 255 x.escalations else x.escalations
      quietFrom := s.cyc
      reacted := if x.st = .probation then 0 else x.reacted }
    let s := s.setIncident g y
    let s := if x.level < lv then s.irq pkHm (7 + lv) else s
    (s.react g lv srcs, lv)

/-- One event from a queue entry or an own pennant (R437). -/
def State.hmEvent (s : State) (p : Pennant) (time : BitVec 64) : State :=
  let g := srcGroup p.source
  let line := p.kind == 0#6
  let (s, l) := s.recur p.source g p.level line
  let l := s.toUnit g [p.source] l
  let r : HmRec := ⟨p.word, time⟩
  let s := s.hmRecord r
  if l = 0 then s
  else
    let (s, l) := s.incidentEvent g l [p.source] (some p.kind.toNat) r
    s.hmFreeze l

/-- A held level of a group is taken as one event (R430). -/
def State.heldEvent (s : State) (g : Nat) : State :=
  let l := tget 0 s.hm.held g
  let srcs := tget [] s.hm.heldSrc g
  let r : HmRec := ⟨(⟨0x240, 0x14#6, l, 0#6, BitVec.ofNat 8 g, 0#32⟩ : Pennant).word, s.tmNs⟩
  let s := { s with hm := { s.hm with held := tdel s.hm.held g, heldSrc := tdel s.hm.heldSrc g } }
  let l := s.toUnit g srcs l
  let s := s.hmRecord r
  if l = 0 then s
  else
    let (s, l) := s.incidentEvent g l srcs none r
    s.hmFreeze l

/-- The kinds of work that wait: 0 the queue, 1 held levels, 2 own pennants. -/
def State.hmWaits (s : State) (w : Nat) : Bool :=
  match w with
  | 0 => s.hm.queue.length != 0
  | 1 => s.hm.held.length != 0
  | _ => s.hm.own.length != 0

/-- The work of one slot. -/
def State.hmWork (s : State) (w : Nat) : State :=
  match w with
  | 0 => match s.hm.queue with
    | e :: t => { s with hm := { s.hm with queue := t } }.hmEvent e.p e.time
    | [] => s
  | 1 => forL (s.hm.held.map (·.1)) (fun g s => s.heldEvent g) s
  | _ => match s.hm.own with
    | p :: t =>
      let x := s.srcSt p.source
      let s := { s with hm := { s.hm with own := t } }.setSrc p.source
        { x with expSeq := p.seq + 1#6, admitted := satInc 65535 x.admitted }
      (s.capPennant p).hmEvent p s.tmNs
    | [] => s

/-- R432, R437: one processing slot; kinds of work take the slots in turn. -/
def execEventProcessing (s : State) : Result :=
  .next (
    let s := { s with hm := { s.hm with openedNow := [] } }
    match [s.hm.turn, (s.hm.turn + 1) % 3, (s.hm.turn + 2) % 3].find? (fun w => s.hmWaits w) with
    | some w => { s with hm := { s.hm with turn := (w + 1) % 3 } }.hmWork w
    | none => s)

/-! ### Quiet clock, acknowledgement, history (R436, R438, R442) -/

/-- A lane page leaves FAULT through BR; a page whose FAILMAP bit is set returns to FAULT (R580). -/
def State.releasePage (s : State) (k : Nat) : State :=
  if s.st k == .fault && !(s.keptInFault k) then s.leaveThroughBr k else s

/-- The lane of a source is released (R405, R436). -/
def State.releaseLane (s : State) (src : Nat) : State :=
  let s := forL (lanePages src) (fun k s => s.releasePage k) s
  let s := match laneBridge src with | some m => s.signalRelease m | none => s
  match laneSupply src with
  | some n => s.holdSupply n false
  | none => s

/-- R436: an incident's quiet clock expires. -/
def execQuietExpiry (group : Nat) (s : State) : Result :=
  .next (
    let x := s.incident group
    match x.st with
    | .closed | .lee => s
    | .probation => s.setIncident group { x with st := .closed }
    | .held =>
      if x.level ≤ 1 then s.setIncident group { x with st := .closed }
      else if x.level = 2 then
        let s := s.setIncident group { x with st := .probation, releases := satInc 255 x.releases, quietFrom := s.cyc, lanes := [], reacted := 0 }
        forL x.lanes (fun n s => s.releaseLane n) s
      else if s.bit pkHm HM_STAT_HARD_REQ then s
      else s.requestUr .harbourmaster)

/-- The slot in which group g's incident opened is still under way (R438). -/
def State.openingSlot (s : State) (g : Nat) : Bool :=
  s.hm.openedNow.contains g && decide (s.cyc < (s.incident g).quietFrom + 10)

/-- R438: ACK written. -/
def execAck (who : Initiator) (v : Word) (s : State) : Result :=
  .next (
    let s := s.keyTaken pkHm who
    { s with hm := { s.hm with inc := s.hm.inc.map (fun x =>
      (x.1, if bitN v.toNat x.1 && x.2.st != .closed && !(s.openingSlot x.1) then { x.2 with acked := true } else x.2)) } })

/-- R442: CTRL.RELEASE: the queue is refilled from the newest records. -/
def execHistoryRelease (who : Initiator) (s : State) : Result :=
  .next (
    let s := s.keyTaken pkHm who
    { s.setBit pkHm HM_STAT_FROZEN false with hm := { s.hm with hist := s.newest } })

end Sys2Proof.Machine
end

