-- ==== Sys2Proof/Machine/SoundCmd.lean ====
section
/-!
DEFINITION. Machine/SoundCmd.lean: the commands of the sounding channels and of the excitation generator (R166-R194). The SPI
poll stands with the SPI controllers.
-/
namespace Sys2Proof.Machine

/-- R169: a rejected excursion on a digital input of a channel. -/
def execGlitch (channel : Nat) (s : State) : Result :=
  .next (if s.scAlive channel then s.cntS (pkSc channel) SC_ERRCNT_GLITCH else s)

/-- The rising Z edge is gated by the quadrant AB (R175). -/
def State.zGate (s : State) (k : Nat) (a b : Bool) : Bool := s.fld (pkSc k) SC_ZCFG_ZGATE == 2 * b2n a + b2n b

/-- R170, R173-R175: the levels of a channel's inputs as its filter now accepts them, with the timestamp of the edge. -/
def execAcceptedEdge (channel : Nat) (a b z : Bool) (ts : Word) (s : State) : Result :=
  let x := s.snd channel
  let s1 := s.setSnd channel { x with a := a, b := b, z := z }
  .next (if !(s.scAlive channel) || x.stopped then s1
    else match s.scMode channel with
      | 0 => s1.quadMove channel x.a x.b a b ts
      | 1 =>
        let s2 := s1.quadMove channel x.a x.b a b ts
        if z && !x.z && s2.zGate channel a b then s2.zEdge channel else s2
      | 2 => if a = x.a ∧ b = x.b ∧ z = x.z then s1 else s1.hallMove channel a b z ts
      | _ => s1)

/-- R176, R183: a new position sample of a channel in an absolute mode. -/
def execAbsoluteSample (channel : Nat) (value : Nat) (ts : Word) (s : State) : Result :=
  .next (if s.scAlive channel && decide (3 ≤ s.scMode channel) then s.absSample channel value ts else s)

/-- R178: no step accepted for STILL.TIMEOUT. -/
def execStandstill (channel : Nat) (s : State) : Result :=
  let x := s.snd channel
  .next (if s.scAlive channel && decide (s.scMode channel ≤ 2) && !x.still then
      (s.setSnd channel { x with still := true, hist := [], discard := true, wc := 0 }).irq (pkSc channel) 12
    else s)

/-- R179: a count window of TWIN × 20 µs ends; the first after enable has no previous sample. -/
def execCountWindow (channel : Nat) (s : State) : Result :=
  let x := s.snd channel
  let win := (fofRat f32 (s.fld (pkSc channel) SC_SPDCFG_TWIN * 20) 1000000).1
  let wc := match x.winPos with
    | some p => if x.still then 0 else (fdiv f32 (fofInt f32 (x.pos - p).toInt).1 win).1
    | none => 0
  .next (if s.running (pkSc channel) then s.setSnd channel { x with wc := wc, winPos := some x.pos } else s)

/-! ### Framed sensors (R182-R185) -/

/-- R182: LEAD before the base tick an SSI frame starts. -/
def execSsiFrameStart (channel : Nat) (s : State) : Result :=
  .next (if s.scMode channel = 3 ∧ (s.st (pkSc channel) = .idle ∨ s.st (pkSc channel) = .run) then
      s.setSnd channel { s.snd channel with frameTs := some s.stb }
    else s)

/-- Gray code to binary, `n` bits. -/
def grayDecode : Nat → Nat → Nat
  | 0, _ => 0
  | n + 1, g => let h := grayDecode n (g / 2); 2 * h + (g + h) % 2

/-- The position field of a frame of SSI or SPI (R182, R183, R197). -/
def State.frameField (s : State) (k : Nat) (frame : Nat) : Nat :=
  let w := s.fld (pkSc k) SC_FRAME_WIDTH
  let v := frame / 2 ^ s.fld (pkSc k) SC_FRAME_LSB % 2 ^ w
  if s.bit (pkSc k) SC_FRAME_GRAY then grayDecode w v else v

/-- Even parity over the low `n` bits. -/
def parityOdd (n v : Nat) : Bool := ((List.range n).filter (fun i => bitN v i)).length % 2 == 1

/-- The timestamp of a framed sample: the frame's start plus LAT × 50 ns (R184). -/
def State.frameStamp (s : State) (k : Nat) (t : Word) : Word :=
  t + BitVec.ofNat 32 (20 * s.fld (pkSc k) SC_TIMING_LAT)

/-- R182: an SSI frame completes; its last bit is bit 0. -/
def execSsiFrameEnd (channel : Nat) (frame : BitVec 40) (s : State) : Result :=
  .next (match (s.snd channel).frameTs with
    | none => s
    | some t =>
      let s1 := s.setSnd channel { s.snd channel with frameTs := none }
      if s.scMode channel != 3 || !(s.scAlive channel) then s1
      else if s.bit (pkSc channel) SC_FRAME_PAR && parityOdd (s.fld (pkSc channel) SC_FRAME_FLEN) frame.toNat then
        s1.scBadFrame channel
      else s1.absSample channel (s.frameField channel frame.toNat) (s.frameStamp channel t))

/-- R185: FTO latches have passed without a valid framed sample. -/
def execFramedTimeout (channel : Nat) (s : State) : Result :=
  .next (if s.running (pkSc channel) && decide (3 ≤ s.scMode channel ∧ s.scMode channel ≤ 5)
      && decide (s.fld (pkSc channel) SC_TIMING_FTO ≤ (s.snd channel).missed) then
      (((s.setSt (pkSc channel) .idle).scStale channel).irq (pkSc channel) 13).raise (0x060 + channel) 0x05 1
    else s)

/-! ### Resolvers (R186-R188, R199) -/

/-- One step of the observer of R187 in binary64, from the demodulated envelopes (binary32). -/
def Snd.observe (x : Snd) (bw : Nat) (se ce : Word) : Snd :=
  let a := (fconv f32 f64 se.toNat).1
  let c := (fconv f32 f64 ce.toNat).1
  let mul (p q : Nat) : Nat := (fmul f64 p q).1
  let add (p q : Nat) : Nat := (fadd f64 p q).1
  let e := (fsub f64 (mul a (Config.obsCos x.th)) (mul c (Config.obsSin x.th))).1
  let wn := (fofRat f64 (0xC90FDAA22168C235 * 10 * bw) (2 ^ 61)).1
  let ts := (fofRat f64 32 10000000).1
  let wi := add x.wi (mul (mul (mul wn wn) e) ts)
  let w := add wi (mul (mul 0x4000000000000000 wn) e)
  let th := add x.th (mul w ts)
  let wrapped := match fdec f64 th with
    | .fin n m ex =>
      let p : Int := 0xC90FDAA22168C235 * 2 ^ 1013
      let v : Int := (if n then -1 else 1) * (m * 2 ^ (ex + 1074).toNat : Nat)
      (fround f64 false (v % p).toNat 1 (-1074)).1
    | _ => f64.nanPat
  { x with wi := wi, w := w, th := wrapped }

/-- th as a 24-bit fraction of the resolver cycle (R187). -/
def obsAngle (th : Nat) : Nat :=
  match fdec f64 th with
  | .fin _ m e => m * 2 ^ (e + 1074).toNat * 16777216 / (0xC90FDAA22168C235 * 2 ^ 1013) % 16777216
  | _ => 0

/-- R187, R188: one observer update; an error beyond 5° is reported as it begins. -/
def execObserverUpdate (channel : Nat) (sinEnv cosEnv : Word) (beyond5 : Bool) (s : State) : Result :=
  .next (if s.scMode channel = 6 ∧ s.scAlive channel then
      let x := (s.snd channel).observe (s.fld (pkSc channel) SC_RSLV_BW) sinEnv cosEnv
      let s1 := (s.setSnd channel x).absSample channel (obsAngle x.th) s.stb
      if s.running (pkSc channel) then
        let was := s.bit (pkSc channel) SC_STAT_LOT
        let s2 := s1.setBit (pkSc channel) SC_STAT_LOT beyond5
        if beyond5 && !was then s2.raise (0x060 + channel) 0x06 1 else s2
      else s1
    else s)

/-- R188: amplitude above 10 % and error below 1° for 1 ms: IDLE to RUN with the mean amplitude as nominal. -/
def execResolverLock (channel : Nat) (amplitude : Nat) (s : State) : Result :=
  .next (if s.scMode channel = 6 ∧ s.st (pkSc channel) = .idle then
      let s1 := s.setSnd channel { s.snd channel with nominal := amplitude, ampBad := 0 }
      (s1.setSt (pkSc channel) .run).setBit (pkSc channel) SC_STAT_LOS false
    else s)

/-- R188: a resolver channel's amplitude over one excitation period. -/
def State.judgeAmp (s : State) (k amp : Nat) : State :=
  let x := s.snd k
  if s.scMode k != 6 || !(s.running (pkSc k)) then s
  else
    let out := decide (100 * amp < s.fld (pkSc k) SC_RSLV_AMIN * x.nominal) || decide (s.fld (pkSc k) SC_RSLV_AMAX * x.nominal < 100 * amp)
    let n := if out then satInc 4 x.ampBad else 0
    let s := s.setSnd k { x with ampBad := n }
    if n = 3 then ((s.setBit (pkSc k) SC_STAT_LOS true).irq (pkSc k) 11).raise (0x060 + k) 0x06 2 else s

/-- R186: the fourth period in a row of an output beyond 10 %. -/
def State.excFail (s : State) (out : Nat) : State :=
  let s := (s.setBit pkSx (if out = 0 then SX_EXC_STAT_FAIL0 else SX_EXC_STAT_FAIL1) true).raise 0x06C 0x10 2
  forN 4 (fun k s => if s.scMode k = 6 ∧ s.fld (pkSc k) SC_RSLV_EXC = out then s.scStale k else s) s

/-- R186, R188: one excitation period: `bad` says of each output whether amplitude or frequency deviates by more than 10 %. -/
def execExcitationPeriod (bad0 bad1 : Bool) (freq : BitVec 16) (amplitudes : List Nat) (s : State) : Result :=
  .next (if s.busy pkSx then
      let n0 := if bad0 then satInc 5 s.sx.bad0 else 0
      let n1 := if bad1 then satInc 5 s.sx.bad1 else 0
      let s := { s with sx := ⟨n0, n1⟩ }.setFld pkSx SX_EXC_STAT_FREQ_MEAS freq.toNat
      let s := s.when (n0 = 4) (fun s => s.excFail 0)
      let s := s.when (n1 = 4) (fun s => s.excFail 1)
      forN 4 (fun k s => s.judgeAmp k (amplitudes.getD k 0)) s
    else s)

/-- R199: a changed frequency takes effect: every resolver channel leaves RUN for IDLE and re-locks. -/
def execExcitationFreqChange (s : State) : Result :=
  .next (forN 4 (fun k s =>
    if s.scMode k = 6 ∧ s.running (pkSc k) then (s.setSt (pkSc k) .idle).scStale k else s) s)

/-! ### The AON counter (R191-R193) -/

/-- R191, R192: one pulse in Slack water: the state sampled, or a missed sample. -/
def execSlackPulse (channel : Nat) (a b z : Bool) (agreed : Bool) (s : State) : Result :=
  let c := s.aon channel
  .next (if s.pw.tide = .slack ∧ c.active then
      if agreed then s.setAon channel (c.sample (BitVec.ofNat 3 (b2n a + 2 * b2n b + 4 * b2n z)))
      else s.setAon channel { c with missed := satInc 255 c.missed }
    else s)

/-- R193: in Ebb and in Flood the counter samples SC10 and SC11. -/
def execAonCounterSample (levels10 levels11 : BitVec 3) (s : State) : Result :=
  .next (if s.pw.tide = .ebb ∨ s.pw.tide = .flood then
      (s.setAon 10 ((s.aon 10).sample levels10)).setAon 11 ((s.aon 11).sample levels11)
    else s)

end Sys2Proof.Machine
end

