-- ==== Sys2Proof/Machine/Iface.lean ====
section
/-!
DEFINITION. Machine/Iface.lean: the vehicle interfaces: CAN FD, SPI and the external host, SENT, the SAR converters, the sensor
supplies (R505-R519), and the JTAG port (R598).
-/
namespace Sys2Proof.Machine

/-! ### CAN FD (R505-R507) -/

/-- A word of message buffer n: 0 identifier ([31] extended, [28:0]), 1 mask, 2 control, 3-18 data (the layout of the control
word is the model's, log entry 35). -/
abbrev mbF (n i : Nat) : Field := ⟨0x400 + 96 * n + 4 * i, 0, 32⟩

def State.mbWord (s : State) (k n i : Nat) : Nat := (s.word (pkCan k) (mbF n i)).toNat

/-- Control: [31] enabled, [30] transmit, [19:16] DLC, [2] FD format, [1] bit-rate switch, [0] transmission requested. -/
def mbCtl (en tx : Bool) (c : Nat) : Bool := bitN c 31 == en && bitN c 30 == tx

/-- The message buffers that have addresses in the page (log entry 35). -/
def canBuffers : List Nat := List.range 32

/-- A receive buffer matches an identifier (R505). -/
def State.mbMatches (s : State) (k n : Nat) (id : Word) : Bool :=
  let m := s.word (pkCan k) (mbF n 1)
  mbCtl true false (s.mbWord k n 2) && (s.word (pkCan k) (mbF n 0) &&& m) == (id &&& m)

/-- The place of an identifier in the arbitration, lower first (R506). -/
def canPriority (id : Nat) : Nat :=
  if bitN id 31 then bitsN id 28 18 * 2 ^ 19 + 2 ^ 18 + bitsN id 17 0 else bitsN id 10 0 * 2 ^ 19

/-- A transmit buffer waits. -/
def State.mbWaits (s : State) (k n : Nat) : Bool :=
  let c := s.mbWord k n 2
  mbCtl true true c && bitN c 0

/-- The waiting transmit buffer that is sent next (R506). -/
def State.canNext (s : State) (k : Nat) : Option Nat :=
  canBuffers.foldl (fun best n =>
    if s.mbWaits k n then
      match best with
      | none => some n
      | some b => if canPriority (s.mbWord k n 0) < canPriority (s.mbWord k b 0) then some n else best
    else best) none

/-- The words of a frame as the FIFO window shows it: identifier, flags, DLC, data (R507). -/
def canWindow (id flags : Word) (dlc : Nat) (data : List Word) : List Word :=
  id :: flags :: BitVec.ofNat 32 dlc :: (List.range 16).map (fun i => data.getD i 0#32)

/-- A frame is stored in a receive buffer: the newest overwrites (R506). -/
def State.mbStore (s : State) (k n : Nat) (id flags : Word) (dlc : Nat) (data : List Word) : State :=
  let c := s.canOf k
  let s := s.when (c.unread.contains n) (fun s => s.cntS (pkCan k) CAN_CNT_MB_OVW)
  let ctl := putBitsN (putBitsN (s.mbWord k n 2) 16 4 dlc) 1 2 (bitsN flags.toNat 2 1)
  let s := (s.setWord (pkCan k) (mbF n 0) id).setWord (pkCan k) (mbF n 2) (BitVec.ofNat 32 ctl)
  let s := forN 16 (fun i s => s.setWord (pkCan k) (mbF n (3 + i)) (data.getD i 0#32)) s
  s.setCan k { c with unread := if c.unread.contains n then c.unread else c.unread ++ [n] }

/-- A frame is put in the receive FIFO, or dropped where it is full (R506). -/
def State.fifoStore (s : State) (k : Nat) (w : List Word) : State :=
  let c := s.canOf k
  if 32 ≤ c.fifo.length then s.cntS (pkCan k) CAN_CNT_FIFO_DROP
  else (s.setCan k { c with fifo := c.fifo ++ [w] }).setFld (pkCan k) CAN_FIFO_HELD (c.fifo.length + 1)

/-- The controller takes part in the bus. -/
def State.canOnBus (s : State) (k : Nat) : Bool := s.busy (pkCan k) && s.bit (pkCan k) CAN_STAT_SYNCED

/-- FIFO_POP is read: the oldest frame moves into the window (R507). -/
def State.fifoPop (s : State) (k : Nat) : State :=
  let c := s.canOf k
  match c.fifo with
  | [] => s
  | w :: rest =>
    let s := (s.setCan k { c with fifo := rest }).setFld (pkCan k) CAN_FIFO_HELD rest.length
    forN 20 (fun i s => s.setWord (pkCan k) (CAN_FIFO_WIN.ix i) (w.getD i 0#32)) s

/-- CTRL.ABORT_TX: every waiting transmission is withdrawn (R507). -/
def State.canAbort (s : State) (k : Nat) : State :=
  forL canBuffers (fun n (s : State) => if s.mbWaits k n then s.setBit (pkCan k) ⟨0x408 + 96 * n, 0, 1⟩ false else s) s

/-- CTRL.RECOVER: the recovery sequence is asked for (R506). -/
def State.canRecover (s : State) (k : Nat) : State :=
  if s.bit (pkCan k) CAN_STAT_BUS_OFF then s.setCan k { s.canOf k with recovering := true } else s

/-- A write of CTRL. -/
def State.canCtrl (s : State) (k : Nat) (v : Word) : State :=
  (s.when (bitN v.toNat 0) (fun s => s.canAbort k)).when (bitN v.toNat 1) (fun s => s.canRecover k)

/-! ### SPI (R508-R510) -/

/-- SPI5 is the external-host target: CFG.TARGET, or image loading under R113. -/
def State.isTarget (s : State) (k : Nat) : Bool :=
  k == 5 && (s.bit (pkSpi 5) SPI_CFG_TARGET || (s.pw.bootSel == 2#2 && s.pw.tide == .dryDock))

/-- An SPI page sends controller frames. -/
def State.spiSends (s : State) (k : Nat) : Bool := s.running (pkSpi k) && !(s.isTarget k)

/-- The job at the front starts: chip select, and its frame goes out; for a poll the timestamp is taken (R184, R508). -/
def State.spiBegin (s : State) (k : Nat) : State :=
  let c := s.spiOf k
  let n := s.fld (pkSpi k) SPI_CFG_BITS
  match c.jobs.head? with
  | none => s
  | some (.tx w) => s.setSpi k { c with out := (0, BitVec.ofNat 32 (w.toNat % 2 ^ n)) }
  | some (.poll ch) =>
    let w := (s.word (pkSpi k) (SPI_SC_CMD.ix ch)).toNat
    (s.setSpi k { c with out := (bitsN w 31 29, BitVec.ofNat 32 (w % 2 ^ n)) }).setSnd ch { s.snd ch with frameTs := some s.stb }

/-- A job is put in the controller's queue; it starts at once where nothing runs. -/
def State.spiPut (s : State) (k : Nat) (j : SpiJob) : State :=
  let c := s.spiOf k
  let s1 := s.setSpi k { c with jobs := c.jobs ++ [j] }
  if c.jobs.isEmpty then s1.spiBegin k else s1

/-- A write of TX (R511). -/
def State.spiTx (s : State) (k : Nat) (v : Word) : State := if s.spiSends k then s.spiPut k (.tx v) else s

/-- CRC-8 of R508 over the top `n` of a frame of `m` bits, first bit first. -/
def crc8 (m n v : Nat) : Nat :=
  (List.range n).foldl (fun c i =>
    let t := (c / 128 + v / 2 ^ (m - 1 - i)) % 2
    ((2 * c) % 256) ^^^ (if t = 1 then 0x1D else 0)) 0xFF ^^^ 0xFF

/-- The check CHK of R508 over a frame of n bits, in the order received (its first bit on top). -/
def spiCheck (chk n v : Nat) : Bool :=
  match chk with
  | 1 => ((List.range n).filter (fun i => bitN v i)).length % 2 == 0
  | 2 => n < 9 || crc8 n (n - 8) v == v % 256
  | _ => true

/-- HOST_IRQ_N is asserted: some page with TO_HOST asserts its interrupt (R510, R50). -/
def State.hostIrq (s : State) : Bool := s.pages.any (fun x => bitN x.2.route.toNat 16 && s.irqLevel x.1)

/-- The status and data a host frame returns (R509). -/
def State.hostReturn (s : State) (busy : Bool) : State :=
  { s with hostPort := { s.hostPort with
    status := 4 * b2n s.hostIrq + 2 * b2n s.hostPort.err + b2n busy, shown := s.hostPort.data } }

/-- The target answers host frames. -/
def State.hostActive (s : State) : Bool := s.isTarget 5 && (s.running (pkSpi 5) || s.pw.tide == .dryDock)

/-- A frame's command is refused (R510): answered BUSY and counted. -/
def State.hostRefused (s : State) : State := (s.hostReturn true).cntS (pkSpi 5) SPI_CNT_HOST_BUSY

/-! ### SENT (R512, R513) -/

/-- One step of the CRC of J2716: polynomial x⁴ + x³ + x² + 1 over one nibble of zeros. -/
def sentStep (c : Nat) : Nat := forN 4 (fun _ x => ((2 * x) % 16) ^^^ (if x / 8 % 2 = 1 then 0xD else 0)) (c % 16)

/-- The CRC of a list of nibbles, seed 5: legacy, or recommended with a nibble of zeros after them (R512, R3; log entry
36). -/
def sentCrc (recommended : Bool) (l : List Nat) : Nat :=
  let c := l.foldl (fun c n => sentStep c ^^^ n) 5
  if recommended then sentStep c else c

def nibblesOf (n v : Nat) : List Nat := (List.range n).map (fun i => v / 16 ^ (n - 1 - i) % 16)

/-- A serial message of 16 frames: the start bit in the first alone, then ID, data and CRC (R512). -/
def sentMessage (recommended : Bool) (bits : List Bool) : Option (Nat × Nat) :=
  let v := bits.foldl (fun a b => 2 * a + b2n b) 0
  let d := v / 16
  if bits.length = 16 ∧ sentCrc recommended (nibblesOf 3 d) = v % 16 then some (d / 256, d % 256) else none

/-- Status nibble of an accepted frame: bit 3 starts a short serial message, bit 2 carries it (R512). -/
def State.sentSerial (s : State) (k : Nat) (st : BitVec 4) : State :=
  let x : Sent := tget {} s.sent k
  let old := if st.getLsbD 3 then [] else x.bits
  let on := st.getLsbD 3 || !x.bits.isEmpty
  let bits := if on then old ++ [st.getLsbD 2] else []
  let put (b : List Bool) (s : State) : State := { s with sent := tput s.sent k { bits := b } }
  if bits.length < 16 then put bits s
  else
    match sentMessage (s.bit (pkSent k) SENT_CFG_CRC) bits with
    | some (id, d) => ((put [] s).setFld (pkSent k) SENT_SSM_ID id).setFld (pkSent k) SENT_SSM_DATA d
    | none => put [] s

/-- A sounding channel in SENT mode takes a message (R183). -/
def State.sentSample (s : State) (ch : Nat) (d : BitVec 24) (ts : Word) : State :=
  let t := s.frameStamp ch ts
  let c1 := d.toNat / 4096
  let c2 := d.toNat % 4096
  match s.fld (pkSc ch) SC_FRAME_SENTFMT with
  | 0 => s.absSample ch c1 t
  | 1 => s.absSample ch d.toNat t
  | _ => if c2 = 4095 - c1 then s.absSample ch c1 t else s.scBadFrame ch

/-! ### SAR converters (R514, R515) -/

/-- A trigger: the list starts, or is running and the trigger is counted and dropped. -/
def State.sarTrig (s : State) (k src : Nat) : State :=
  if s.running (pkGa k) && s.fld (pkGa k) GA_CFG_TRIG == src then
    match (s.sarOf k).next with
    | some _ => s.cntS (pkGa k) GA_OVR_N
    | none => s.setSar k { next := some 0 }
  else s

/-! ### Sensor supplies (R517, R518) -/

def State.supply (s : State) (n : Nat) : Supply := tget {} s.supplies n
def State.setSupply (s : State) (n : Nat) (x : Supply) : State := { s with supplies := tput s.supplies n x }

/-- A supply's output is on. -/
def State.supplyOn (s : State) (n : Nat) : Bool :=
  let x := s.supply n
  bitN (s.fld pkSup SUP_SS_CTRL_EN) n && !x.tsd && !x.lane && s.pw.vpre == .good && s.pw.tide != .slack

/-- SS_STAT (R518). -/
def State.ssStat (s : State) : Word :=
  let b (f : Nat → Bool) (lo : Nat) : Nat := (((List.range 4).map (fun n => b2n (f n) * 2 ^ (lo + n))).foldl (· + ·) 0)
  BitVec.ofNat 32 (b (fun n => (s.supply n).tsd) 24 + b (fun n => (s.supply n).ilim) 16 + b (fun n => (s.supply n).oow) 8
    + b (fun n => s.supplyOn n && !(s.supply n).oow) 0)

/-- SS_CTRL as written: EN written 1 clears a thermal latch; a supply switched anew starts in window (R517). -/
def State.ssWritten (s : State) (v : Word) : State :=
  forN 4 (fun n s =>
    let x := s.supply n
    if bitN v.toNat n then s.setSupply n { x with tsd := false } else s.setSupply n { x with oow := false, ilim := false }) s

end Sys2Proof.Machine
end

