-- ==== Sys2Proof/Machine/Maulo.lean ====
section
/-!
DEFINITION. Machine/Maulo.lean: the Maulo bus: slot tables, frames, berths, Tidemark, link and path delays, states of the node
(R448-R504). Times are Tidemark times in 1/16 ns; frames are byte lists from the destination address to before the FCS.
-/
namespace Sys2Proof.Machine

/-- Source of node time (R491). -/
abbrev timeSource : Nat := 0x1A7

/-! ### Node, tables, plans (R458-R463) -/

/-- A slot entry (R459). -/
structure Slot where
  en : Bool
  crit : Bool
  sender : Nat
  start : Nat
  guard : Nat
  srcCh : Nat
  srcSlot : Nat
  len : Nat
  deriving DecidableEq, Repr

/-- Entry e of table t (0 MA AB, 1 MB AB, 2 MA Single, 3 MB Single) in a bank. -/
def State.slotIn (s : State) (useB : Bool) (t e : Nat) : Slot :=
  let w0 := s.regOf pkMs (0x800 + 8 * (64 * t + e)) useB
  let w1 := s.regOf pkMs (0x804 + 8 * (64 * t + e)) useB
  ⟨fget MS_TAB0_EN w0 == 1, fget MS_TAB0_CRIT w0 == 1, fget MS_TAB0_SENDER w0, fget MS_TAB0_START w0,
   fget MS_TAB1_GUARD w1, fget MS_TAB1_SRC_CH w1, fget MS_TAB1_SRC_SLOT w1, fget MS_TAB1_LEN w1⟩

/-- Entry e of channel c's table in force (R462). -/
def State.slotOf (s : State) (c e : Nat) : Slot :=
  s.slotIn (s.page pkMs).activeB (c + (if s.planSingle then 2 else 0)) e

/-- The plan-AB slot whose content an entry carries: channel and entry (R462, R501). -/
def State.contentOf (s : State) (c e : Nat) : Nat × Nat :=
  if s.planSingle && e != 0 then ((s.slotOf c e).srcCh, (s.slotOf c e).srcSlot) else (c, e)

/-- End of a slot in ns (R460). -/
def Slot.fin (x : Slot) : Nat := x.start * 100 + (x.len + 20) * 80 + x.guard * 100

/-- The smallest GUARD among the enabled entries of the tables in force (R482). -/
def State.gmin (s : State) : Nat :=
  (List.range 128).foldl (fun g i =>
    let x := s.slotOf (i / 64) (i % 64)
    if x.en then min g x.guard else g) 255

/-- The cold-start rank of a node (R475). -/
def State.csRank (s : State) (id : Nat) : Option Nat :=
  if s.bit pkMs MS_TIME_CFG_CS_V1 && s.fld pkMs MS_TIME_CFG_CS_ID1 == id then some 1
  else if s.bit pkMs MS_TIME_CFG_CS_V2 && s.fld pkMs MS_TIME_CFG_CS_ID2 == id then some 2
  else if s.bit pkMs MS_TIME_CFG_CS_V3 && s.fld pkMs MS_TIME_CFG_CS_ID3 == id then some 3
  else none

/-- A port is enabled, and has its link up. -/
def State.portOn (s : State) (p : Nat) : Bool := bitN (s.fld (pkMa (p / 2)) MA_CFG_PORTS) (p % 2)
def State.linkUp (s : State) (p : Nat) : Bool := s.portOn p && s.bit (pkPort p) PORT_STAT_LINK
def State.portMaster (s : State) (p : Nat) : Bool := s.bit (pkPort p) PORT_STAT_ROLE

/-- The check of R461 on one entry of an AB table: own slots and PDU sizes count against the inactive banks. -/
def State.pduBytes (s : State) (useB : Bool) (c e : Nat) (own : Bool) : Nat :=
  (List.range 256).foldl (fun n i =>
    let w0 := s.regOf pkBth (0x800 + 8 * i) useB
    let w1 := s.regOf pkBth (0x804 + 8 * i) useB
    if fget BTH_BERTH0_EN w0 = 1 ∧ fget BTH_BERTH0_CH w0 = c ∧ fget BTH_BERTH0_SLOT w0 = e ∧ (fget BTH_BERTH0_DIR w0 = 1) = own then
      n + fget BTH_BERTH1_DLEN w1 + (if fget BTH_BERTH0_MAC w0 = 1 then 20 else 12)
    else n) 0

/-- The lowest failing code of an entry (R461; order of the search in log entry 31). -/
def State.checkSlot (s : State) (t e : Nat) : Option Nat :=
  let b := !((s.page pkMs).activeB)
  let bb := !((s.page pkBth).activeB)
  let x := s.slotIn b t e
  let prev := (List.range e).reverse.find? (fun i => (s.slotIn b t i).en)
  let cyc := 1000 * fget MS_SCHED_CYCLE (s.regOf pkMs 0x400 b)
  let id := s.nodeId
  if e = 0 ∧ (!x.en ∨ x.start ≠ 0 ∨ x.len ≠ 64) then some 2
  else if x.en && (match prev with | some i => decide (x.start * 100 < (s.slotIn b t i).fin) | none => false) then some 3
  else if x.en && decide (cyc < x.fin + 20000) then some 4
  else if x.en && decide (2 ≤ t ∧ 0 < e) &&
      (let y := s.slotIn b x.srcCh x.srcSlot
       !(y.en && y.crit) || y.len != x.len || y.start != x.start || y.sender != x.sender) then some 5
  else if x.en && x.crit && decide (t < 2 ∧ 0 < e) &&
      !([2, 3].all (fun u => (List.range 64).any (fun i =>
        let y := s.slotIn b u i
        y.en && y.srcCh == t && y.srcSlot == e && i != 0))) then some 6
  else if e = 0 && decide (t < 2) && decide (s.fld (pkMa t) MA_CFG_PORTS ≠ 0) &&
      !((List.range 64).any (fun i => i != 0 && (s.slotIn b t i).en && (s.slotIn b t i).sender == id)) then some 7
  else if x.en && decide (t < 2) && decide (x.len < s.pduBytes bb t e (x.sender == id) + 30) then some 8
  else none

/-- R461: the first failure of the inactive bank: code, and table and entry. -/
def State.scheduleFault (s : State) : Option (Nat × Nat) :=
  (List.range 256).findSome? (fun i => (s.checkSlot (i / 64) (i % 64)).map (fun c => (c, i)))

/-! ### Berths (R496-R502) -/

/-- A berth's entry in the active bank. -/
def State.berth0 (s : State) (n : Nat) : Word := s.word pkBth (BTH_BERTH0.ix n 8)
def State.berth1 (s : State) (n : Nat) : Word := s.word pkBth (BTH_BERTH1.ix n 8)

/-- Address of buffer j (R496). -/
def State.berthAddr (s : State) (n : Nat) (j : Bool) : Nat :=
  0x35000000 + fget BTH_BERTH1_BASE (s.berth1 n) * 8 + (if j then fget BTH_BERTH1_DLEN (s.berth1 n) else 0)

/-- Berths of a plan-AB slot in one direction, ascending. -/
def State.slotBerths (s : State) (c e : Nat) (tx : Bool) : List Nat :=
  (List.range 256).filter (fun n =>
    let w := s.berth0 n
    fget BTH_BERTH0_EN w == 1 && (fget BTH_BERTH0_DIR w == 1) == tx && fget BTH_BERTH0_CH w == c && fget BTH_BERTH0_SLOT w == e)

/-- A copy completes: BUF toggles, VALID sets, COPY counts, AGE restarts. -/
def Berth.complete (b : Berth) : Berth :=
  { b with buf := !b.buf, valid := true, copies := (b.copies + 1) % 65536, age := 0 }

/-- BSTAT (R497). -/
def State.bstat (s : State) (n : Nat) : Word :=
  let b := s.berth n
  BitVec.ofNat 32 (b2n b.buf * 2 ^ 31 + b2n b.valid * 2 ^ 30 + (if s.berth0 n |>.getLsbD 30 then 0 else b.seen) * 2 ^ 24
    + b.age * 65536 + b.copies)

/-- AGE and SEEN count a cycle. -/
def Berth.tick (b : Berth) : Berth :=
  { b with age := if b.valid then satInc 255 b.age else b.age, seen := if b.accepted then satInc 63 b.seen else b.seen
           doneNow := false }

/-- A bank swap of the MS and BTH pages together (R464, R502): berths with unchanged DATA_ID, DIR and DLEN carry over. -/
def State.scheduleSwap (s : State) : State :=
  let old := (s.page pkBth).activeB
  let same (n : Nat) : Bool :=
    let m : Word := 0x4000FFFF#32
    (s.regOf pkBth (0x800 + 8 * n) old &&& m) == (s.regOf pkBth (0x800 + 8 * n) (!old) &&& m)
      && (s.regOf pkBth (0x804 + 8 * n) old &&& 0x7FF#32) == (s.regOf pkBth (0x804 + 8 * n) (!old) &&& 0x7FF#32)
  let s := { s with berths := s.berths.filter (fun x => same x.1) }
  ((s.doSwap pkMs).modPage pkBth (fun p => { p with activeB := !p.activeB, swapCount := p.swapCount + 1 })).irq pkBth 3

/-- The MS page's swap request (R461, R464). -/
def State.scheduleReq (s : State) : State :=
  let p := s.page pkMs
  if p.swapPending then s.setPage pkMs { p with swapIgnored := true }
  else
    match s.scheduleFault with
    | some (c, i) => ((s.setFld pkMs MS_STAT_CHECK c).setFld pkMs MS_STAT_CHECK_ENTRY i).irq pkMs 8
    | none =>
      let s := (s.setFld pkMs MS_STAT_CHECK 1).setFld pkMs MS_STAT_CHECK_ENTRY 0
      if s.running (pkMa 0) || s.running (pkMa 1) then
        let ahead := s.word pkMs MS_SWAP_AT - s.maCycle
        if ahead.getLsbD 31 || ahead == 0#32 then (s.setBit pkMs MS_STAT_SWAP_LATE true).irq pkMs 9
        else s.setPage pkMs { s.page pkMs with swapPending := true }
      else s.scheduleSwap

/-! ### Node state (R474) -/

/-- The pier head followed. -/
def State.follow (s : State) (id rank : Nat) (self : Bool) : State :=
  let changed := s.fld pkMs MS_TSTAT_PH_ID != id || s.fld pkMs MS_TSTAT_PH_RANK != rank || s.pierHead != self
  let s := ((s.setFld pkMs MS_TSTAT_PH_ID id).setFld pkMs MS_TSTAT_PH_RANK rank).setBit pkMs MS_TSTAT_PH self
  if changed then s.irq pkMs 10 else s

/-- The plan in force changes (R463). -/
def State.setPlan (s : State) (single : Bool) : State :=
  if s.planSingle == single then s
  else
    let s := s.cntS pkMs (if single then MS_PLANCNT_SINGLES else MS_PLANCNT_RETURNS)
    let s := s.setBit pkMs MS_STAT_PLAN single
    forL [0, 1] (fun c s => (s.setBit (pkMa c) MA_STAT_PLAN single).irq (pkMa c) 10) s

/-- This node requests plan Single: it detects the loss of a channel (R463). -/
def State.planReq (s : State) : Bool := s.bit (pkMa 0) MA_STAT_PLAN_REQ

/-- PLAN_REQ follows the channels' misses. -/
def State.showReq (s : State) : State :=
  let req := [0, 1].any (fun c => decide (2 ≤ s.fld (pkMa c) MA_STAT_MISS))
  forL [0, 1] (fun c s => s.setBit (pkMa c) MA_STAT_PLAN_REQ req) s

/-! ### Link and path delays (R480, R481) -/

def State.ld (s : State) (p : Nat) : Option Nat :=
  let w := s.word (pkPort p) PORT_LDELAY
  if w = 0xFFFFFFFF#32 then none else some w.toNat

/-- P_p[n], if known. -/
def State.path (s : State) (p n : Nat) : Option Nat :=
  let w := s.word (pkPort p) (PORT_PATH.ix n)
  if w = 0xFFFFFFFF#32 then none else some w.toNat

/-- PATH0-PATH31 of a port follow FAR and LD. -/
def State.showPaths (s : State) (p : Nat) : State :=
  let x := s.mport p
  forN 32 (fun n s =>
    let v : Word := match s.ld p, tmem x.far n with
      | some l, true => BitVec.ofNat 32 (tget 0 x.far n + l)
      | _, _ => 0xFFFFFFFF#32
    s.setWord (pkPort p) (PORT_PATH.ix n) v) s

def State.setLd (s : State) (p : Nat) (v : Option Nat) : State :=
  (s.setWord (pkPort p) PORT_LDELAY (match v with | some n => BitVec.ofNat 32 n | none => 0xFFFFFFFF#32)).showPaths p

/-- LD becomes invalid and the link-up stage restarts. -/
def State.ldRestart (s : State) (p : Nat) : State :=
  (s.setMport p { s.mport p with ldCount := 0, ldSum := 0, rejects := 0 }).setLd p none

/-- A measurement d of the link delay (R480). -/
def State.ldMeasure (s : State) (p : Nat) (d : Int) : State :=
  let x := s.mport p
  let pk := pkPort p
  let taken (s : State) : State := s.cntW pk PORT_LDCNT_TAKEN
  let far := match s.ld p with | some l => 0 < x.ldCount && decide (800 < (d - l).natAbs) | none => false
  if far then
    let s := s.cntS pk PORT_LDCNT_REJECT
    if 4 ≤ x.rejects + 1 then s.setMport p { x with ldCount := 0, ldSum := 0, rejects := 0 }
    else s.setMport p { x with rejects := x.rejects + 1 }
  else if x.ldCount < 4 then
    let n := x.ldCount + 1
    let sum := x.ldSum + d
    taken ((s.setMport p { x with ldCount := n, ldSum := sum, rejects := 0 }).setLd p (some (rneDivI sum n).toNat))
  else
    let s := taken (s.setMport p { x with rejects := 0 })
    if s.maCycle.toNat % 64 = 0 then
      match s.ld p with
      | some l => s.setLd p (some ((l : Int) + rneDivI (d - l) 8).toNat)
      | none => s
    else s

/-- What a node publishes on port q for node n (R481). -/
def State.published (s : State) (q n : Nat) : Option Nat :=
  if n = s.nodeId then some 0
  else
    let r := if q % 2 = 0 then q + 1 else q - 1
    if s.linkUp r then (s.path r n).map (· + 9600) else none

/-! ### Frames (R452-R454, R477, R479) -/

/-- The Maulo header of a frame (R453). -/
structure MHdr where
  ver : Nat
  typ : Nat
  ch : Nat
  plan : Bool
  planReq : Bool
  health : Bool
  sender : Nat
  slot : Nat
  cycle : Word
  npdu : Nat
  clean : Bool
  deriving DecidableEq, Repr

def parseHdr (l : List Byte) : MHdr :=
  let b (i : Nat) : Nat := (l.getD (14 + i) 0#8).toNat
  { ver := b 0 / 16, typ := b 0 % 16, ch := b 1 / 128, plan := bitN (b 1) 6, planReq := bitN (b 1) 5, health := bitN (b 1) 4
    sender := b 2 % 32, slot := b 3 % 64, cycle := BitVec.ofNat 32 (beAt l 18 4), npdu := beAt l 22 2
    clean := b 1 % 16 == 0 && b 2 / 32 == 0 && b 3 / 64 == 0 && b 10 == 0 && b 11 == 0 }

/-- DA and EtherType of this node's frames. -/
def State.daBytes (s : State) : List Byte :=
  beBytes ((s.word pkMs MS_MCAST_HI).toNat % 65536) 2 ++ beBytes (s.word pkMs MS_MCAST_LO).toNat 4

/-- The first two tests after the FCS (R457). -/
def State.hdrFits (s : State) (l : List Byte) : Bool :=
  let h := parseHdr l
  l.take 6 == s.daBytes && beAt l 12 2 == s.fld pkMs MS_ETYPE_V && h.ver == 1 && decide (h.typ ≤ 3) && h.clean

/-- A frame of this node: type, channel, slot, number of PDUs, body, and its length with FCS. -/
def State.mkFrame (s : State) (typ c slot npdu : Nat) (body : List Byte) (len : Nat) : List Byte :=
  let flags := 128 * c + 64 * b2n s.planSingle + 32 * b2n s.planReq + 16 * b2n (decide (64 ≤ s.ma.both))
  let h : List Byte := [BitVec.ofNat 8 (16 + typ), BitVec.ofNat 8 flags, BitVec.ofNat 8 s.nodeId, BitVec.ofNat 8 slot]
    ++ beBytes s.maCycle.toNat 4 ++ beBytes npdu 2 ++ [0#8, 0#8]
  let l := s.daBytes ++ [0x02#8, 0x48#8, 0x56#8, 0x4D#8, BitVec.ofNat 8 (0x0A + c), BitVec.ofNat 8 s.nodeId]
    ++ beBytes (s.fld pkMs MS_ETYPE_V) 2 ++ h ++ body
  l ++ List.replicate (len - 4 - l.length) 0#8

/-- A frame is sent on every enabled port of a channel. -/
def State.sendFrame (s : State) (c : Nat) (l : List Byte) : State :=
  (s.cntW (pkMa c) MA_TX).setMa { (s.cntW (pkMa c) MA_TX).ma with sent := tput s.ma.sent c l }

/-- The tag of a PDU (R455). -/
def State.pduTag (s : State) (cycle : Word) (sender : Nat) (pdu : List Byte) : List Byte :=
  let key := (List.range 4).map (fun i => tget 0#32 s.ma.macKey i)
  beBytes (Config.cmac key (beBytes cycle.toNat 4 ++ [BitVec.ofNat 8 sender] ++ pdu)).toNat 8

/-- The PDU of a transmit berth, with its counter (R454, R456). -/
def State.mkPdu (s : State) (n : Nat) : List Byte :=
  let b := s.berth n
  let w := s.berth0 n
  let dlen := fget BTH_BERTH1_DLEN (s.berth1 n)
  let mac := fget BTH_BERTH0_MAC w
  let l := beBytes (fget BTH_BERTH0_DATA_ID w) 2 ++ beBytes dlen 2
    ++ [BitVec.ofNat 8 (if b.fresh then b.cnt + 1 else b.cnt), BitVec.ofNat 8 (mac + 2 * b2n (!b.fresh)), 0#8, 0#8]
    ++ mbytes s.mem (s.berthAddr n b.buf) dlen
  let l := l ++ beBytes (crc32c l).toNat 4
  if mac = 1 then l ++ s.pduTag s.maCycle s.nodeId l else l

/-- The DATA frame of an owned slot is sent; its berths' copies have been taken (R451, R498). -/
def State.sendData (s : State) (c e : Nat) : State :=
  let x := s.contentOf c e
  let bs := (s.slotBerths x.1 x.2 true).filter (fun n => (s.berth n).valid)
  let body := bs.flatMap (fun n => s.mkPdu n)
  let s := s.sendFrame c (s.mkFrame 0 c e bs.length body (s.slotOf c e).len)
  forL bs (fun n s =>
    let b := s.berth n
    s.setBerth n { b with fresh := false, cnt := if b.fresh then (b.cnt + 1) % 256 else b.cnt }) s

/-- A SYNC or START frame is sent (R477). -/
def State.sendTime (s : State) (typ c : Nat) (t : Int) : State :=
  let rank := match s.csRank s.nodeId with | some r => r | none => 0
  s.sendFrame c (s.mkFrame typ c 0 0 (beBytes (t / 16).toNat 8 ++ [BitVec.ofNat 8 rank]) 64)

/-- A LEAD frame is sent on a port (R479): 0 REQ, 1 RESP, 2 NOTICE. -/
def State.sendLead (s : State) (p kind : Nat) : State :=
  let c := p / 2
  let opt (o : Option Nat) : List Byte := match o with | some n => beBytes n 4 | none => beBytes 0xFFFFFFFF 4
  let self := s.pierHead || s.timeState == 1
  let phd := if self then some 0 else s.published p (s.fld pkMs MS_TSTAT_PH_ID)
  let phid := if self then 128 + s.nodeId else if 2 ≤ s.timeState then 128 + s.fld pkMs MS_TSTAT_PH_ID else 0
  let blk := s.maCycle.toNat % 4
  let body := opt (s.ld p) ++ opt phd ++ [BitVec.ofNat 8 phid, BitVec.ofNat 8 kind, BitVec.ofNat 8 blk, 0#8]
    ++ (List.range 8).flatMap (fun i => opt (s.published p (8 * blk + i)))
  s.sendFrame c (s.mkFrame 3 c 0 0 body 80)

/-! ### Windows (R487) -/

/-- Where a frame's start falls. -/
inductive Win
  | slot (k sender : Nat)
  | edge (sender : Nat) (late : Bool)
  | outside
  deriving DecidableEq, Repr

/-- One expectation: slot, sender, and the start against a stamp relative to the cycle. -/
def State.winOf (s : State) (p k sender : Nat) (rel : Int) : Win :=
  let x := s.slotOf (p / 2) k
  let st : Int := x.start * 1600
  let g : Int := x.guard * 1600
  match s.path p sender with
  | some d =>
    let off := rel - (st + d)
    if 2 * (off.natAbs : Int) ≤ g then .slot k sender
    else if (off.natAbs : Int) ≤ g then .edge sender (decide (0 < off))
    else .outside
  | none => if st ≤ rel ∧ rel ≤ st + g then .slot k sender else .outside

/-- The expectations of a channel: entry 0 for each valid cold-start node, the other enabled slots by their senders; slots this
node owns are not among them (R450). -/
def State.expected (s : State) (c : Nat) : List (Nat × Nat) :=
  let own := s.nodeId
  let cs := (List.range 32).filter (fun n => (s.csRank n).isSome && n != own)
  (if (s.slotOf c 0).en then cs.map (fun n => (0, n)) else [])
    ++ ((List.range 64).filter (fun k => k != 0 && (s.slotOf c k).en && (s.slotOf c k).sender != own)).map
        (fun k => (k, (s.slotOf c k).sender))

/-- The window a frame meets. -/
def State.window (s : State) (p : Nat) (stamp : Int) : Win :=
  let rel := stamp - s.ma.cycStart
  let ws := (s.expected (p / 2)).map (fun x => s.winOf p x.1 x.2 rel)
  match ws.find? (fun w => match w with | .slot _ _ => true | _ => false) with
  | some w => w
  | none => match ws.find? (fun w => w != .outside) with
    | some w => w
    | none => .outside

/-- An early or late frame of a sender (R487). -/
def State.edgeFrame (s : State) (c sender : Nat) (late : Bool) : State :=
  let key := 32 * c + sender
  let now := s.maCycle
  let old := (tget [] s.ma.edgeFrames key).filter (fun t => decide ((now - t).toNat < 64))
  let l := now :: old
  let f := match c, late with
    | 0, false => MS_EL_MA_EARLY | 0, true => MS_EL_MA_LATE | _, false => MS_EL_MB_EARLY | _, true => MS_EL_MB_LATE
  let s := (s.setMa { s.ma with edgeFrames := tput s.ma.edgeFrames key l }).cntS pkMs (f.ix sender)
  s.raise (0x1A8 + c) 0x12 (if l.length = 8 then 1 else 0) (128 * b2n late + sender)

/-- A frame outside every window (R450). -/
def State.fwdDrop (s : State) (c : Nat) : State := s.cntS (pkMa c) MA_FWD_DROP_N

/-- A receive error is counted (R457). -/
def State.rxErr (s : State) (c : Nat) (f : Field) : State := (s.cntS (pkMa c) f).irq (pkMa c) 8

/-- A frame that passed its header tests (R457, R463, R485). -/
def State.rxGood (s : State) (c : Nat) (h : MHdr) : State :=
  let m := s.ma
  (s.cntW (pkMa c) MA_RX_OK).setMa { m with
    heard := tput m.heard h.sender s.maCycle
    reqSeen := m.reqSeen || h.planReq
    healthy := if h.health && !(m.healthy.contains h.sender) then m.healthy ++ [h.sender] else m.healthy }

/-! ### Receiving PDUs (R456, R457, R499) -/

/-- A counter of class S counts n. -/
def State.cntSN (s : State) (k : Nat) (f : Field) (n : Nat) : State := forN n (fun _ s => s.cntS k f) s

/-- One PDU of a DATA frame: its bytes through the tag. `fcsOk` false: it is written but no copy completes (R503). -/
def State.rxPdu (s : State) (c srcCh srcSlot : Nat) (h : MHdr) (fcsOk : Bool) (l : List Byte) : State :=
  let id := beAt l 0 2
  let dlen := beAt l 2 2
  let cnt := beAt l 4 1
  let mac := bitN (beAt l 5 1) 0
  let body := l.take (8 + dlen)
  if fcsOk && beAt l (8 + dlen) 4 != (crc32c body).toNat then s.rxErr c MA_RX_ERR_E2E
  else
    match (s.slotBerths srcCh srcSlot false).find? (fun n =>
        fget BTH_BERTH0_DATA_ID (s.berth0 n) == id && fget BTH_BERTH1_DLEN (s.berth1 n) == dlen) with
    | none => if fcsOk then s.cntS pkBth BTH_UNMATCHED_N else s
    | some n =>
      let b := s.berth n
      let put (s : State) : State :=
        { s with mem := (List.range dlen).foldl (fun m i => mset m (s.berthAddr n (!b.buf) + i) (l.getD (8 + i) 0#8)) s.mem }
      if !fcsOk then (if b.doneNow then s else put s)
      else if mac && fget BTH_BERTH0_MAC (s.berth0 n) == 1
          && (l.drop (12 + dlen)).take 8 != s.pduTag h.cycle h.sender (l.take (12 + dlen)) then s.rxErr c MA_RX_ERR_MAC
      else
        let known := tmem s.ma.lastCnt id
        let d := (cnt + 256 - tget 0 s.ma.lastCnt id) % 256
        let keep (s : State) : State := s.setMa { s.ma with lastCnt := tput s.ma.lastCnt id cnt }
        if known && d == 0 then s.setBerth n { b with seen := 0, accepted := true }
        else if known && decide (128 ≤ d) then s.cntS (pkMa c) MA_SEQ_BACK
        else
          let s := keep (if known then s.cntSN (pkMa c) MA_SEQ_GAP (d - 1) else s)
          if b.doneNow then s.setBerth n { b with seen := 0, accepted := true }
          else (put s).setBerth n { b.complete with seen := 0, accepted := true, doneNow := true }

/-- The PDUs of a DATA frame from an offset. -/
def State.rxPdus (s : State) (c srcCh srcSlot : Nat) (h : MHdr) (fcsOk : Bool) (l : List Byte) : Nat → Nat → State
  | 0, _ => s
  | n + 1, off =>
    let t := l.drop off
    let size := 12 + beAt t 2 2 + (if bitN (beAt t 5 1) 0 then 8 else 0)
    if l.length < off + size then (if fcsOk then s.rxErr c MA_RX_ERR_E2E else s)
    else (s.rxPdu c srcCh srcSlot h fcsOk (t.take size)).rxPdus c srcCh srcSlot h fcsOk l n (off + size)

/-! ### Time corrections (R472, R482-R484) -/

/-- LD is valid on every port with its link up (R483). -/
def State.linksMeasured (s : State) : Bool := (List.range 4).all (fun p => !(s.linkUp p) || (s.ld p).isSome)

/-- The node goes listen-only, or back to LISTEN, on the third over-limit offset (R474, R484). -/
def State.overLimit (s : State) : State :=
  let s := if 3 ≤ s.timeState then (s.cntS pkMs MS_TCNT_LISTENS).raise timeSource 0x12 1 else s
  s.setTime 0

/-- The correction of R482 at the first valid SYNC or START of a cycle. -/
def State.correct (s : State) (stamp : Int) (cs : Nat) (p : Nat) : State :=
  let m := s.ma
  let lim : Int := 400 * s.gmin
  let n : Nat := 400 * s.cycleUs
  let o := stamp - 16 * cs - p
  let oc := clampI (-lim) lim o
  let d := clampI (-256) 256 (if m.firstAfterLoad then 0 else o - (m.oPrev - m.ocPrev))
  let rate := s.sfld pkMs MS_RATE
  let rate := clampI (-2147484) 2147484 (rate - rneDivI (d * 2 ^ 28) (n * 2 ^ s.fld pkMs MS_TIME_CFG_KR))
  let slew := rneDivI (-oc * 2 ^ 28) n
  let isOver := decide (lim < (o.natAbs : Int))
  let overCnt := if isOver then min 3 (s.fld pkMs MS_TSTAT_OVER + 1) else 0
  let clean := !isOver && s.linksMeasured && !m.cleanNow
  let s := s.setMa { m with slew := slew, slewLeft := n, firstAfterLoad := false, oPrev := o, ocPrev := oc
                            cleanNow := m.cleanNow || clean, cycStart := 16 * cs }
  let s := ((s.setSfld pkMs MS_RATE rate).setSfld pkMs MS_OFFSET o).setFld pkMs MS_TSTAT_OVER overCnt
  let s := if clean then s.cntS pkMs MS_TSTAT_CLEAN else s
  if 3 ≤ overCnt then s.overLimit else s

/-- Entry into INTEGRATE, or the SYNC that follows a START in one cycle: TM is loaded (R483, R490). -/
def State.loadTime (s : State) (p : Nat) (stamp : Int) (cs : Nat) (h : MHdr) (rank : Nat) : State :=
  let x := s.mport p
  let pd : Nat := if x.neigh = some h.sender then 0
    else (match x.phDelay with | some n => n | none => 0) + (match s.ld p with | some n => n | none => 0)
  let tm : Int := (16 * cs + pd) * 2 ^ 28 + ((s.ma.tm : Int) - stamp * 2 ^ 28)
  let s := s.setMa { s.ma with tm := (tm % 2 ^ 96).toNat, slew := 0, slewLeft := 0, cycStart := 16 * cs, firstAfterLoad := true
                               synced := false, cleanNow := false, closed := [] }
  let s := (s.setWord pkMs MS_CYCLE h.cycle).setWord pkMs MS_PH_START (BitVec.ofNat 32 cs)
  let s := (s.setFld pkMs MS_TSTAT_CLEAN 0).setFld pkMs MS_TSTAT_OVER 0
  ((s.setPlan h.plan).follow h.sender rank false).setTime 2

/-- A cold start is abandoned (R474, R476). -/
def State.abandonStart (s : State) : State :=
  ((s.cntS pkMs MS_TCNT_ABANDONS).raise timeSource 0x06 0).setTime 0

end Sys2Proof.Machine
end

