-- ==== Sys2Proof/Machine/Watch.lean ====
section
/-!
DEFINITION. Machine/Watch.lean: the operations of the watch group: agreement, signatures, mooring frames received, the snapshot
(R523-R536, R544-R547).
-/
namespace Sys2Proof.Machine

/-! ### Agreement (R528-R531) -/

/-- An entry's value as latched at the boundary; none where its source is invalid (R529). -/
def State.latchEntry (s : State) (e : Nat) : Option Word :=
  let w := s.word pkWg (WG_AGREE.ix e)
  let n := w.toNat
  let take (x : Word × Bool) : Option Word := if x.2 then none else some x.1
  let v := match fget WG_AGREE_SRC w with
    | 1 => take (s.scStream (min 11 (bitsN n 11 8)) (bitsN n 2 0))
    | 2 => take (s.phaseStream (min 17 (bitsN n 4 0)))
    | 3 =>
      let k := pkGa (bitsN n 4 4)
      if s.bit k (GA_RES_STALE.ix (bitsN n 3 0)) then none else some (BitVec.ofNat 32 (s.fld k (GA_RES_CODE.ix (bitsN n 3 0))))
    | 4 => let k := pkSent (bitsN n 2 0); if s.running k then some (BitVec.ofNat 32 (s.fld k SENT_FAST_DATA)) else none
    | 5 =>
      let b := bitsN n 19 12
      let x := s.berth b
      if x.valid && decide (x.age ≤ 2) && decide (4 * bitsN n 7 0 < fget BTH_BERTH1_DLEN (s.berth1 b)) then
        some (s.m32 (s.berthAddr b x.buf + 4 * bitsN n 7 0))
      else none
    | 6 => some (s.word pkWg (WG_FWIN.ix (bitsN n 3 0)))
    | _ => none
  match v with
  | some x => if fget WG_AGREE_INT w = 0 && fIsNan f32 x.toNat then none else some x
  | none => none

/-- NMAX: one more than the highest enabled entry (R528). -/
def State.nMax (s : State) : Nat :=
  (List.range 256).foldl (fun n e => if s.fld pkWg (WG_AGREE_SRC.ix e) != 0 then e + 1 else n) 0

/-- The payload of a RAW frame: the bitmap, then the values. -/
def State.rawPayload (s : State) (own : List (Nat × Word)) : List Byte :=
  let bits (i : Nat) : Nat := (List.range 8).foldl (fun n b => if tmem own (8 * i + b) then n + 2 ^ b else n) 0
  (List.range 32).map (fun i => BitVec.ofNat 8 (bits i)) ++ (List.range s.nMax).flatMap (fun e => beBytes (tget 0#32 own e).toNat 4)

/-- A RAW frame's valid entries. -/
def rawEntries (l : List Byte) : List (Nat × Word) :=
  let n := (l.length - 32) / 4
  ((List.range n).filter (fun e => bitN (beAt l (e / 8) 1) (e % 8))).map (fun e => (e, BitVec.ofNat 32 (beAt l (32 + 4 * e) 4)))

/-- A finite binary32 value in units of 2^-149. -/
def f32Units (w : Word) : Int :=
  match fdec f32 w.toNat with
  | .fin ng m e => (if ng then -1 else 1) * (m * 2 ^ (e + 149).toNat : Nat)
  | _ => 0

def f32Inf (w : Word) : Bool := w &&& 0x7FFFFFFF#32 == 0x7F800000#32

/-- |a − b| ≤ WIN (R530). -/
def withinWin (int : Bool) (a b win : Word) : Bool :=
  if int then decide (((a - b).toInt.natAbs * 2 ^ 149 : Int) ≤ f32Units win)
  else if f32Inf a || f32Inf b then a == b
  else decide (((f32Units a - f32Units b).natAbs : Int) ≤ f32Units win)

/-- Order of two values: binary32, or by the signed difference from a third. -/
def valueLt (int : Bool) (ref a b : Word) : Bool :=
  if int then decide ((a - ref).toInt < (b - ref).toInt) else flt f32 a.toNat b.toNat

/-- The median of three. -/
def median3 (int : Bool) (a b c : Word) : Word :=
  let mid (x : Word) : Bool :=
    let l := [a, b, c]
    decide ((l.filter (fun y => valueLt int a y x)).length ≤ 1) && decide ((l.filter (fun y => valueLt int a x y)).length ≤ 1)
  if mid a then a else if mid b then b else c

/-- MEAN (R530). -/
def meanOf (int : Bool) (a b : Word) : Word :=
  if int then a + (b - a).sshiftRight 1
  else BitVec.ofNat 32 (fmul f32 (fadd f32 a.toNat b.toNat).1 0x3F000000).1

/-- The agreed value of an entry by rule: value, stale, disputed. -/
def agreeRule (rule : Nat) (int : Bool) (win : Word) (own : Option Word) (prev : Word) (l : List Word) : Word × Bool × Bool :=
  let far3 := match l with
    | [a, b, c] => let m := median3 int a b c; l.any (fun x => !(withinWin int x m win))
    | _ => false
  if rule = 3 then
    match own with
    | some v => (v, false, far3)
    | none => (prev, true, far3)
  else
    match l with
    | [a, b, c] => (if rule = 2 then a else median3 int a b c, false, far3)
    | [a, b] =>
      if rule = 2 then (a, false, false)
      else if withinWin int a b win then (if rule = 1 then meanOf int a b else a, false, false)
      else (a, false, true)
    | [a] => (a, false, false)
    | _ => (prev, true, false)

/-- The valid values of an entry, best rank first. -/
def State.entrySources (s : State) (e : Nat) : List Word :=
  (List.range 4).filterMap (fun r =>
    if r = s.wgRank then (if tmem s.wg.own e then some (tget 0#32 s.wg.own e) else none)
    else match s.wg.raws.find? (fun x => x.rank == r) with
      | some x => if tmem x.entries e then some (tget 0#32 x.entries e) else none
      | none => none)

/-- An entry's agreed value (R530, R552). -/
def State.agreeEntry (s : State) (e : Nat) : Word × Bool × Bool :=
  let lee := s.lee
  if s.sea.mf.leeEn && decide (252 ≤ e) then
    ((match e with
      | 252 => if lee then 0x3F800000#32 else 0#32
      | 253 => if lee then 0x3F000000#32 else 0x3F800000#32
      | 254 => s.sea.mf.leeRate
      | _ => s.sea.mf.leeAcc), false, false)
  else
    let w := s.word pkWg (WG_AGREE.ix e)
    if fget WG_AGREE_SRC w = 0 then ((s.agreedStream e).1, true, false) else
    agreeRule (fget WG_AGREE_RULE w) (fget WG_AGREE_INT w == 1) (s.word pkWg (WG_WIN.ix e))
      (if tmem s.wg.own e then some (tget 0#32 s.wg.own e) else none) (s.agreedStream e).1 (s.entrySources e)

/-- A disputed entry (R530). -/
def State.dispute (s : State) (e : Nat) (b : Bool) : State :=
  let n := if b then min 16 (tget 0 s.wg.disputes e + 1) else 0
  let was := tget 0 s.wg.disputes e
  let s := s.setWg { s.wg with disputes := if b then tput s.wg.disputes e n else tdel s.wg.disputes e }
  if b then
    let s := ((s.cntS pkWg WG_CNT_DISPUTES).irq pkWg 9).raise 0x1C3 0x06 0
    if n = 16 ∧ was = 15 then s.raise 0x1C3 0x06 1 e else s
  else s

/-- AGREE_SIG (R531): each value's four bytes, least significant first, then its stale mark (log entry 34). -/
def agreeSig (l : List (Nat × (Word × Bool))) : Word :=
  crc32c ((List.range 256).flatMap (fun e =>
    let x : Word × Bool := tget (0#32, true) l e
    (beBytes x.1.toNat 4).reverse ++ [BitVec.ofNat 8 (b2n x.2)]))

/-- The agreed set is formed and published. -/
def State.agree (s : State) : State :=
  let l := (List.range 256).map (fun e => (e, s.agreeEntry e))
  let s := forL l (fun x s => (s.dispute x.1 x.2.2.2).setWord pkWg (WG_AGREED.ix x.1) x.2.1) s
  let set := l.map (fun x => (x.1, (x.2.1, x.2.2.1)))
  { s with agreed := set }.setWord pkWg WG_AGREE_SIG (agreeSig set)

/-! ### Signatures (R532, R536) -/

/-- Bytes of a word, least significant first. -/
def leWord (w : Word) : List Byte := leBytes w.toNat 4

/-- The rate groups of SIG_GRP. -/
def State.sigGrp (s : State) (g : Nat) : Bool := bitN (s.fld pkWg WG_CFG_SIG_GRP) g

/-- The P words of engine k that the groups of SIG_GRP write (R222). -/
def State.sigSlots (s : State) (k : Nat) : List Nat :=
  let slots := (s.examined k).flatMap (fun x =>
    if s.sigGrp x.2 then
      let f := opFields (s.ceProg k x.1)
      match opUse f with | some u => opSlots f u | none => []
    else [])
  (List.range 256).filter (fun i => slots.contains i)

/-- A swell table is taught by a group of SIG_GRP. -/
def State.sigTable (s : State) (t : Nat) : Bool := s.sigGrp (s.fld (pkSw (t / 4)) (SW_TBL_CFG_TEACH.ix (t % 4) 0x40))

/-- STATE_SIG (R536). -/
def State.stateSig (s : State) (period : Nat) : Word :=
  let n := period % 96
  crc32c ((List.range 6).flatMap (fun k => (s.sigSlots k).flatMap (fun i => leWord (s.ceP k i)))
    ++ (if s.sigTable (n / 4) then mbytes s.mem (0x33000000 + 1024 * n) 1024 else [])
    ++ leWord (s.word pkWg WG_APP_SIG))

/-- CONFIG_SIG (R532), over the listed configuration in its order (log entry 34). -/
def State.configSig (s : State) : Word :=
  let regs (k : Nat) (f : Field) (n : Nat) : List Byte := (List.range n).flatMap (fun i => leWord (s.word k (f.ix i)))
  let coefs (k : Nat) (b : Bool) : List Byte := (List.range 256).flatMap (fun i => leWord (s.regOf (pkCe k) (0x400 + 4 * i) b))
  let feeds (j : Nat) : Bool := (List.range 6).any (fun k => (List.range 32).any (fun i =>
    let w := s.word (pkCe k) (CE_LINK.ix i)
    fget CE_LINK_TYPE w == 3 && bitsN w.toNat 9 8 == j))
  crc32c ((List.range 6).flatMap (fun k =>
      mbytes s.mem (ceBase k) 0x800 ++ coefs k false ++ coefs k true ++ regs (pkCe k) CE_LINK 32 ++ leWord (s.word (pkCe k) CE_XMASK))
    ++ leWord (s.word (pkCe 0) CE_TICK_CFG) ++ regs pkWg WG_AGREE 256 ++ regs pkWg WG_WIN 256
    ++ (List.range 4).flatMap (fun j => if feeds j then mbytes s.mem (0x31000000 + j * 0x100000) 0x40000 else [])
    ++ leWord (s.word pkWg WG_CFG))

/-! ### HELLO and the log of a return (R532, R547, R548) -/

/-- The payload of HELLO: STAT, CONFIG_SIG, and one more than the engine whose committed state is asked for (R578; log entry 34). -/
def State.sendHello (s : State) : State :=
  let s := s.setWord pkWg WG_CONFIG_SIG s.configSig
  let ask := match s.dr.stepHold with | some k => k + 1 | none => 0
  s.mpSendAll 5 (beBytes (s.word pkWg WG_STAT).toNat 4 ++ beBytes (s.word pkWg WG_CONFIG_SIG).toNat 4 ++ beBytes ask 4)

/-- A return starts again from the bulk phase, with a HELLO that says so (R548). -/
def State.restartReturn (s : State) : State := (s.toReturning.raise 0x1C5 0x06 1).sendHello

/-- A returning unit logs the set from period C onward (R547). -/
def State.logSet (s : State) : State :=
  let depth := s.fld pkWg WG_CFG_LOG_DEPTH
  let since := s.word pkWg WG_PERIOD - s.word pkWg WG_CUT
  let n := s.wg.logged
  if s.wgState != 3 || s.wg.caughtReq || decide (s.fld pkWg WG_SNAP_STAT_PHASE < 3) || since.getLsbD 31 then s
  else if depth ≤ n then s.restartReturn
  else
    let a := (s.word pkWg WG_LOG_BASE).toNat + 1024 * (since.toNat % depth)
    let s := forN 256 (fun e s => s.setM32 (a + 4 * e) (s.agreedStream e).1) s
    (s.setWg { s.wg with logged := n + 1 }).setWord pkWg WG_LOG_FIRST (s.word pkWg WG_CUT)

/-! ### Period boundary (R527, R528, R533-R536, R547) -/

/-- The shadow of R533: on the last base tick before period XSWAP_AT the WG requests the swaps. -/
def State.xswapDue (s : State) (tick : Nat) : State :=
  let pt := s.fld pkWg WG_CFG_PERIOD_TICKS
  if s.wg.xswap && decide ((tick + 1) % pt = 0) && decide ((tick + 1) / pt = (s.word pkWg WG_XSWAP_AT).toNat) then
    let s := s.setWg { s.wg with xswap := false }
    forN 6 (fun k s => if bitN (s.fld pkWg WG_XSWAP_MASK_V) k then s.swapReq (pkCe k) else s) s
  else s

/-- The end of a period: comparisons left undone count (R534), and a CAUGHT_UP written in it takes effect (R547). -/
def State.wgPeriodEnd (s : State) : State :=
  let s := if s.wg.ownX.isSome then
      forL s.peerList (fun i s => if tmem s.wg.peerX i then s else s.cntS pkWg WG_CNT2_NOCMP) s
    else s
  s.setWg { s.wg with caughtUp := s.wg.caughtReq, agreedNow := false }

/-- A period boundary. -/
def State.wgPeriod (s : State) (tick : Nat) : State :=
  if !(s.running pkWg) then s
  else
    let pt := s.fld pkWg WG_CFG_PERIOD_TICKS
    let s := if tick % pt = 0 then
        let s := s.wgPeriodEnd
        let period := tick / pt
        let sig := s.stateSig period
        let own := (List.range 256).filterMap (fun e => match s.latchEntry e with | some v => some (e, v) | none => none)
        let s := (s.setWord pkWg WG_PERIOD (BitVec.ofNat 32 period)).setWord pkWg WG_STATE_SIG sig
        let s := s.setWg { s.wg with own := own, raws := [], ownX := none, peerX := [], xDone := [], xAbnd := [], prevSig := sig }
        if s.gsize = 0 then s else s.mpSendAll 1 (s.rawPayload own)
      else s
    s.xswapDue tick

/-! ### Frames received (R523, R524) -/

/-- A mooring frame is received: discarded for its check, header or as a duplicate, or taken and in a triple forwarded; `f` is
given the peer, the period and the payload. -/
def State.mpTake (s : State) (p typ : Nat) (crc : FrameCheck) (l : List Byte) (f : State → Nat → Word → List Byte → State) : State :=
  let b1 := beAt l 1 1
  let src := b1 % 4
  let fwd := bitN b1 7
  let period := BitVec.ofNat 32 (beAt l 4 4)
  let payload := l.drop 8
  let bad (s : State) : State := (s.cntS (pkMp p) MP_CNT_CRC).irq (pkMp p) 8
  let once := typ == 1 || typ == 2 || typ == 4
  if 2 ≤ p ∨ s.mpUp p = false then s
  else match crc, s.rankPeer src with
    | .good, some i =>
      if beAt l 0 1 ≠ typ ∨ b1 / 4 % 32 ≠ 0 ∨ beAt l 2 2 ≠ 0 ∨ l.length < 8 then bad s
      else
        let s := if s.gsize = 3 ∧ once = true ∧ fwd = false then s.mpSend (1 - p) typ (src + 128) period payload else s
        if once && s.wg.frames.contains (typ, src, period) then s.cntS (pkMp p) MP_CNT_DUP
        else
        let s := (s.cntW (pkMp p) MP_RX).setWg { s.wg with frames := ((typ, src, period) :: s.wg.frames).take 24 }
        let s := if fwd then s else s.setFld (pkMp p) MP_STAT_PEER_RANK src
        f s i period payload
    | _, _ => bad s

/-! ### Snapshot (R544-R546) -/

/-- The blocks of the enabled regions, in address order, and of the swell tables taught by SIG_GRP groups. -/
def State.snapBlocks (s : State) : List Nat :=
  (List.range 8).flatMap (fun n =>
      if s.bit pkWg (WG_REG_BASE_EN.ix n 8) then
        (List.range (s.fld pkWg (WG_REG_LEN_N.ix n 8))).map (fun i => 256 * (s.fld pkWg (WG_REG_BASE_BLOCK.ix n 8) + i))
      else [])
    ++ (List.range 24).flatMap (fun t => if s.sigTable t then (List.range 16).map (fun i => 0x33000000 + 0x1000 * t + 256 * i) else [])

/-- A block lies in a region this unit sends. -/
def State.inRegions (s : State) (a : Nat) : Bool :=
  (List.range 8).any (fun n =>
    let b := 256 * s.fld pkWg (WG_REG_BASE_BLOCK.ix n 8)
    s.bit pkWg (WG_REG_BASE_EN.ix n 8) && decide (b ≤ a) && decide (a < b + 256 * s.fld pkWg (WG_REG_LEN_N.ix n 8)))

/-- A write marks its block dirty (R544). -/
def State.markDirty (s : State) (a : Nat) : State :=
  let b := a / 256 * 256
  if s.wg.sending && s.inRegions a && !(s.wg.dirty.contains b) then s.setWg { s.wg with dirty := s.wg.dirty ++ [b] } else s

/-- The sender starts the bulk phase of a return, anew where the returning unit's HELLO says so; a peer that is no longer
RETURNING ends it. -/
def State.snapStart (s : State) (i : Nat) (anew : Bool) : State :=
  let ok := match (s.peer i).hello with | some (_, sig) => sig == s.word pkWg WG_CONFIG_SIG | none => false
  if s.bit pkSea SEAWALL_STAT_BOL_OUT && s.peerRole i == 3 && ok && (anew || !s.wg.sending) then
    let l := s.snapBlocks
    let s := s.setWg { s.wg with sending := true, sendTo := i, sweep := l, dirty := [], stepBlocks := [], cutNext := false, cutBuf := [] }
    (s.setFld pkWg WG_SNAP_STAT_PHASE 1).setFld pkWg WG_SNAP_STAT_LEFT l.length
  else if s.wg.sending && s.wg.sendTo == i && s.peerRole i != 3 then
    (s.setWg { s.wg with sending := false }).setFld pkWg WG_SNAP_STAT_PHASE 0
  else s

/-- Whether a received block may be written: shared SRAM, data TCMs and swell tables; engine state word by word. -/
def snapTarget (a : Nat) : Bool :=
  (decide (0x20000000 ≤ a) && decide (a < 0x20800000))
    || (decide (0x30000000 ≤ a) && decide (a < 0x30400000) && decide (0x40000 ≤ a % 0x100000) && decide (a % 0x100000 < 0x80000))
    || (decide (0x33000000 ≤ a) && decide (a < 0x33018000))

/-- The engine and word of committed state at an address. -/
def cePOf (a : Nat) : Option (Nat × Nat) :=
  if 0x32000000 ≤ a ∧ a < 0x32060000 ∧ 0x800 ≤ a % 0x10000 ∧ a % 0x10000 < 0xC00 ∧ a % 4 = 0 then
    some ((a - 0x32000000) / 0x10000, (a % 0x10000 - 0x800) / 4)
  else none

/-- One block of 256 bytes is written into this unit's memory. -/
def State.snapWrite (s : State) (a : Nat) (l : List Byte) : State :=
  if a % 256 ≠ 0 then s
  else if snapTarget a then { s with mem := (List.range 256).foldl (fun m i => mset m (a + i) (l.getD i 0#8)) s.mem }
  else forN 64 (fun i s =>
    match cePOf (a + 4 * i) with
    | some (k, n) =>
      if (s.sigSlots k).contains n then s.setM32 (a + 4 * i) (BitVec.ofNat 32 (beAt (((l.drop (4 * i)).take 4).reverse) 0 4)) else s
    | none => s) s

/-- The blocks of a STATE frame, each preceded by its address. -/
def State.snapTake (s : State) : Nat → List Byte → State
  | 0, _ => s
  | n + 1, l => if l.length < 260 then s else (s.snapWrite (beAt l 0 4) ((l.drop 4).take 256)).snapTake n (l.drop 260)

/-! ### Roles (R537) -/

/-- The unit enters JOINING (R123 step 14), or is in it since a UR. -/
def State.wgJoin (s : State) : State :=
  if s.gsize != 0 then
    let s := (s.setFld pkWg WG_STAT_RANK s.wgRank).setFld pkWg WG_STAT_GSIZE s.gsize
    if s.wgState = 0 then s.setRole 1 else s
  else s

/-- JOINING goes on to RETURNING beside a unit with authority, or to CANDIDATE (R537, R548). -/
def State.wgAdvance (s : State) : State :=
  if s.wgState != 1 then s
  else if s.peerList.any (fun i => s.peerAuth i) then
    let s := s.toReturning
    let differs := s.peerList.any (fun i => s.peerAuth i &&
      (match (s.peer i).hello with | some (_, sig) => sig != s.word pkWg WG_CONFIG_SIG | none => false))
    if differs then s.raise 0x1C5 0x06 1 else s
  else if s.inHigh && (s.wg.joinDone || s.peerList.all (fun i => (s.peer i).absent)) then s.setRole 2
  else s

/-- STAT.DETACHED follows the links. -/
def State.showDetached (s : State) : State := s.setBit pkWg WG_STAT_DETACHED s.detached

end Sys2Proof.Machine
end

