-- ==== Sys2Proof/Machine/BusView.lean ====
section
/-!
DEFINITION. Machine/BusView.lean: what a read of a register shows (R41-R69 and the register tables of the block chapters): the
common header, and the registers that show state held elsewhere.
-/
namespace Sys2Proof.Machine

/-- PAGE_STAT.STATE (R47). -/
def PageSt.code : PageSt → Nat
  | .off => 0 | .idle => 1 | .run => 2 | .drain => 3 | .fault => 4 | .test => 5

/-- KEY_STATE (R63). -/
def KeySeq.code : KeySeq → Nat
  | .idle => 0 | .first _ => 1 | .opened _ => 2

/-- PAGE_CTRL as read (R44). -/
def Page.ctrlWord (p : Page) : Nat := b2n p.en + 2 * p.drainMode.toNat + 16 * b2n p.shadowSel + 128 * b2n p.lock

/-- PAGE_STAT as read (R47). -/
def Page.statWord (p : Page) : Nat := 1024 * b2n p.lock + 512 * b2n p.sat + 256 * b2n p.clamped + p.st.code

/-- PAGE_CLAMP_LOG as read (R61). -/
def Page.clampWord (p : Page) : Nat := 2 ^ 24 * p.clampCause.toNat + 2 ^ 16 * p.clampCount.toNat + p.clampOff.toNat

/-- PAGE_SHADOW_CTRL as read (R65); a reserved offset on pages without banks (R41). -/
def State.shadowWord (s : State) (k : Nat) : Nat :=
  let p := s.page k
  match kindOf k with
  | some d =>
    if hasBanks d then 2 ^ 16 * p.swapCount.toNat + 2 ^ 12 * swapPointCode d + 256 * b2n p.activeB + 16 * b2n p.copyBusy
      + 4 * b2n p.swapIgnored + 2 * b2n p.swapPending
    else 0
  | none => 0

/-- A register of the common header as read (R41-R65). -/
def State.headerView (s : State) (k off : Nat) : Word :=
  let p := s.page k
  match off with
  | 0x000 => pageId k
  | 0x004 => BitVec.ofNat 32 p.ctrlWord
  | 0x008 => BitVec.ofNat 32 p.statWord
  | 0x00C => p.irqFlags
  | 0x010 => p.irqEn
  | 0x014 => p.route
  | 0x018 => BitVec.ofNat 32 p.clampWord
  | 0x01C => BitVec.ofNat 32 (256 * p.keyFail.toNat + p.key.code)
  | 0x020 => BitVec.ofNat 32 (s.shadowWord k)
  | _ => 0#32

/-! ### The Harbourmaster (R443, R446, R447) -/

def IncSt.code : IncSt → Nat
  | .closed => 0 | .held => 1 | .probation => 2 | .lee => 3

/-- A word with bit g set for every group whose incident satisfies `f`. -/
def State.incMask (s : State) (f : Incident → Bool) : Nat :=
  s.hm.inc.foldl (fun n x => if f x.2 then putBitN n x.1 true else n) 0

/-- A record in 32-bit words: pennant, then time (R443). -/
def HmRec.part (r : HmRec) (i : Nat) : Word :=
  match i % 4 with
  | 0 => r.pennant.setWidth 32
  | 1 => (r.pennant >>> 32).setWidth 32
  | 2 => r.time.setWidth 32
  | _ => (r.time >>> 32).setWidth 32

/-- Quiet time left in µs; 0 when CLOSED (R443). -/
def State.quietLeft (s : State) (x : Incident) : Nat :=
  if x.st == .closed then 0 else (s.quietCycles - (s.cyc - x.quietFrom)) / 400

/-- A word of a group's incident record (R443). -/
def State.incWord (s : State) (g i : Nat) : Word :=
  let x := s.incident g
  match i with
  | 0 | 1 | 2 | 3 => x.first.part i
  | 4 | 5 | 6 | 7 => x.last.part i
  | 8 => x.kinds.setWidth 32
  | 9 => (x.kinds >>> 32).setWidth 32
  | 10 => BitVec.ofNat 32 (2 ^ 16 * x.count + 256 * x.helds + 16 * x.level + 8 * b2n x.acked + x.st.code)
  | 11 => BitVec.ofNat 32 (256 * x.escalations + x.releases)
  | 12 => BitVec.ofNat 32 (s.quietLeft x)
  | _ => 0#32

/-- The record of a history entry without one (R442); its time bytes read as the march leaves them (R573). -/
def noRecord : HmRec := ⟨0xFFFFFFFFFFFFFFFF#64, 0#64⟩

/-- A word of the Harbourmaster store at a word-aligned offset (R443). -/
def State.storeWord (s : State) (o : Nat) : Word :=
  if o < 0x100 then
    let i := o / 16
    let pad := 16 - s.hm.hist.length
    (if i < pad then noRecord else s.hm.hist.getD (i - pad) noRecord).part (o / 4)
  else if o < 0x900 then s.incWord ((o - 0x100) / 64) ((o - 0x100) / 4 % 16)
  else if 0x1000 ≤ o ∧ o < 0x1A00 then
    let x := s.srcSt ((o - 0x1000) / 4)
    BitVec.ofNat 32 (2 ^ 16 * x.admitted + 256 * x.dropped + x.expSeq.toNat)
  else if 0x8000 ≤ o then (tget ⟨0#64, 0#64⟩ s.hm.ring ((o - 0x8000) / 16)).part (o / 4)
  else 0#32

/-! ### Registers that show state held elsewhere -/

/-- The seconds since a channel's last accepted calibration (R159). -/
def State.calAge (s : State) (k : Nat) : Nat :=
  match (s.chan k).calAt with
  | some t => min 65535 ((s.cyc - t) / 400000000)
  | none => 65535

/-- AGE of a peer in ms since its last HEALTH (R563). -/
def State.healthAge (s : State) (i : Nat) : Nat :=
  match (s.peer i).healthAt with
  | some t => min 255 ((s.cyc - t) / 400000)
  | none => 0

/-- EIRQ: the groups with a page that routes an asserted interrupt to pair k (R395). -/
def State.eirq (s : State) (k : Nat) : Nat :=
  s.pages.foldl (fun n x => if bitN x.2.route.toNat k && s.irqLevel x.1 then putBitN n (x.1 / 32) true else n) 0

/-- DR.STAT (R587). -/
def State.drStat (s : State) : Nat :=
  2 ^ 27 * s.tokensFree + 2 ^ 16 * s.dr.running.length
    + 256 * (match s.dr.phase with | .none => 0 | .boot => 1 | .floodRun => 2 | .sweep => 3 | .service => 4)
    + 4 * min 63 s.dr.queue.length + 2 * b2n s.dr.warnHold

/-- GPIO_IN (R516, R552): driven pins read what drives them; the levels of the others come from outside. -/
def State.gpioDriven (s : State) (n : Nat) : Option Bool :=
  if s.lee && s.sea.mf.leePin == n then some true
  else if bitN (s.fld pkSys SYS_GPIO_CFG_OE) n && !(bitN (s.fld pkSys SYS_GPIO_CFG_CS) n) then some (bitN (s.fld pkSys SYS_GPIO_OUT_V) n)
  else none

/-- The bits of a register that the spec gives no value: measured quantities and undriven pins (log entry 5). -/
def State.openBits (s : State) (k off : Nat) : Word :=
  match kindOf k with
  | some .gb => if off = GB_MEAS.off then 0xFFFFFFFF#32 else 0#32
  | some .sup =>
    if off = SUP_VSUP_MEAS.off then 0xFFFFFFFF#32
    else if off = SUP_SUP_STAT.off ∧ s.pw.vpre = .good then 1#32 else 0#32
  | some .sys =>
    if off = SYS_GPIO_IN.off then
      BitVec.ofNat 32 ((List.range 8).foldl (fun m n => if (s.gpioDriven n).isNone then putBitN m n true else m) 0)
    else 0#32
  | some .can => if off = CAN_FIFO_POP.off then 0xFFFFFFFF#32 else 0#32
  | _ => 0#32

/-- A block register as read, beside the bits of `openBits` (the register tables of the block chapters). -/
def State.blockView (s : State) (k off : Nat) : Word :=
  let w := s.busReg k off
  let i := k % 32
  match kindOf k with
  | some .sys =>
    if off = SYS_GPIO_IN.off then
      BitVec.ofNat 32 ((List.range 8).foldl (fun m n => if s.gpioDriven n = some true then putBitN m n true else m) 0)
    else w
  | some .sup => if off = SUP_SS_STAT.off then s.ssStat else w
  | some .sec => if off = SEC_BANK_CTRL.off then s.bankPref else w
  | some .cs => if off = CS_CAL.off then fput CS_CAL_AGE w (s.calAge i) else w
  | some .cst =>
    -- R164: gain, polarity and scale of the channel served or last served.
    match off, s.td.served with
    | 0x040, some j => fput CST_CFG_INVERT (fput CST_CFG_GAIN w (s.fld (pkCs j) CS_CFG_GAIN)) (s.fld (pkCs j) CS_CFG_INVERT)
    | 0x044, some j => s.word (pkCs j) CS_SCALE
    | 0x064, _ => fput CST_CAL_AGE w (s.calAge 18)
    | _, _ => w
  | some .sc =>
    if off = SC_GEOM.off ∧ 3 ≤ s.scMode i then fput SC_GEOM_CPR w (s.cpr i)
    else if off = SC_SLACK_POS.off ∧ 10 ≤ i then (s.aon i).pos
    else if off = SC_SLACK_STAT.off ∧ 10 ≤ i then
      let c := s.aon i
      BitVec.ofNat 32 (2 ^ 16 * c.missed + 4 * b2n c.active + 2 * b2n c.lost + b2n c.valid)
    else w
  | some .ce =>
    if off = CE_TICK_SKIP_FREE.off then
      fput CE_TICK_SKIP_FREE (s.busReg (pkCe 0) off) (b2n (s.tickOn && s.bit (pkCe 0) CE_TICK_CFG_SYNC && !s.tickAligned))
    else if 0x04C ≤ off ∧ off < 0x058 then s.busReg (pkCe 0) off
    else w
  | some .gb => if off = GB_STAT.off then fput GB_STAT_LEGFLT w (s.legflt (i - 24)) else w
  | some .hc => if off = HC_TMIN.off then fput HC_TMIN_V w (s.tminOf (i - 24)) else w
  | some .cv =>
    let c := (s.cove i).main
    let sr := tget 0 c.rf 0x28
    if off = CV_STAT.off then BitVec.ofNat 32 (2 ^ 16 * (c.pc % 65536) + 512 * (sr / 2 ^ 13 % 2) + 256 * (sr / 2 ^ 12 % 2) + fget CV_STAT_HALTED w)
    else if off = CV_RETIRED.off then BitVec.ofNat 32 c.retired
    else w
  | some .ac =>
    let v := s.appOf i
    match off with
    | 0x04C => fput AC_STAT_DBG_HALTED w (b2n (v.halted && v.fifo.isEmpty))
    | 0x050 => v.main.pc
    | 0x054 => BitVec.ofNat 32 v.main.retired
    | 0x064 => BitVec.ofNat 32 (s.eirq i)
    | 0x070 => BitVec.ofNat 32 v.replay.length
    | _ => w
  | some .seawall =>
    if off = SEAWALL_STAT.off then
      fput SEAWALL_STAT_ENABLE w ((List.range 6).foldl (fun n m => if s.enable m then putBitN n m true else n) 0)
    else if off = SEAWALL_SEAL_CONFIRM.off then
      (if s.bit pkSea SEAWALL_STAT_CONFIRMED then s.m32 (mfBase s.checkBank + 0xFFC4) else 0#32)
    else if off = SEAWALL_SEAL_KEY.off then 0#32
    else if off = SEAWALL_SHOOT.off then
      BitVec.ofNat 32 ((List.range 6).foldl (fun n m => n + min 3 (s.shootTimes m).length * 4 ^ m) 0)
    else w
  | some .hm =>
    let opened (x : Incident) : Bool := x.st != .closed
    match off with
    | 0x040 => fput HM_STAT_LEVEL (fput HM_STAT_NOPEN (fput HM_STAT_BYPASS w (b2n s.pw.pllALost))
        ((s.hm.inc.filter (fun x => opened x.2)).length)) s.hmLevel
    | 0x044 => BitVec.ofNat 32 (s.incMask opened)
    | 0x048 => BitVec.ofNat 32 (s.incMask (fun x => x.st == .probation))
    | 0x04C => BitVec.ofNat 32 (s.incMask (fun x => x.acked))
    | 0x07C => fput HM_QUEUE_OCC w s.hm.queue.length
    | _ => w
  | some .ms =>
    if off = MS_TM_LO.off then BitVec.ofNat 32 (s.ma.tm / 2 ^ 32)
    else if off = MS_TM_HI.off then BitVec.ofNat 32 (s.ma.tm / 2 ^ 64)
    else w
  | some .bth => if 0x400 ≤ off ∧ off < 0x800 then s.bstat ((off - 0x400) / 4) else w
  | some .bol =>
    if off = BOL_STAT.off then
      let f := s.word pkSea SEAWALL_STAT
      fput BOL_STAT_ARM (fput BOL_STAT_OUT (fput BOL_STAT_IN0 (fput BOL_STAT_IN1 w (fget SEAWALL_STAT_BOL_IN1 f))
        (fget SEAWALL_STAT_BOL_IN0 f)) (fget SEAWALL_STAT_BOL_OUT f)) (b2n s.armed)
    else w
  | some .wg =>
    match off with
    | 0x044 => fput WG_STAT_AUTH (fput WG_STAT_ARMED (fput WG_STAT_READY (fput WG_STAT_PEER0_READY (fput WG_STAT_PEER1_READY w
        (b2n (s.peerReady 1))) (b2n (s.peerReady 0))) (b2n s.wgReady)) (b2n s.armed)) (b2n (s.bit pkSys SYS_TIDE_STAT_AUTH))
    | 0x080 => fput WG_PEER_STAT_AGE w (s.healthAge 0)
    | 0x090 => fput WG_PEER_STAT_AGE w (s.healthAge 1)
    | _ => w
  | some .dr => if off = DR_STAT.off then BitVec.ofNat 32 s.drStat else w
  | _ => w

/-- A register of a page as read, beside the bits of `openBits`: block registers read 0 in TEST (R53), WO fields read 0 (R12),
reserved offsets read 0 (R10). -/
def State.view (s : State) (k off : Nat) : Word :=
  if kindOf k = none then 0#32
  else if off < 0x040 then s.headerView k off
  else if s.st k == .test then 0#32
  else if (regDesc k off).isNone then 0#32
  else s.blockView k off

end Sys2Proof.Machine
end

