-- ==== Sys2Proof/Machine/CoveAlu.lean ====
section
/-!
DEFINITION. Machine/CoveAlu.lean: the arithmetic of the Cove instructions and the effects they are made of (R345-R364).
-/
namespace Sys2Proof.Machine

/-! ### Integer results with their flags (R361, R363) -/

abbrev CvRes := Nat × CvFlags

def cvZN (r : Nat) : CvFlags := { z := some (r % 2 ^ 32 == 0), n := some (bitN r 31) }

def cvAdd (a b : Nat) : CvRes :=
  let r := (a + b) % 2 ^ 32
  let v := satSgn 32 (sgn 32 a + sgn 32 b) != sgn 32 a + sgn 32 b
  (r, { cvZN r with c := some (2 ^ 32 ≤ a + b), v := some v })

def cvSub (a b : Nat) : CvRes :=
  let r := (a + 2 ^ 32 - b) % 2 ^ 32
  let v := satSgn 32 (sgn 32 a - sgn 32 b) != sgn 32 a - sgn 32 b
  (r, { cvZN r with c := some (b ≤ a), v := some v })

def cvLogic (r : Nat) : CvRes := (r, { cvZN r with c := some false, v := some false })

def cvAbs (a : Nat) : CvRes := if bitN a 31 then cvSub 0 a else (a, { cvZN a with c := some false, v := some false })

def cvMul (a b : Nat) : CvRes :=
  let p := sgn 32 a * sgn 32 b
  let r := unsgn 32 p
  (r, { cvZN r with c := some false, v := some (satSgn 32 p != p) })

/-- Shifts by n of 0 to 63; C is the last bit shifted out, 0 for a count of 0. -/
def cvAsr (a n : Nat) : CvRes :=
  let r := unsgn 32 (sgn 32 a / (2 ^ min n 32 : Nat))
  (r, { cvZN r with c := some (n != 0 && bitN (unsgn 64 (sgn 32 a)) (n - 1)), v := some false })
def cvLsr (a n : Nat) : CvRes :=
  let r := a / 2 ^ n
  (r, { cvZN r with c := some (n != 0 && bitN a (n - 1)), v := some false })
def cvLsl (a n : Nat) : CvRes :=
  let r := a * 2 ^ n % 2 ^ 32
  (r, { cvZN r with c := some (bitN (a * 2 ^ n) 32), v := some false })

/-! ### Accumulators (R353, R357, R359, R360) -/

/-- The fractional product. -/
def cvFrac (a b : Nat) : Int := 2 * (sgn 32 a * sgn 32 b)

/-- An accumulator result: its bits [71:0], V where it lies outside the range. -/
def cvAccRes (x : Int) : CvRes :=
  let r := unsgn 72 x
  (r, { v := some (satSgn 72 x != x), z := some (r == 0), n := some (bitN r 71) })

/-- RND. -/
def cvRnd (v : Nat) (trunc nosat : Bool) : CvRes :=
  let x := sgn 72 v
  let q := if trunc then x / (2 ^ 32 : Nat) else rneDivI x (2 ^ 32)
  let out := satSgn 32 q != q
  let r := if out && !nosat then unsgn 32 (satSgn 32 q) else unsgn 32 q
  (r, { cvZN r with v := some out, sl := out && !nosat })

/-- Class S: times 2^K, towards minus infinity to the right. -/
def cvShift (v k : Nat) : CvRes :=
  let x := sgn 72 v
  let n := sgn 7 k
  if n < 0 then
    let d : Nat := 2 ^ n.natAbs
    let (r, f) := cvAccRes (x / d)
    (r, { f with v := some (x % d != 0) })
  else cvAccRes (x * (2 ^ n.toNat : Nat))

/-! ### Binary32 (R362, R363) -/

/-- FRCP: the estimate, where it keeps the bound of 2^-12; else the rounded quotient. -/
def cvRcp (a : Nat) : Nat :=
  let exact := (fdiv f32 0x3F800000 a).1
  match fdec f32 a with
  | .fin _ m _ =>
    if m = 0 ∨ !(fIsFinite f32 exact) then exact
    else
      let e := Config.frcp a % 2 ^ 32
      match fdec f32 e, fdec f32 a with
      | .fin n1 m1 e1, .fin n2 m2 e2 =>
        -- |m1 m2 2^(e1+e2) - 1| at most 2^-12, both over 2^-320
        let p := m1 * m2 * 2 ^ (e1 + e2 + 320).toNat
        let one := 2 ^ 320
        if n1 = n2 ∧ (p : Int) - one ≤ 2 ^ 308 ∧ (one : Int) - p ≤ 2 ^ 308 then e else exact
      | _, _ => exact
  | _ => exact

/-- The rounded reciprocal square root. -/
def cvRsqExact (a : Nat) : Nat := (fconv f64 f32 (fdiv f64 0x3FF0000000000000 (fsqrt f64 (fconv f32 f64 a).1).1).1).1

/-- FRSQ, as FRCP. -/
def cvRsq (a : Nat) : Nat :=
  match fdec f32 a with
  | .fin n m _ =>
    if m = 0 then (if n then 0xFF800000 else 0x7F800000)
    else if n then f32.nanPat
    else
      let e := Config.frsq a % 2 ^ 32
      match fdec f32 e, fdec f32 a with
      | .fin false m1 e1, .fin _ m2 e2 =>
        -- m1^2 m2 2^(2 e1 + e2) between (1 - 2^-12)^2 and (1 + 2^-12)^2, over 2^-600
        let p := m1 * m1 * m2 * 2 ^ (2 * e1 + e2 + 600).toNat
        if 4095 * 4095 * 2 ^ 576 ≤ p ∧ p ≤ 4097 * 4097 * 2 ^ 576 then e else cvRsqExact a
      | _, _ => cvRsqExact a
  | .inf n => if n then f32.nanPat else 0
  | _ => f32.nanPat

/-- A binary32 value × 2^k to a signed 32-bit integer, ties to even, saturated; 0 for a NaN. -/
def cvFix (a : Nat) (k : Int) : Nat :=
  match fdec f32 a with
  | .inf n => if n then 0x80000000 else 0x7FFFFFFF
  | _ => unsgn 32 (satSgn 32 (ftoIntScaled f32 a k))

/-- FCMP. -/
def cvFcmp (a b : Nat) : CvFlags :=
  let un := fIsNan f32 a || fIsNan f32 b
  { c := some false, v := some un, z := some (!un && !(flt f32 a b) && !(flt f32 b a)), n := some (!un && flt f32 a b) }

/-! ### Parts of effects -/

/-- The moves of a parallel word (R346, R347). -/
def cvMoves (c : CvCore) (w : Nat) (f : CvFx) : CvFx :=
  let one (y : Bool) (m : CvMove) (f : CvFx) : CvFx :=
    let a := c.get (cvA + m.a)
    let f := match m.op with
      | 1 => { f with loads := f.loads ++ [(y, a, m.d)] }
      | 2 => { f with stores := f.stores ++ [(y, a, BitVec.ofNat 32 (c.get m.d))] }
      | _ => f
    if m.op != 0 && m.step then { f with post := f.post ++ [(m.a, c.moved m.a (cvStep (c.get (cvM + m.a))))] } else f
  one true (cvY w) (one false (cvX w) f)

/-- A parallel word with an operation into D[F1]. -/
def cvParD (c : CvCore) (w : Nat) (op : Nat → Nat → CvRes) : CvFx :=
  let r := op (c.get (cvF2 w)) (c.get (cvF3 w))
  cvMoves c w { now := [(cvF1 w, r.1)], flags := r.2 }

/-- A parallel word with a multiply into AC[F1] (R345, R359). -/
def cvParMac (c : CvCore) (w : Nat) (op : Int → Int → Int) : CvFx :=
  let r := cvAccRes (op (sgn 72 (c.get (cvFwd + cvF1 w))) (cvFrac (c.get (cvF2 w)) (c.get (cvF3 w))))
  cvMoves c w { mac := [(cvF1 w, r.1)], flags := r.2 }

/-- A parallel word with an operation into AC[F1] that stands at once. -/
def cvParAc (c : CvCore) (w : Nat) (r : CvRes) : CvFx := cvMoves c w { now := [(cvAC + cvF1 w, r.1)], flags := r.2 }

def cvDd (w : Nat) : Nat := bitsN w 20 17
def cvDs (w : Nat) : Nat := bitsN w 16 13
def cvDt (w : Nat) : Nat := bitsN w 12 9
def cvImm (w : Nat) : Nat := bitsN w 15 0
/-- IMM sign-extended to 32 bits. -/
def cvSext (w : Nat) : Nat := unsgn 32 (sgn 16 (cvImm w))

/-- A class R operation of Ds and Dt into Dd. -/
def cvReg (c : CvCore) (w : Nat) (op : Nat → Nat → CvRes) : CvFx :=
  let r := op (c.get (cvDs w)) (c.get (cvDt w))
  { now := [(cvDd w, r.1)], flags := r.2 }

/-- A class R operation that only sets flags. -/
def cvRegFlags (c : CvCore) (w : Nat) (op : Nat → Nat → CvFlags) : CvFx := { flags := op (c.get (cvDs w)) (c.get (cvDt w)) }

/-- A class I operation on Dd. -/
def cvImmOp (c : CvCore) (w : Nat) (op : Nat → CvRes) : CvFx :=
  let d := bitsN w 23 20
  let r := op (c.get d)
  { now := [(d, r.1)], flags := r.2 }

/-- COND of R364. -/
def cvCond (sr cond : Nat) : Bool :=
  let c := bitN sr 0
  let v := bitN sr 1
  let z := bitN sr 2
  let n := bitN sr 3
  match cond with
  | 0x0 => true | 0x1 => z | 0x2 => !z | 0x3 => n | 0x4 => !n | 0x5 => v | 0x6 => !v | 0x7 => c | 0x8 => !c
  | 0x9 => c && !z | 0xA => !c || z | 0xB => n == v | 0xC => n != v | 0xD => !z && n == v | 0xE => z || n != v
  | _ => bitN sr 4

/-- A branch: its taken effect, or two slots that lead on (R354). -/
def cvBranch (c : CvCore) (w target : Nat) (act : CvAct) : CvFx :=
  { delay := some ⟨2, target, if cvCond (c.get cvSR) (bitsN w 23 20) then act else .none⟩ }

/-- The 32-bit value class M takes from a register (R351). FSR is taken whole. -/
def cvSource32 (c : CvCore) (n : Nat) : Nat :=
  if cvAC ≤ n ∧ n < cvA then bitsN (c.get n) 63 32
  else if cvA ≤ n ∧ n < cvSR then c.exGet n
  else if n = cvLC then c.rep - 1
  else c.get n

/-- Class M: accumulators and D at once, the other registers two slots later (R328, R351). -/
def cvMoveFx (c : CvCore) (w : Nat) : CvFx :=
  let dst := bitsN w 26 21
  let src := bitsN w 20 15
  let isAc (n : Nat) : Bool := cvAC ≤ n && n < cvA
  let v := cvSource32 c src
  if isAc dst then { now := [(dst, if isAc src then c.get src else unsgn 40 (sgn 32 v) * 2 ^ 32)] }
  else if dst < 0x10 then { now := [(dst, v)] }
  else if cvA ≤ dst ∧ dst < cvM then { late := [(dst, v % 65536), (dst - cvA + cvBase, v % 65536)] }
  else { late := [(dst, v % 2 ^ cvWidth dst)] }

end Sys2Proof.Machine
end

