-- ==== Sys2Proof/Machine/CoveCmd.lean ====
section
/-!
DEFINITION. Machine/CoveCmd.lean: the commands of the Cove pairs (R319-R366). An instruction's command names pair and core; it
takes effect where the word at that core's PC is that instruction.
-/
namespace Sys2Proof.Machine

/-! ### The pair -/

/-- R339: CTRL.START. -/
def execCoveStart (who : Initiator) (pair : Nat) (s : State) : Result :=
  .next (s.command (pkCv pair) who (fun s => s.coveStart pair))

/-- R330: CTRL.SWI sets IFLAG bit 10. -/
def execSwi (who : Initiator) (pair : Nat) (s : State) : Result :=
  .next (s.command (pkCv pair) who (fun s => s.cvFlag pair 10))

/-- A write of the I/O window by a core of a running pair, with the store in its signature; a window that it closes. -/
def State.cvIoStore (s : State) (k : Nat) (chk : Bool) (a : Nat) (v : Word) : State :=
  if s.busy (pkCv k) then
    let s := s.cvStore k chk false a v
    if s.busy (pkCv k) then s.cvAfter k chk else s
  else s

/-- R320: TIMER_LOAD is written: the period changes at once; 0 stops the timer. The checker's write is compared. -/
def execTimerLoad (pair : Nat) (checker : Bool) (v : Word) (s : State) : Result :=
  .next (s.cvIoStore pair checker 0x8023 v)

/-- R330: TIMER_CNT has reached 0: the TIMER flag sets and the count reloads. -/
def execCoveTimer (pair : Nat) (s : State) : Result :=
  let v := s.cove pair
  .next (if s.busy (pkCv pair) && v.timerLoad != 0#32 then
      (s.setCove pair { v with timerCnt := v.timerLoad.toNat }).cvFlag pair 8
    else s)

/-- R320: IFLAG is written: the causes written 1 clear at once. -/
def execIflagWrite (pair : Nat) (checker : Bool) (v : Word) (s : State) : Result :=
  .next (s.cvIoStore pair checker 0x8030 v)

/-- R335: the main core writes an OUT word: the entry waits in the release buffer. -/
def execOutWrite (pair stream : Nat) (v : Word) (s : State) : Result :=
  .next (s.cvIoStore pair false (0x8040 + stream % 16) v)

/-- R320: the checker's matching FAR_CTRL.READ write releases the entry and the far read starts. -/
def execFarRead (pair : Nat) (s : State) : Result := .next (s.cvIoStore pair true 0x8052 1#32)

/-- R320: the checker's matching FAR_CTRL.WRITE write releases the entry and the far write starts. -/
def execFarWrite (pair : Nat) (s : State) : Result := .next (s.cvIoStore pair true 0x8052 2#32)

/-- R336: CHKPT is written: the window closes with the write. -/
def execChkpt (pair : Nat) (checker : Bool) (s : State) : Result := .next (s.cvIoStore pair checker 0x8060 1#32)

/-- R339: HALTREQ is written: the pair halts at the end of the window, which it closes. -/
def execHaltreq (pair : Nat) (checker : Bool) (s : State) : Result := .next (s.cvIoStore pair checker 0x8061 1#32)

/-- A core stands at a boundary where an interrupt can be accepted (R331, R339). -/
def State.cvBoundary (s : State) (k : Nat) (chk : Bool) : Bool :=
  let v := s.cove k
  let c := v.core chk
  s.running (pkCv k) && c.rep == 0 && c.delay.isNone && c.exc.isNone && !c.halted

/-- A core enters a handler (R331, R332, R334): the bank of the results still to land is that of their issue (R355). -/
def State.cvEnter (s : State) (k : Nat) (chk fast : Bool) : State :=
  let v := s.cove k
  let c := v.core chk
  let sr := c.get cvSR
  let (rpc, rsr, en, act) : Nat × Nat × Nat × Nat := if fast then (cvFLR, cvFSR, 9, 13) else (cvILR, cvISR, 8, 12)
  let c1 := { c with land := c.land.filter (fun l => l.key != rpc && l.key != rsr) }
  let c1 := (c1.putKey rpc c.pc).putKey rsr sr
  let c1 := { c1 with rf := tput c1.rf cvSR (putBitN (putBitN sr en false) act true) }
  let c1 := { c1 with pc := if fast then 0x0020 else 0x0010, bank := c.bank || fast }
  let s := s.setCvCore k chk c1.landAll
  let v := s.cove k
  if chk then s.setCove k { v with echo := v.echo.drop 1 }
  else s.setCove k { v with echo := v.echo ++ [.accept fast c.retired], cycles := v.cycles + 6, timerCnt := v.timerCnt - 6 }

/-- The fast interrupt can be accepted by the main core (R331). -/
def State.cvFastPending (s : State) (k : Nat) : Bool :=
  let sr := (s.cvCore k false).get cvSR
  let src := s.fld (pkCv k) CV_CFG_FIQ_SRC
  decide (src ≤ 11) && (s.cvIflag k).getLsbD src && bitN sr 9 && !(bitN sr 13)

/-- A normal interrupt can be accepted by the main core (R331). -/
def State.cvNormalPending (s : State) (k : Nat) : Bool :=
  let sr := (s.cvCore k false).get cvSR
  let fiq := s.fld (pkCv k) CV_CFG_FIQ_SRC
  let en := (List.range 12).any (fun b => b != fiq && (s.cvIflag k).getLsbD b && (s.word (pkCv k) CV_IRQ_EN).getLsbD b)
  en && bitN sr 8 && !(bitN sr 12) && !(bitN sr 13) && !(s.cvFastPending k)

/-- R331, R334: the fast interrupt is accepted; by the checker at the count the main core recorded. -/
def execFastInterrupt (pair : Nat) (checker : Bool) (s : State) : Result :=
  let due := if checker then (s.cove pair).acceptDue == some true else s.cvFastPending pair
  .next (if due && s.cvBoundary pair checker then s.cvEnter pair checker true else s)

/-- R331, R334: a normal interrupt is accepted. -/
def execNormalInterrupt (pair : Nat) (checker : Bool) (s : State) : Result :=
  let due := if checker then (s.cove pair).acceptDue == some false else s.cvNormalPending pair
  .next (if due && s.cvBoundary pair checker then s.cvEnter pair checker false else s)

/-- R335: the checker's write of a held word releases the oldest entry, or a difference sends the pair to FAULT. -/
def execCoveRelease (pair addr : Nat) (v : Word) (s : State) : Result :=
  .next (if cvHeld addr then s.cvIoStore pair true addr v else s)

/-- R336: a core has retired WIN instructions of its window; the checker closes where the main core did. -/
def execCoveWindowClose (pair : Nat) (checker : Bool) (s : State) : Result :=
  let v := s.cove pair
  let due := if checker then v.closeDue else decide (s.fld (pkCv pair) CV_CHK_WIN ≤ v.main.win)
  .next (if s.busy (pkCv pair) && due then s.cvClose pair checker else s)

/-- R336, R337, R339: the signatures of a window both cores have closed are compared. A halted pair stops with its last one. -/
def execCoveSignatureCompare (pair : Nat) (s : State) : Result :=
  let v := s.cove pair
  .next (if !(s.busy (pkCv pair)) then s
    else match v.sigs, v.ckSigs with
      | a :: t, b :: u =>
        if a.2 = b.2 then
          let s := (s.setCove pair { v with sigs := t, ckSigs := u }).cntW (pkCv pair) CV_WINDOWS
          if v.main.halted && t.isEmpty then s.cvStop pair else s
        else s.cvDiverge pair 3 0x04 2
      | _, _ => s)

/-- R337: the copy of P, X and Y into the checker's copies ends; words uncorrectable in the main copy (`bad`, by address) come
from the checker's. The page leaves FAULT. -/
def execCoveCopyDone (pair : Nat) (bad : List Nat) (s : State) : Result :=
  .next (if (s.cove pair).copying then
      let lo := cvPAddr pair 0
      let inPair (a : Nat) : Bool := lo ≤ a && a < lo + 0x80000
      let s := forL (bad.filter (fun a => inPair a && a % 4 == 0)) (fun a s =>
        { s with mem := msetN s.mem a 4 (mgetN s.ckMem a 4) }) s
      let mine := s.mem.filter (fun (c : Host.Cell) => inPair c.1)
      let others := s.ckMem.filter (fun (c : Host.Cell) => !(inPair c.1))
      let s := { s with ckMem := mine.foldl (fun m (c : Host.Cell) => mset m c.1 c.2) others }
      let s := s.setCove pair { s.cove pair with copying := false }
      s.setSt (pkCv pair) (if (s.page (pkCv pair)).en then .idle else .off)
    else s)

/-- R339: 200 µs after EN was cleared the open window is closed at the next boundary outside a REP. -/
def execCoveDrainTimeout (pair : Nat) (s : State) : Result :=
  let v := s.cove pair
  .next (if s.st (pkCv pair) == .drain && !v.main.halted then
      if v.main.rep = 0 then s.cvClose pair false else s.setCove pair { v with closeReq := true }
    else s)

/-! ### The parallel form (R345-R347) -/

/-- R345, R346: no operation, with its moves. -/
def execParallelNop (pair : Nat) (checker : Bool) (s : State) : Result :=
  .next (s.cvIssue pair checker 0x0 (fun _ c w => cvMoves c w {}))

/-- R345, R359: AC[F1] + D[F2] ⊗ D[F3]. -/
def execParallelMac (pair : Nat) (checker : Bool) (s : State) : Result :=
  .next (s.cvIssue pair checker 0x1 (fun _ c w => cvParMac c w (fun a p => a + p)))

/-- R345: AC[F1] - D[F2] ⊗ D[F3]. -/
def execParallelMsu (pair : Nat) (checker : Bool) (s : State) : Result :=
  .next (s.cvIssue pair checker 0x2 (fun _ c w => cvParMac c w (fun a p => a - p)))

/-- R345: D[F2] ⊗ D[F3]. -/
def execParallelMpy (pair : Nat) (checker : Bool) (s : State) : Result :=
  .next (s.cvIssue pair checker 0x3 (fun _ c w => cvParMac c w (fun _ p => p)))

/-- R345: integer sum. -/
def execParallelAdd (pair : Nat) (checker : Bool) (s : State) : Result :=
  .next (s.cvIssue pair checker 0x4 (fun _ c w => cvParD c w cvAdd))

/-- R345: integer difference. -/
def execParallelSub (pair : Nat) (checker : Bool) (s : State) : Result :=
  .next (s.cvIssue pair checker 0x5 (fun _ c w => cvParD c w cvSub))

/-- R345: bitwise AND. -/
def execParallelAnd (pair : Nat) (checker : Bool) (s : State) : Result :=
  .next (s.cvIssue pair checker 0x6 (fun _ c w => cvParD c w (fun a b => cvLogic (a.land b))))

/-- R345: bitwise OR. -/
def execParallelOr (pair : Nat) (checker : Bool) (s : State) : Result :=
  .next (s.cvIssue pair checker 0x7 (fun _ c w => cvParD c w (fun a b => cvLogic (a.lor b))))

/-- R345: bitwise XOR. -/
def execParallelXor (pair : Nat) (checker : Bool) (s : State) : Result :=
  .next (s.cvIssue pair checker 0x8 (fun _ c w => cvParD c w (fun a b => cvLogic (a.xor b))))

/-- R345: binary32 sum; no flag changes (R363). -/
def execParallelFadd (pair : Nat) (checker : Bool) (s : State) : Result :=
  .next (s.cvIssue pair checker 0x9 (fun _ c w => cvParD c w (fun a b => ((fadd f32 a b).1, {}))))

/-- R345: binary32 difference. -/
def execParallelFsub (pair : Nat) (checker : Bool) (s : State) : Result :=
  .next (s.cvIssue pair checker 0xA (fun _ c w => cvParD c w (fun a b => ((fsub f32 a b).1, {}))))

/-- R345: binary32 product. -/
def execParallelFmul (pair : Nat) (checker : Bool) (s : State) : Result :=
  .next (s.cvIssue pair checker 0xB (fun _ c w => cvParD c w (fun a b => ((fmul f32 a b).1, {}))))

/-- R345: D[F2] × D[F3] + D[F1], rounded once. -/
def execParallelFma (pair : Nat) (checker : Bool) (s : State) : Result :=
  .next (s.cvIssue pair checker 0xC (fun _ c w => cvParD c w (fun a b => ((ffma f32 a b (c.get (cvF1 w))).1, {}))))

/-- R345, R359: AC[F1] + AC[F2], or their difference with F3 = 1. -/
def execParallelAdda (pair : Nat) (checker : Bool) (s : State) : Result :=
  .next (s.cvIssue pair checker 0xD (fun _ c w =>
    let a := sgn 72 (c.get (cvAC + cvF1 w))
    let b := sgn 72 (c.get (cvAC + cvF2 w))
    cvParAc c w (cvAccRes (if cvF3 w = 1 then a - b else a + b))))

/-- R360: AC[F2] rounded and saturated into D[F1]. -/
def execParallelRnd (pair : Nat) (checker : Bool) (s : State) : Result :=
  .next (s.cvIssue pair checker 0xE (fun _ c w =>
    let r := cvRnd (c.get (cvAC + cvF2 w)) (bitN (cvF3 w) 0) (bitN (cvF3 w) 1)
    cvMoves c w { now := [(cvF1 w, r.1)], flags := r.2 }))

/-- R345: AC[F1] is cleared. -/
def execParallelClr (pair : Nat) (checker : Bool) (s : State) : Result :=
  .next (s.cvIssue pair checker 0xF (fun _ c w => cvParAc c w (cvAccRes 0)))

/-! ### Class R (R349, R361-R363) -/

/-- R349: sum. -/
def execRegisterAdd (pair : Nat) (checker : Bool) (s : State) : Result :=
  .next (s.cvIssue pair checker 0x40 (fun _ c w => cvReg c w cvAdd))

/-- R349: difference. -/
def execRegisterSub (pair : Nat) (checker : Bool) (s : State) : Result :=
  .next (s.cvIssue pair checker 0x41 (fun _ c w => cvReg c w cvSub))

/-- R349: flags of the difference. -/
def execRegisterCmp (pair : Nat) (checker : Bool) (s : State) : Result :=
  .next (s.cvIssue pair checker 0x42 (fun _ c w => cvRegFlags c w (fun a b => (cvSub a b).2)))

/-- R349: bitwise AND. -/
def execRegisterAnd (pair : Nat) (checker : Bool) (s : State) : Result :=
  .next (s.cvIssue pair checker 0x43 (fun _ c w => cvReg c w (fun a b => cvLogic (a.land b))))

/-- R349: bitwise OR. -/
def execRegisterOr (pair : Nat) (checker : Bool) (s : State) : Result :=
  .next (s.cvIssue pair checker 0x44 (fun _ c w => cvReg c w (fun a b => cvLogic (a.lor b))))

/-- R349: bitwise XOR. -/
def execRegisterXor (pair : Nat) (checker : Bool) (s : State) : Result :=
  .next (s.cvIssue pair checker 0x45 (fun _ c w => cvReg c w (fun a b => cvLogic (a.xor b))))

/-- R349: bitwise NOT. -/
def execRegisterNot (pair : Nat) (checker : Bool) (s : State) : Result :=
  .next (s.cvIssue pair checker 0x46 (fun _ c w => cvReg c w (fun a _ => cvLogic (0xFFFFFFFF - a))))

/-- R361: 0 - Ds. -/
def execRegisterNeg (pair : Nat) (checker : Bool) (s : State) : Result :=
  .next (s.cvIssue pair checker 0x47 (fun _ c w => cvReg c w (fun a _ => cvSub 0 a)))

/-- R361: |Ds|. -/
def execRegisterAbs (pair : Nat) (checker : Bool) (s : State) : Result :=
  .next (s.cvIssue pair checker 0x48 (fun _ c w => cvReg c w (fun a _ => cvAbs a)))

/-- R349: signed minimum. -/
def execRegisterMin (pair : Nat) (checker : Bool) (s : State) : Result :=
  .next (s.cvIssue pair checker 0x49 (fun _ c w => cvReg c w (fun a b => cvLogic (if sgn 32 a ≤ sgn 32 b then a else b))))

/-- R349: signed maximum. -/
def execRegisterMax (pair : Nat) (checker : Bool) (s : State) : Result :=
  .next (s.cvIssue pair checker 0x4A (fun _ c w => cvReg c w (fun a b => cvLogic (if sgn 32 b ≤ sgn 32 a then a else b))))

/-- R361: low word of the signed product. -/
def execRegisterMuli (pair : Nat) (checker : Bool) (s : State) : Result :=
  .next (s.cvIssue pair checker 0x4B (fun _ c w => cvReg c w cvMul))

/-- R361: arithmetic right shift by Dt [5:0]. -/
def execRegisterAsr (pair : Nat) (checker : Bool) (s : State) : Result :=
  .next (s.cvIssue pair checker 0x4C (fun _ c w => cvReg c w (fun a b => cvAsr a (b % 64))))

/-- R361: logical right shift. -/
def execRegisterLsr (pair : Nat) (checker : Bool) (s : State) : Result :=
  .next (s.cvIssue pair checker 0x4D (fun _ c w => cvReg c w (fun a b => cvLsr a (b % 64))))

/-- R361: left shift. -/
def execRegisterLsl (pair : Nat) (checker : Bool) (s : State) : Result :=
  .next (s.cvIssue pair checker 0x4E (fun _ c w => cvReg c w (fun a b => cvLsl a (b % 64))))

/-- R349: binary32 sum. -/
def execRegisterFadd (pair : Nat) (checker : Bool) (s : State) : Result :=
  .next (s.cvIssue pair checker 0x50 (fun _ c w => cvReg c w (fun a b => ((fadd f32 a b).1, {}))))

/-- R349: binary32 difference. -/
def execRegisterFsub (pair : Nat) (checker : Bool) (s : State) : Result :=
  .next (s.cvIssue pair checker 0x51 (fun _ c w => cvReg c w (fun a b => ((fsub f32 a b).1, {}))))

/-- R349: binary32 product. -/
def execRegisterFmul (pair : Nat) (checker : Bool) (s : State) : Result :=
  .next (s.cvIssue pair checker 0x52 (fun _ c w => cvReg c w (fun a b => ((fmul f32 a b).1, {}))))

/-- R349: Ds × Dt + Dd, rounded once. -/
def execRegisterFma (pair : Nat) (checker : Bool) (s : State) : Result :=
  .next (s.cvIssue pair checker 0x53 (fun _ c w => cvReg c w (fun a b => ((ffma f32 a b (c.get (cvDd w))).1, {}))))

/-- R349: minimumNumber. -/
def execRegisterFmin (pair : Nat) (checker : Bool) (s : State) : Result :=
  .next (s.cvIssue pair checker 0x54 (fun _ c w => cvReg c w (fun a b => ((fminmax false a b).1, {}))))

/-- R349: maximumNumber. -/
def execRegisterFmax (pair : Nat) (checker : Bool) (s : State) : Result :=
  .next (s.cvIssue pair checker 0x55 (fun _ c w => cvReg c w (fun a b => ((fminmax true a b).1, {}))))

/-- R349: sign bit cleared. -/
def execRegisterFabs (pair : Nat) (checker : Bool) (s : State) : Result :=
  .next (s.cvIssue pair checker 0x56 (fun _ c w => cvReg c w (fun a _ => (fabsP a, {}))))

/-- R349: sign bit inverted. -/
def execRegisterFneg (pair : Nat) (checker : Bool) (s : State) : Result :=
  .next (s.cvIssue pair checker 0x57 (fun _ c w => cvReg c w (fun a _ => (fnegP f32 a, {}))))

/-- R362: estimate of the reciprocal. -/
def execRegisterFrcp (pair : Nat) (checker : Bool) (s : State) : Result :=
  .next (s.cvIssue pair checker 0x58 (fun _ c w => cvReg c w (fun a _ => (cvRcp a, {}))))

/-- R362: estimate of the reciprocal square root. -/
def execRegisterFrsq (pair : Nat) (checker : Bool) (s : State) : Result :=
  .next (s.cvIssue pair checker 0x59 (fun _ c w => cvReg c w (fun a _ => (cvRsq a, {}))))

/-- R363: flags of the binary32 comparison. -/
def execRegisterFcmp (pair : Nat) (checker : Bool) (s : State) : Result :=
  .next (s.cvIssue pair checker 0x5A (fun _ c w => cvRegFlags c w cvFcmp))

/-- R362: integer to binary32. -/
def execRegisterFlt (pair : Nat) (checker : Bool) (s : State) : Result :=
  .next (s.cvIssue pair checker 0x5B (fun _ c w => cvReg c w (fun a _ => ((fofInt f32 (sgn 32 a)).1, {}))))

/-- R362: binary32 to integer, saturated. -/
def execRegisterFix (pair : Nat) (checker : Bool) (s : State) : Result :=
  .next (s.cvIssue pair checker 0x5C (fun _ c w => cvReg c w (fun a _ => (cvFix a 0, {}))))

/-- R362: 1.31 fraction to binary32. -/
def execRegisterFltq (pair : Nat) (checker : Bool) (s : State) : Result :=
  .next (s.cvIssue pair checker 0x5D (fun _ c w => cvReg c w (fun a _ => ((fofRat f32 (sgn 32 a) (2 ^ 31)).1, {}))))

/-- R362: binary32 to 1.31 fraction, saturated. -/
def execRegisterFixq (pair : Nat) (checker : Bool) (s : State) : Result :=
  .next (s.cvIssue pair checker 0x5E (fun _ c w => cvReg c w (fun a _ => (cvFix a 31, {}))))

/-! ### Classes I and A (R350) -/

/-- R350: Dd := sext(IMM). -/
def execLdl (pair : Nat) (checker : Bool) (s : State) : Result :=
  .next (s.cvIssue pair checker 0x80 (fun _ c w => cvImmOp c w (fun _ => (cvSext w, {}))))

/-- R350: Dd [31:16] := IMM. -/
def execLdh (pair : Nat) (checker : Bool) (s : State) : Result :=
  .next (s.cvIssue pair checker 0x81 (fun _ c w => cvImmOp c w (fun d => (cvImm w * 65536 + d % 65536, {}))))

/-- R350: Dd + sext(IMM). -/
def execAddi (pair : Nat) (checker : Bool) (s : State) : Result :=
  .next (s.cvIssue pair checker 0x82 (fun _ c w => cvImmOp c w (fun d => cvAdd d (cvSext w))))

/-- R350: flags of Dd - sext(IMM). -/
def execCmpi (pair : Nat) (checker : Bool) (s : State) : Result :=
  .next (s.cvIssue pair checker 0x83 (fun _ c w => { flags := (cvSub (c.get (bitsN w 23 20)) (cvSext w)).2 }))

/-- R350: arithmetic right shift by IMM [4:0]. -/
def execAsri (pair : Nat) (checker : Bool) (s : State) : Result :=
  .next (s.cvIssue pair checker 0x84 (fun _ c w => cvImmOp c w (fun d => cvAsr d (cvImm w % 32))))

/-- R350: logical right shift. -/
def execLsri (pair : Nat) (checker : Bool) (s : State) : Result :=
  .next (s.cvIssue pair checker 0x85 (fun _ c w => cvImmOp c w (fun d => cvLsr d (cvImm w % 32))))

/-- R350: left shift. -/
def execLsli (pair : Nat) (checker : Bool) (s : State) : Result :=
  .next (s.cvIssue pair checker 0x86 (fun _ c w => cvImmOp c w (fun d => cvLsl d (cvImm w % 32))))

/-- R350, R325: An and its base := IMM, two slots later. -/
def execLda (pair : Nat) (checker : Bool) (s : State) : Result :=
  .next (s.cvIssue pair checker 0x90 (fun _ _ w =>
    let n := bitsN w 23 21
    { late := [(cvA + n, cvImm w), (cvBase + n, cvImm w)] }))

/-- R350: An + IMM, no mode applied, the base kept. -/
def execInca (pair : Nat) (checker : Bool) (s : State) : Result :=
  .next (s.cvIssue pair checker 0x91 (fun _ c w =>
    let n := cvA + bitsN w 23 21
    { late := [(n, (c.exGet n + cvImm w) % 65536)] }))

/-- R350: Mn [15:0] := IMM. -/
def execLdml (pair : Nat) (checker : Bool) (s : State) : Result :=
  .next (s.cvIssue pair checker 0x92 (fun _ c w =>
    let n := cvM + bitsN w 23 21
    { late := [(n, c.exGet n / 65536 * 65536 + cvImm w)] }))

/-- R350: Mn [31:16] := IMM. -/
def execLdmh (pair : Nat) (checker : Bool) (s : State) : Result :=
  .next (s.cvIssue pair checker 0x93 (fun _ c w =>
    let n := cvM + bitsN w 23 21
    { late := [(n, cvImm w * 65536 + c.exGet n % 65536)] }))

/-! ### Classes M, L and S (R351-R353) -/

/-- R351: one numbered register copied to another. -/
def execClassMMove (pair : Nat) (checker : Bool) (s : State) : Result :=
  .next (s.cvIssue pair checker 0xA0 (fun _ c w => cvMoveFx c w))

/-- R352: Dn from a direct address; it lands two slots later. -/
def execDirectLoad (pair : Nat) (checker : Bool) (s : State) : Result :=
  .next (s.cvIssue pair checker 0xA1 (fun _ _ w => { loads := [(bitN w 26, cvImm w, bitsN w 23 20)] }))

/-- R352: Dn to a direct address. -/
def execDirectStore (pair : Nat) (checker : Bool) (s : State) : Result :=
  .next (s.cvIssue pair checker 0xA2 (fun _ c w => { stores := [(bitN w 26, cvImm w, BitVec.ofNat 32 (c.get (bitsN w 23 20)))] }))

/-- R353: ACs × 2^K. -/
def execAccumulatorShift (pair : Nat) (checker : Bool) (s : State) : Result :=
  .next (s.cvIssue pair checker 0xA3 (fun _ c w =>
    let r := cvShift (c.get (cvAC + bitsN w 23 21)) (bitsN w 20 14)
    { now := [(cvAC + bitsN w 26 24, r.1)], flags := r.2 }))

/-! ### Control (R354-R356) -/

/-- R354: PC := TARGET after two slots, where COND holds. -/
def execBra (pair : Nat) (checker : Bool) (s : State) : Result :=
  .next (s.cvIssue pair checker 0xB0 (fun _ c w => cvBranch c w (cvImm w) .jump))

/-- R354: LR := the address after the slots, PC := TARGET. -/
def execCall (pair : Nat) (checker : Bool) (s : State) : Result :=
  .next (s.cvIssue pair checker 0xB1 (fun _ c w => cvBranch c w (cvImm w) (.call ((c.pc + 3) % 65536))))

/-- R354: PC := LR. -/
def execRet (pair : Nat) (checker : Bool) (s : State) : Result :=
  .next (s.cvIssue pair checker 0xB2 (fun _ c w => cvBranch c w (c.get cvLR) .jump))

/-- R354, R355: PC := ILR and SR := ISR after two slots. -/
def execReti (pair : Nat) (checker : Bool) (s : State) : Result :=
  .next (s.cvIssue pair checker 0xB3 (fun _ c w => cvBranch c w (c.get cvILR) (.reti (c.get cvISR))))

/-- R354, R355: PC := FLR, SR := FSR and the bank switched back after two slots. -/
def execRetf (pair : Nat) (checker : Bool) (s : State) : Result :=
  .next (s.cvIssue pair checker 0xB4 (fun _ c w => cvBranch c w (c.get cvFLR) (.retf (c.get cvFSR))))

/-- R356: the next instruction issues N times. -/
def execRep (pair : Nat) (checker : Bool) (s : State) : Result :=
  .next (s.cvIssue pair checker 0xB8 (fun _ _ w => { rep := bitsN w 9 0 + 1 }))

/-- R357: one filter tap; the delay line moves by one word. -/
def execFtap (pair : Nat) (checker : Bool) (s : State) : Result :=
  .next (s.cvIssue pair checker 0xB9 (fun s c w =>
    let xa := bitsN w 22 20
    let ya := bitsN w 19 17
    let ac := bitsN w 26 24
    let a := c.get (cvA + xa)
    let b := c.get (cvA + ya)
    let x := s.cvPeek pair checker false a
    let p := cvFrac x.toNat (s.cvPeek pair checker true b).toNat
    let acc := sgn 72 (c.get (cvFwd + ac))
    let yu : Option Int := match bitsN w 16 15 with
      | 0 => none
      | 1 => some 1
      | 2 => some (-1)
      | _ => some (cvStep (c.get (cvM + ya)))
    { mac := [(ac, (cvAccRes (if bitN w 23 then acc - p else acc + p)).1)]
      stores := [(false, c.moved xa 1, x)]
      reads := [(false, a), (true, b)]
      noWindow := [a, c.moved xa 1]
      post := [(xa, c.moved xa (-1))] ++ (match yu with | some d => [(ya, c.moved ya d)] | none => []) }))

/-- R358, R329: the word at a core's PC is illegal, or a flow instruction stands where R329 forbids it: no effect, and the
exception of R337. -/
def execIllegalInstruction (pair : Nat) (checker : Bool) (s : State) : Result :=
  .next (match (s.cvCore pair checker).bad (s.cvWord pair checker) with
    | some cause => if decide (pair < 4) && s.cvReady pair checker then s.cvExc pair checker cause else s
    | none => s)

end Sys2Proof.Machine
end

