-- ==== Sys2Proof/Machine/CurrentCmd.lean ====
section
/-!
DEFINITION. Machine/CurrentCmd.lean: the commands of the current channels and of the Tender (R132-R158).
-/
namespace Sys2Proof.Machine

/-- Raw code of producer k in a command's list; 0 where the list ends. -/
def rawAt (raw : List Word) (k : Nat) : Word := raw.getD k 0#32

/-- A code in two's complement with its flag bits. -/
def sampleWord (w : Nat) (code : Int) (clip relief stale : Bool) : Word :=
  BitVec.ofNat 32 (unsgn w code + 2 ^ w * b2n stale + 2 ^ (w + 1) * b2n clip + 2 ^ (w + 2) * b2n relief)

/-! ### Samples -/

/-- One fast boundary passes for a channel's filters. -/
def State.fillFast (s : State) (k : Nat) : State :=
  let c := s.chan k
  if c.fillF = 0 then s else s.setChan k { c with fillF := c.fillF - 1 }

/-- One precise boundary passes for a channel's filters. -/
def State.fillPrecise (s : State) (k : Nat) : State :=
  let c := s.chan k
  if c.fillP = 0 then s else s.setChan k { c with fillP := c.fillP - 1 }

/-- A channel converts: its page enabled and PLL-B locked. -/
def State.converts (s : State) (k : Nat) : Bool := s.pllB && (s.busy (pkCs k) || s.st (pkCs k) == .idle)

/-- A producer's fast sample is valid (R143). -/
def State.fastGood (s : State) (k : Nat) : Bool := s.converts k && (s.chan k).fillF == 0

/-- A producer's precise sample is valid (R143). -/
def State.preciseGood (s : State) (k : Nat) : Bool := s.pllB && s.busy (pkCs k) && (s.chan k).fillP == 0

/-- The producer of phase k's streams (R141). -/
def State.producer (s : State) (k : Nat) : Nat := if s.td.relieved = some k then 18 else k

/-- The FAST register of page j shows the sample of producer p. -/
def State.putFast (s : State) (j p : Nat) (raw : List Word) (relief : Bool) : State :=
  if s.fastGood p then
    let x := s.fastOf p (rawAt raw p)
    s.setWord (pkCs j) CS_FAST (sampleWord 16 x.1 (x.2 || s.cmFault p) relief false)
  else s.setBit (pkCs j) CS_FAST_STALE true

/-- Amperes with the SCALE a page uses: the Tender uses the served channel's (R164). -/
def State.csScale (s : State) (k : Nat) : Word :=
  if k = 18 then (match s.td.served with | some c => s.word (pkCs c) CS_SCALE | none => s.word pkCst CST_SCALE)
  else s.word (pkCs k) CS_SCALE

/-- The PRECISE, AMPS and STAT registers of page j show the sample of producer p; a clipped one is counted, the first of a
run flagged (R140). -/
def State.putPrecise (s : State) (j p : Nat) (raw : List Word) (relief : Bool) : State :=
  if s.preciseGood p then
    let x := s.preciseOf p (rawAt raw p)
    let clip := x.2 || s.cmFault p
    let s := (s.setWord (pkCs j) CS_PRECISE (sampleWord 24 x.1 clip relief false)).setWord (pkCs j) CS_AMPS
      (amperes x.1 (s.csScale j))
    let s := (s.setBit (pkCs j) CS_STAT_STALE false).setBit (pkCs j) CS_STAT_OVR clip
    let s := if clip then
        let s := s.cntS (pkCs j) CS_CNT_OVR
        if (s.chan j).ovrRun then s else s.irq (pkCs j) 8
      else s
    s.setChan j { s.chan j with ovrRun := clip }
  else (s.setBit (pkCs j) CS_PRECISE_STALE true).setBit (pkCs j) CS_STAT_STALE true

/-- R308: a valid fast sample within IOPEN moves a waiting switch to OPENING. -/
def State.iopen (s : State) (k : Nat) : State :=
  let f := s.word (pkCs k) CS_FAST
  if s.sw k = 3 && fget CS_FAST_STALE f == 0 && decide ((sgn 16 (fget CS_FAST_CODE f)).natAbs ≤ s.fld (pkIs k) IS_CFG_IOPEN) then
    s.setSw k 4
  else s

/-- R137, R139-R141: one fast boundary: every phase stream and the Tender's own output take a sample. -/
def execFastSample (raw : List Word) (s : State) : Result :=
  let s := forN 19 (fun k s => s.fillFast k) s
  let s := forN 18 (fun k s => (s.putFast k (s.producer k) raw (s.td.relieved == some k)).iopen k) s
  .next (s.putFast 18 18 raw s.td.relieved.isSome)

/-- Full scale of a gain code at the shunt in 0.1 mV (R132). -/
def fullScale (gain : Nat) : Int := 4000 / 2 ^ gain

/-- A comparator's state is implausible against the shunt voltage (R424): tripped below 0.8, or not above 1.2, times its
threshold; v in 0.1 mV / 8388608. -/
def implausible (tripped : Bool) (v : Int) (thr : Nat) : Bool :=
  if tripped then decide (10 * v < 8 * thr * 8388608) else decide (12 * thr * 8388608 < 10 * v)

/-- R424: the plausibility of phase k's comparators at a precise boundary; 64 boundaries in a row are reported. -/
def State.plausible (s : State) (k : Nat) : State :=
  let p := s.word (pkCs k) CS_PRECISE
  let e := s.entry (bridgeOf k)
  let code := sgn 24 (fget CS_PRECISE_CODE p)
  let v := (if s.csInvert k then -code else code) * fullScale (s.fld (pkCs k) CS_CFG_GAIN)
  let bad := e.en && fget CS_PRECISE_STALE p == 0 && fget CS_PRECISE_CLIP p == 0 &&
    (implausible (bitN (s.fld pkSea SEAWALL_CMP_POS_V) k) v e.itripPos
      || implausible (bitN (s.fld pkSea SEAWALL_CMP_NEG_V) k) (-v) e.itripNeg)
  let n := if bad then satInc 65 (tget 0 s.sea.plaus k) else 0
  let s := { s with sea := { s.sea with plaus := tput s.sea.plaus k n } }
  if n = 64 then s.raise (0x180 + k) 0x06 2 else s

/-- A non-agreeing pair in AGREE aborts, in VERIFY discards the new coefficients or ends in HOLD (R146, R155). -/
def State.tdDisagree (s : State) (diff : Nat) : State :=
  let k := s.tdCh
  if s.tdPhase = tdAgree then (s.tdAbort).raise (0x020 + k) 0x06 0 (diffUnits (max diff s.td.maxDiff))
  else if s.td.newCoef then (s.oldCoefs k).setTd { (s.oldCoefs k).td with run := 0, maxDiff := 0 }
  else (s.tdGo tdHold k).raise (0x020 + k) 0x06 2

/-- The largest difference of a completed run is shown (R147, R165). -/
def State.tdRunDone (s : State) (m : Nat) : State :=
  let n := diffUnits m
  let s := s.setFld pkCst CST_TD_STAT_MAXDIFF n
  if n = 255 then s.modPage pkCst (fun p => { p with sat := true }) else s

/-- R147: a pair of precise samples of the channel served and of the Tender. -/
def State.tdPair (s : State) (raw : List Word) : State :=
  let k := s.tdCh
  let t := s.td
  let a := s.preciseOf k (rawAt raw k)
  let b := s.preciseOf 18 (rawAt raw 18)
  let bad := !(s.preciseGood k) || !(s.preciseGood 18) || a.2 || b.2 || s.cmFault k
  let d := (a.1 - b.1).natAbs
  let window := fget CST_TD_LIMIT_WINDOW t.limit
  if s.tdPhase = tdVerify && bad then s.setTd { t with run := 0, maxDiff := 0 }
  else if bad then s.tdAbort
  else if window * 8388608 < d * 10000 then s.tdDisagree d
  else
    let s1 := s.setTd { t with run := t.run + 1, maxDiff := max t.maxDiff d }
    if t.run + 1 = 64 then s1.tdRunDone (max t.maxDiff d) else s1

/-- R147, R155: what a precise boundary means for the service in progress. In CONNECT the samples are discarded, but a clipped
or stale one ends the service; the Tender's own count from boundary 4. -/
def State.tdBoundary (s : State) (raw : List Word) : State :=
  let k := s.tdCh
  let t := { s.td with bnd := s.td.bnd + 1 }
  let s1 := s.setTd t
  match s.tdPhase with
  | 2 =>
    let a := s.preciseOf k (rawAt raw k)
    let b := s.preciseOf 18 (rawAt raw 18)
    if !(s.preciseGood k) || !(s.preciseGood 18) || a.2 || s.cmFault k || (decide (4 ≤ t.bnd) && b.2) then s1.tdAbort else s1
  | 3 => if t.run < 64 then s1.tdPair raw else s1
  | 5 => if t.run < 64 && decide (4 + fget CST_TD_TIME_SETTLE t.time ≤ t.bnd) then s1.tdPair raw else s1
  | _ => s

/-- R137, R139-R141, R147, R424: one precise boundary; it sets the PRECISE flag of every Cove pair (R330). -/
def execPreciseSample (raw : List Word) (s : State) : Result :=
  let s := forN 19 (fun k s => s.fillPrecise k) s
  let s := forN 18 (fun k s => (s.putPrecise k (s.producer k) raw (s.td.relieved == some k)).plausible k) s
  .next (forN 4 (fun k s => s.cvFlag k 1) ((s.putPrecise 18 18 raw s.td.relieved.isSome).tdBoundary raw))

/-! ### Common mode (R133, R158) -/

/-- R133: the common mode of a channel's input out of range for 1 µs. -/
def execCmFault (channel : Nat) (s : State) : Result :=
  .next ((s.setBit (pkCs channel) CS_STAT_CM_FAULT true).irq (pkCs channel) 13)

/-- R133: the common mode back in range for 1 µs. -/
def execCommonModeReturn (channel : Nat) (s : State) : Result :=
  .next (s.setBit (pkCs channel) CS_STAT_CM_FAULT false)

/-- R158: CM_FAULT has lasted more than 10 ms. -/
def execCmFaultLasting (channel : Nat) (s : State) : Result :=
  .next (if s.bit (pkCs channel) CS_STAT_CM_FAULT then s.raise (0x020 + channel) 0x06 1 else s)

/-! ### Gain (R142) -/

/-- R142: a write of CS.CFG; a changed gain loads its factory trim. On CST the fields are RO (R164). -/
def execGainWrite (who : Initiator) (channel : Nat) (v : Word) (s : State) : Result :=
  .next (if channel < 18 then (s.regWrite who (pkCs channel) 0x040 v).1.syncTrim channel
    else (s.regWrite who pkCst 0x040 v).1)

/-! ### Tender services (R144-R156) -/

/-- R144: PERIOD has run since the last service start. -/
def execTenderPeriod (s : State) : Result := .next (s.setTd { s.td with due := true })

/-- The service of channel k starts, with a self-calibration first where the gains differ (R146). -/
def State.tdServe (s : State) (k : Nat) (req : Bool) : State :=
  let g := s.fld (pkCs k) CS_CFG_GAIN
  if s.td.selfGain = some g then
    ((s.setWord pkCst CST_OFFSET s.td.selfOffset).setWord pkCst CST_GAIN s.td.selfCoef).tdConnectTo k
  else s.tdSelfcalAt g (some k) req

/-- R144: the first precise boundary after the start condition. -/
def execServiceStart (s : State) : Result :=
  .next (if s.tdPhase = tdIdle && s.running pkCst && (s.td.due || s.liveReq.isSome) then
      let s := s.setTd { s.td with
        due := false, time := s.word pkCst CST_TD_TIME, limit := s.word pkCst CST_TD_LIMIT }
      match s.liveReq with
      | some k => ((s.setTd { s.td with req := none }).setBit pkCst CST_TD_STAT_REQ_PENDING false).tdServe k true
      | none => match s.nextRot with
        | some k => (s.setTd { s.td with rot := (k + 1) % 18 }).tdServe k false
        | none => s.tdSelfcalAt (s.td.selfGain.getD 0) none false
    else s)

/-- R145: TD_REQ written with REQ = 1; a channel above 17 clamps to 17 (R164). -/
def execTenderRequest (who : Initiator) (channel : Nat) (s : State) : Result :=
  .next (s.command pkCst who (fun s =>
    let s := if 17 < channel then s.logClamp pkCst 0 0x084 else s
    if s.td.req.isSome then s.setBit pkCst CST_TD_STAT_REQ_IGNORED true
    else (s.setTd { s.td with req := some (min channel 17) }).setBit pkCst CST_TD_STAT_REQ_PENDING true))

/-- R145: TD_REQ written with REQ = 0. -/
def execTenderWithdraw (who : Initiator) (s : State) : Result :=
  .next (s.command pkCst who (fun s =>
    (s.setTd { s.td with req := none }).setBit pkCst CST_TD_STAT_REQ_PENDING false))

/-- R146: boundary 4 + SETTLE is reached in CONNECT. -/
def execSettleEnd (s : State) : Result :=
  .next (if s.tdPhase = tdConnect then s.tdGo tdAgree s.tdCh else s)

/-- R148: the boundary after the 64th agreeing sample: the phase stream passes to the Tender, or back to the channel. -/
def execTenderSwap (s : State) : Result :=
  let k := s.tdCh
  .next (if s.tdPhase = tdAgree ∧ 64 ≤ s.td.run then (s.relieve k).tdCalibrate
    else if s.tdPhase = tdVerify ∧ 64 ≤ s.td.run then
      ((s.unrelieve).cntW pkCst CST_TD_CNT_SWAPS).tdSelfcalAt s.nextGain none false
    else s)

/-- The binary32 quotient of R149 for the point sums s1 and s2 of n samples each; none where it is not finite and positive. -/
def calQuotient (s1 s2 : Int) (n : Nat) : Option Nat :=
  if s1 ≤ s2 then none
  else
    let q := (fround f32 false (8388608 * n) (s1 - s2).natAbs 0).1
    if fIsFinite f32 q then some q else none

/-- A positive binary32 value in 2.22 fixed point: nearest, a tie to the lower code as in the worked example of chapter 5
(log entry 23). -/
def toFix22 (q : Nat) : Nat :=
  match fdec f32 q with
  | .fin _ m e =>
    if 0 ≤ e + 22 then m * 2 ^ (e + 22).toNat
    else
      let d := 2 ^ (-(e + 22)).toNat
      let r := m % d
      if d < 2 * r then m / d + 1 else m / d
  | _ => 0

/-- off_new of R149: the mean of the two points, ties to even. -/
def calOffset (s1 s2 : Int) (n : Nat) : Int := rneDivI (s1 + s2) (2 * n)

/-- R149: the new coefficients are accepted: within GAIN_LIM (0.5 % units) and OFS_LIM (0.1 % FS units), nothing clipped. -/
def calAccept (q : Nat) (off gOld offOld : Int) (gLim oLim : Nat) : Bool :=
  match fdec f32 q with
  | .fin _ m e =>
    -- g_new and g_old over 2^-149 and 2^-22
    let g : Int := m * 2 ^ (e + 149).toNat
    let old : Int := gOld * 2 ^ 127
    decide ((g - old).natAbs * 200 ≤ gLim * old.natAbs) && decide ((off - offOld).natAbs * 1000 ≤ oLim * 8388608)
  | _ => false

/-- GAIN of a producer takes a solved value; one outside the 2.22 format, or none, is a value the spec does not state: a free value
(log entry 5). -/
def State.setGain (s : State) (k : Nat) (g : Option Nat) : State :=
  match g.filter (· < 2 ^ 24) with
  | some g => s.setWord (pkCs k) CS_GAIN (BitVec.ofNat 32 g)
  | none => (s.setWord (pkCs k) CS_GAIN ((s.free 24).setWidth 32)).drawn

/-- R149, R150: point 2 of a channel is done: coefficients solved and judged. -/
def State.calJudge (s : State) (sum2 : Int) (clipped : Bool) : State :=
  let k := s.tdCh
  let t := s.td
  let c := s.chan k
  let n := fget CST_TD_LIMIT_NCAL t.limit
  let off := calOffset t.sum1 sum2 n
  let s := s.setTd { t with
    oldOffset := s.word (pkCs k) CS_OFFSET, oldGain := s.word (pkCs k) CS_GAIN, calDone := true, newCoef := false }
  let ok := !clipped && !t.calClip && !(s.bit pkCst CST_TD_STAT_REF_SUSPECT) && (match calQuotient t.sum1 sum2 n with
    | some q => calAccept q off (s.csGain k) (s.csOffset k) (fget CST_TD_LIMIT_GAIN_LIM t.limit) (fget CST_TD_LIMIT_OFS_LIM t.limit)
    | none => false)
  let waits := (s.dr.queue ++ s.dr.held).any (fun x => x.page == pkCs k)
  let verify (s : State) : State :=
    let s := s.setBit (pkCs k) CS_STAT_CALIBRATING false
    if waits then s.setTd { s.td with awaitRun := true, point := 0 } else s.tdVerifyStart
  if ok then
    let q := (calQuotient t.sum1 sum2 n).getD 0
    let s := (s.setWord (pkCs k) CS_OFFSET (BitVec.ofInt 32 off)).setGain k (some (toFix22 q))
    let s := ((s.cntW (pkCs k) CS_CAL_COUNT).setFld (pkCs k) CS_CAL_AGE 0).irq (pkCs k) 10
    let s := s.setChan k { c with refused := 0, calAt := some s.cyc }
    verify (s.setTd { s.td with newCoef := true })
  else
    let s := (s.setChan k { c with refused := c.refused + 1 }).cntS (pkCs k) CS_CNT_REJECT |>.irq (pkCs k) 11
    if 2 ≤ c.refused then
      let s := (s.raise (0x020 + k) 0x06 2).setBit (pkCs k) CS_STAT_CALIBRATING false
      (s.setTd { s.td.fresh with awaitRun := false }).tdGo tdHold k
    else verify (s.raise (0x020 + k) 0x06 0)

/-- R149: a calibration point's averaging ends, with the sum of its NCAL raw codes. -/
def execCalibrationPointDone (sum : Int) (clipped : Bool) (s : State) : Result :=
  .next (if s.tdPhase = tdRelief && s.running (pkCs s.tdCh) then
      if s.td.point = 1 then s.setTd { s.td with point := 2, sum1 := sum, calClip := clipped }
      else if s.td.point = 2 then s.calJudge sum clipped
      else s
    else s)

/-- R152: the deviation of REFB from 2 097 152, in 0.001 %. -/
def refDeviation (code : Int) : Int := rneDivI ((code - 2097152) * 100000) 2097152

/-- R152: the self-calibration ends: coefficients applied without a limit check, REFB judged, a service that waits starts.
`refb` is the raw code of REFB. -/
def execSelfcalEnd (sum1 sum2 : Int) (refb : Int) (s : State) : Result :=
  .next (if s.tdPhase = tdSelfcal then
      let t := s.td
      let n := fget CST_TD_LIMIT_NCAL t.limit
      let fixed : Option Nat := (calQuotient sum1 sum2 n).map toFix22
      let s1 := s.setGain 18 fixed
      let s1 := s1.setWord pkCst CST_OFFSET (BitVec.ofInt 32 (satSgn 24 (calOffset sum1 sum2 n)))
      let code := (correctTo 24 refb (s1.csOffset 18) (s1.csGain 18) false).1
      let bad := decide (3 * 2097152 < (code - 2097152).natAbs * 1000)
      let s1 := (s1.setFld pkCst CST_TD_REF_V (unsgn 16 (satSgn 16 (refDeviation code)))).setBit pkCst CST_TD_STAT_REF_SUSPECT bad
      let s1 := if bad then s1.raise 0x032 0x06 1 else s1
      let s1 := (s1.setTd { s1.td with selfGain := some t.calGain, selfOffset := s1.word pkCst CST_OFFSET, selfCoef := s1.word pkCst CST_GAIN }).setBit pkCst CST_STAT_CALIBRATING false
      match t.next with
      | some k =>
        if s1.servable k then s1.tdConnectTo k
        else if t.nextReq && t.req.isNone then
          ((s1.setTd { s1.td with req := some k }).setBit pkCst CST_TD_STAT_REQ_PENDING true).tdToIdle
        else s1.tdToIdle
      | none => s1.tdToIdle
    else s)

/-- R154: a channel in FAULT is relieved without an agreement run, from IDLE or SELFCAL. -/
def execEmergencyRelief (channel : Nat) (s : State) : Result :=
  .next (if channel < 18 && s.st (pkCs channel) == .fault && s.bit pkCst CST_TD_CTRL_EMERG_EN && s.running pkCst
      && (s.tdPhase == tdIdle || s.tdPhase == tdSelfcal) then
      let t := s.td
      let s := match t.next with
        | some k => if t.nextReq && t.req.isNone then
            (s.setTd { t with req := some k, next := none }).setBit pkCst CST_TD_STAT_REQ_PENDING true
          else s
        | none => s
      let g := s.fld (pkCs channel) CS_CFG_GAIN
      let s := s.tdConnectTo channel
      let s := if t.selfGain = some g then
          (s.setWord pkCst CST_OFFSET t.selfOffset).setWord pkCst CST_GAIN t.selfCoef
        else s.loadTrim 18 g
      let s := (s.setBit pkCst CST_STAT_CALIBRATING false).setBit pkCst CST_TD_STAT_EMERG true
      ((s.relieve channel).refill 18 |>.staleStream channel).tdGo tdHold channel
    else s)

/-- R146: the held channel is released by the Harbourmaster: VERIFY, or calibration first where none was completed. -/
def execHoldRelease (s : State) : Result :=
  let k := s.tdCh
  .next (if s.tdPhase = tdHold && (s.st (pkCs k) == .idle || s.st (pkCs k) == .run) then
      if s.td.calDone then s.tdVerifyStart else s.tdCalibrate
    else s)

end Sys2Proof.Machine
end

