-- ==== Sys2Proof/Machine/DredgeCmd.lean ====
section
/-!
DEFINITION. Machine/DredgeCmd.lean: the commands of Dredge and of the buoys (R567-R588).
-/
namespace Sys2Proof.Machine

/-- The source of memory faults: the spec gives 0x1E0-0x1FF without assigning them (R34; log entry 15). -/
abbrev memSource : Nat := 0x1E0

/-- A page may be quarantined now: OFF, IDLE or RUN, or FAULT for a retest (R51, R52, R580). -/
def State.canEnterTest (s : State) (k : Nat) : Bool :=
  let x := s.st k
  x == .off || x == .idle || x == .run || (x == .fault && s.dr.retest.contains k)

/-- A standby sweeps: STANDBY, RETURNING or CANDIDATE (R577). -/
def State.isStandby (s : State) : Bool :=
  let x := s.fld pkWg WG_STAT_STATE
  x == 2 || x == 3 || x == 4

/-- The Active column of R572 applies: the unit holds authority, or its manifest configures no watch group (R575). -/
def State.activeColumn (s : State) : Bool := s.holdsAuthority || s.sea.mf.gsize == 0

/-- The Flood run and Dry dock test every block, whatever its state (R574, R579). -/
def State.testsAll (s : State) : Bool := s.dr.phase == .floodRun || s.pw.tide == .dryDock

/-- The setting shuts a test out: the page has left OFF or IDLE, the pair is critical, the bridge runs (R228, R310, R572, R575). -/
def State.columnBars (s : State) (t : DrTest) : Bool :=
  let i := t.page % 32
  match kindOf t.page with
  | some .ac => s.running t.page || s.activeColumn && s.bit t.page AC_CFG_CRIT
  | some .cv => s.running t.page || s.activeColumn && s.bit t.page CV_CFG_CRIT
  | some .ce | some .sw | some .ij | some .cp => s.activeColumn && s.running t.page
  | some .hc => s.activeColumn && s.running (pkGb (i - 24))
  | some .gl | some .is => s.activeColumn && s.running (pkGb (bridgeOf i))
  | some .gb => s.activeColumn && s.running t.page
  | some .sc | some .sx | some .can | some .spi | some .sent => s.running t.page
  | some .port | some .mp => true
  | _ => false

/-- A request is withdrawn: a page of it has gone to FAULT, so the test is not started, or the setting shuts it out (R52, R575,
R582). -/
def State.testWithdrawn (s : State) (t : DrTest) : Bool :=
  t.pages.any (fun k => s.st k == .fault && !(s.dr.retest.contains k))
    || !s.testsAll && !(t.pages.isEmpty) && s.columnBars t

/-- A test of a channel that produces the phase stream of a unit with authority is held for the Tender (R156). -/
def State.testHeld (s : State) (t : DrTest) : Bool :=
  !s.testsAll && kindOf t.page == some .cs && s.holdsAuthority && s.running t.page
    && !(s.serves (t.page % 32) && s.td.awaitRun)

/-- A request waits: for a page in DRAIN or in TEST, for the Tender's service to end, on a standby in step for the engine tested
before (R52, R156, R578). -/
def State.testWaits (s : State) (t : DrTest) : Bool :=
  t.pages.any (fun k => !(s.canEnterTest k))
    || (kindOf t.page == some .cst && s.fld pkCst CST_TD_STAT_PHASE != 0)
    || (kindOf t.page == some .ce && s.fld pkWg WG_STAT_STATE == 4 &&
        (s.dr.stepHold.isSome || s.dr.running.any (fun x => kindOf x.page == some .ce)))

/-- What quarantine does to a block: its outputs go to the idle of R54, and a channel without authority loses its reference
(R190). -/
def State.enterTest (s : State) (k : Nat) : State := (s.toIdleOutputs k .test).setSt k .test

/-- Tokens are granted: the test's pages are quarantined (R567). -/
def State.startTest (s : State) (t : DrTest) : State :=
  let hold := if kindOf t.page == some .ce && s.fld pkWg WG_STAT_STATE == 4 then some (t.page % 32) else s.dr.stepHold
  forL t.pages (fun k s => s.enterTest k) { s with dr := { s.dr with running := s.dr.running ++ [t], stepHold := hold } }

/-- A sweep's result is shown (R577, R587). -/
def State.sweepResult (s : State) : State :=
  let s := (s.setBit pkDr DR_SWEEPS_PASSED (!s.dr.sweepFailed)).cntW pkDr DR_SWEEPS_N
  { s with dr := { s.dr with sweepFailed := false } }

/-- A round of tests has ended when nothing runs or waits: a sweep shows its result (R577, R581). -/
def State.sweepDone (s : State) : State :=
  if s.dr.queue.isEmpty && s.dr.running.isEmpty && s.dr.held.isEmpty then
    if s.dr.sweeping then
      { s.sweepResult.irq pkDr 9 with dr := { s.sweepResult.dr with sweeping := false, retest := [], phase := .none } }
    else if s.dr.phase == .service then { s with dr := { s.dr with phase := .none } }
    else s
  else s

/-- Requests at the head that are withdrawn or held for the Tender leave the queue. -/
def State.clearHead (s : State) : State :=
  let goes (t : DrTest) : Bool := s.testWithdrawn t || s.testHeld t
  let out := s.dr.queue.takeWhile goes
  { s with dr := { s.dr with queue := s.dr.queue.dropWhile goes
                             held := s.dr.held ++ out.filter (fun t => !(s.testWithdrawn t)) } }

/-- The request served next: a held test whose time has come (R156), or the head of the queue. -/
def State.nextTest (s : State) : Option DrTest :=
  match s.dr.held.find? (fun t => !(s.testHeld t)) with
  | some t => some t
  | none => s.dr.queue.head?

/-- R570, R567: the request at the head of the queue is granted its tokens and its pages are quarantined, when it fits, no
warning holds grants and the block's conditions allow it. -/
def execTokenGrant (s : State) : Result :=
  .next (
    let s := s.clearHead
    match s.nextTest with
    | none => s.sweepDone
    | some t =>
      if s.testWithdrawn t then { s with dr := { s.dr with held := s.dr.held.erase t } }.sweepDone
      else if !s.dr.warnHold && !(s.testWaits t) && decide (t.tokens ≤ s.tokensFree) then
        let d := if s.dr.held.contains t then { s.dr with held := s.dr.held.erase t } else { s.dr with queue := s.dr.queue.drop 1 }
        { s with dr := d }.startTest t
      else s)

/-- A failed test is recorded (R580), the Harbourmaster's at level 3 (R445); the block stays in FAULT. -/
def State.testFailed (s : State) (t : DrTest) (code : Nat) : State :=
  let lvl := if kindOf t.page = some .hm then 3 else 2
  let s := forL t.blocks (fun k s => ((s.setFailed k true).goFault k).raise (pageSource k) 0x10 lvl) s
  let s := ((s.setFld pkDr DR_LAST_FAIL_GROUP (t.page / 32)).setFld pkDr DR_LAST_FAIL_INST (t.page % 32)).setFld pkDr DR_LAST_FAIL_TEST code
  let s := (s.cntS pkDr DR_CNT_FAILS).irq pkDr 10
  { s with dr := { s.dr with sweepFailed := true, retest := s.dr.retest.filter (fun k => !(t.blocks.contains k)) } }

/-- A passed test returns the pages it was the last to retest (R580). -/
def State.testPassed (s : State) (t : DrTest) : State :=
  let more (k : Nat) : Bool := (s.dr.queue ++ s.dr.running).any (fun x => x.blocks.contains k)
  let back := t.blocks.filter (fun k => s.dr.retest.contains k && !(more k))
  let s := { s with dr := { s.dr with retest := s.dr.retest.filter (fun k => !(back.contains k)) } }
  forL t.pages (fun k s => s.leaveTest k) (forL (if t.pages.isEmpty then back else []) (fun k s => s.leaveThroughBr k) s)

/-- A running test ends: tokens back, and its pages through BR after a pass, in FAULT after a failure. A standby in step then
asks for the engine's committed state (R578). -/
def State.endTest (s : State) (page : Nat) (failCode : Option Nat) : State :=
  match s.dr.running.find? (fun t => t.page == page && t != marchTest) with
  | none => s
  | some t =>
    let s := { s with dr := { s.dr with running := s.dr.running.erase t } }
    let s := match failCode with
      | some c => forL t.pages (fun k (s : State) => s.irq k 2) (s.testFailed t c)
      | none => s.testPassed t
    let s := if kindOf page = some .ce && s.dr.stepHold.isSome then
        (if failCode.isSome then { s with dr := { s.dr with stepHold := none } } else s.sendHello)
      else s
    s.sweepDone

/-- R567, R580: a test ends. -/
def execTestEnd (page : Nat) (passed : Bool) (s : State) : Result :=
  let code := match s.dr.running.find? (fun t => t.page == page) with | some t => t.code | none => 0
  .next (s.endTest page (if passed then none else some code))

/-- R568, R585: a test still running at twice its time is ended as a failure of the block. -/
def execTestTimeout (page : Nat) (s : State) : Result :=
  .next (if s.dr.running.any (fun t => t.page == page && t != marchTest) then (s.endTest page (some 9)).raise 0x220 0x05 1 else s)

/-- R571: CTRL.ABORT_ALL. -/
def execAbortAll (who : Initiator) (s : State) : Result := .next ((s.keyTaken pkDr who).abortTests)

/-! ### Sweeps (R575, R577, R579, R580) -/

/-- The comparators' test of a pair: it quarantines nothing (R338, R389). -/
def compTest (k : Nat) : DrTest := ⟨k, [], 1, 8⟩

/-- The tests of the boot window beside the march, in ascending source ID (R572, R573). -/
def bootTests : List DrTest :=
  (List.range 4).map (fun k => compTest (pkCv k)) ++ (compTest (pkAc 0) :: (drTest (pkAc 0)).toList)
    ++ [compTest (pkAc 1), compTest (pkAc 2), compTest (pkAc 3)] ++ (drTest pkHm).toList

/-- The tests of the Flood run, in ascending source ID (R572, R574). -/
def floodRunTests : List DrTest :=
  ((List.range 18).map pkCs ++ [pkCst] ++ (List.range 6).map pkHc ++ (List.range 12).map pkSc ++ [pkSx]
    ++ (List.range 6).map pkCe ++ (List.range 6).map pkSw ++ (List.range 6).map pkIj ++ [pkCp]
    ++ (List.range 18).map pkGl ++ (List.range 6).map pkGb ++ (List.range 18).map pkIs
    ++ (List.range 4).map pkCv ++ [pkAc 1, pkAc 2, pkAc 3] ++ (List.range 4).map pkPort ++ (List.range 2).map pkMp
    ++ (List.range 4).map pkCan ++ (List.range 6).map pkSpi ++ (List.range 8).map pkSent ++ (List.range 2).map pkGa
    ++ [pkByt, pkByv, pkByp]).filterMap drTest

/-- The tests of a standby sweep, in ascending source ID but the engines last (R572, R578). -/
def sweepTests : List DrTest :=
  let pick (p : Option PKind → Bool) : List DrTest := floodRunTests.filter (fun t => p (kindOf t.page))
  let outer (x : Option PKind) : Bool := match x with
    | some .can | some .spi | some .sent | some .ga | some .byt | some .byv | some .byp => true
    | _ => false
  pick (fun x => !(outer x) && x != some .ce && x != some .port && x != some .mp && x != some .cv && x != some .ac)
    ++ (List.range 4).flatMap (fun k => compTest (pkCv k) :: (drTest (pkCv k)).toList)
    ++ (List.range 4).flatMap (fun k => compTest (pkAc k) :: (if k = 0 then [] else (drTest (pkAc k)).toList))
    ++ pick outer ++ pick (fun x => x == some .ce)

/-- The tests run in service (R575): the Yes entries, those borne by the Tender, and with IDLE_EN = 1 the entries of pages that are
idle or whose bridge does not run. -/
def State.serviceTests (s : State) : List DrTest :=
  floodRunTests.filter (fun t => match kindOf t.page with
    | some .ga | some .byt | some .byv | some .byp | some .cs | some .cst => true
    | _ => s.bit pkDr DR_CFG_IDLE_EN && !(s.columnBars t))

/-- A sweep starts: FAILMAP bits of the blocks it tests clear, and those blocks are retested (R577, R580). -/
def State.startSweep (s : State) (l : List DrTest) : State :=
  let bad := (l.flatMap (·.blocks)).eraseDups.filter (fun k => s.failed k)
  let s := forL bad (fun k s => s.setFailed k false) s
  { s with dr := { s.dr with queue := s.dr.queue ++ l, retest := s.dr.retest ++ bad, sweeping := true,
                             sweepFailed := false, phase := .sweep } }

/-- The Flood run starts (R574). -/
def State.startFloodRun (s : State) : State :=
  { s with dr := { s.dr with queue := s.dr.queue ++ floodRunTests, sweepFailed := false, phase := .floodRun } }

/-- R577, R579: CTRL.SWEEP; ignored while a sweep runs, and on a unit that does not sweep. -/
def execSweep (who : Initiator) (s : State) : Result :=
  let s := s.keyTaken pkDr who
  .next (if s.dr.sweeping then s
    else if s.pw.tide = .dryDock then s.startSweep floodRunTests
    else if s.isStandby then s.startSweep sweepTests
    else s)

/-- R575, R577: SWEEP_S seconds have passed: a standby with AUTO = 1 starts a sweep; a unit holding authority, or without a
watch group, queues the tests it runs in service. -/
def execSweepTimer (s : State) : Result :=
  .next (if s.isStandby then
      if s.bit pkDr DR_CFG_AUTO && !s.dr.sweeping then s.startSweep sweepTests else s
    else if s.inHigh && s.activeColumn then
      let l := s.serviceTests.filter (fun t => !(s.dr.queue.contains t) && !(s.dr.running.contains t) && !(s.dr.held.contains t))
      { s with dr := { s.dr with queue := s.dr.queue ++ l, phase := if s.dr.sweeping then s.dr.phase else .service } }
    else s)

/-! ### Scrub, march and Flood run (R573, R574, R576) -/

/-- R576, R34: one word is read and corrected where needed; a pass of 16 MiB counts. The order of the scrub is not stated: the
address of a bad word is free (log entry 5). -/
def execScrubRead (err : SecErr) (s : State) : Result :=
  .next (if s.pw.tide = .slack then s
    else
      let a := s.dr.scrubAt + 1
      let s := if 4194304 ≤ a then { s with dr := { s.dr with scrubAt := 0 } }.cntW pkDr DR_SCRUB
        else { s with dr := { s.dr with scrubAt := a } }
      match err with
      | .none => s
      | .single => s.raise memSource 0x01 0
      | .double => (s.raise memSource 0x02 1 0 (s.free 32).toNat).drawn)

/-- Addresses the march leaves as they are: MRAM always, the swell tables in a Flood after a UR (R56, R573). -/
def marchKeeps (fromUr : Bool) (a : Nat) : Bool :=
  decide (0x10000000 ≤ a ∧ a < 0x11800000) || (fromUr && decide (0x33000000 ≤ a ∧ a < 0x33018000))

/-- R573: the march ends: the memories read 0, or a failure in a memory the image loads into sends the Flood to Dry dock. -/
def execMarchDone (passed imageMemory : Bool) (s : State) : Result :=
  let s := { s with mem := s.mem.filter (fun c => marchKeeps s.pw.fromUr c.1)
                    dr := { s.dr with marchDone := true, running := s.dr.running.erase marchTest, queue := s.dr.queue.erase marchTest } }
  .next (if passed then s
    else
      let s := (s.raise memSource 0x10 2).setFld pkDr DR_LAST_FAIL_TEST 2
      let s := (s.setFld pkDr DR_LAST_FAIL_GROUP 0x13).setFld pkDr DR_LAST_FAIL_INST 1
      let s := (s.cntS pkDr DR_CNT_FAILS).irq pkDr 10
      if imageMemory then { s with pw := { s.pw with noImage := true } } else s)

/-! ### Buoys (R583-R585) -/

/-- A buoy's conditions for one reading (R584): enters WARN, enters LIMIT, returns from WARN, returns from LIMIT. -/
def buoyConds (mode : Nat) (a b h r : Int) : Bool × Bool × Bool × Bool :=
  match mode with
  | 1 => (decide (r > a), decide (r > b), decide (r ≤ a - h), decide (r ≤ b - h))
  | 2 => (decide (r < a), decide (r < b), decide (r ≥ a + h), decide (r ≥ b + h))
  | _ =>
    let back := decide (a + h ≤ r) && decide (r ≤ b - h)
    (false, decide (r < a) || decide (r > b), back, back)

/-- One sample more, or none, on which a condition has held; no more than FILT's greatest value counts. -/
def buoyRun (p : Bool) (n : Nat) : Nat := if p then min 15 (n + 1) else 0

/-- The runs after a sample. -/
def Buoy.next (x : Buoy) (c : Bool × Bool × Bool × Bool) : Buoy :=
  ⟨buoyRun c.1 x.warnRun, buoyRun c.2.1 x.limitRun, buoyRun c.2.2.1 x.fromWarn, buoyRun c.2.2.2 x.fromLimit⟩

/-- The state a sample moves a buoy to (R584): 0 normal, 1 WARN, 2 LIMIT. WINDOW knows no WARN: it returns to normal. -/
def Buoy.move (y : Buoy) (filt mode st : Nat) : Nat :=
  if st ≠ 2 ∧ filt ≤ y.limitRun then 2
  else if st = 0 ∧ filt ≤ y.warnRun then 1
  else if st = 1 ∧ filt ≤ y.fromWarn then 0
  else if st = 2 ∧ filt ≤ y.fromLimit then (if mode = 0 then 0 else 1)
  else st

/-- The kind of a buoy's pennant (R585). -/
def buoyKind (k : Nat) (a r : Int) : Nat :=
  match kindOf k with
  | some .byt => 0x0F
  | some .byv => if r < a then 0x07 else 0x06
  | _ => 0x06

/-- The source and detail of a buoy's pennant (R585). -/
def buoySource (k n : Nat) : Nat × Nat :=
  match kindOf k with
  | some .byt => (0x221 + n, 0)
  | some .byv => (0x22D + n, 0)
  | _ => (0x23D, n)

/-- R584, R585: a buoy is sampled. A page in OFF, FAULT or TEST holds its states and counters. -/
def execBuoySample (page buoy : Nat) (reading : BitVec 16) (s : State) : Result :=
  let cfg := s.word page (BYT_CFG.ix buoy 16)
  let th := s.word page (BYT_TH.ix buoy 16)
  let sg (n : Nat) : Int := if page = pkByt then sgn 16 n else (n : Int)
  let r := sg reading.toNat
  let a := sg (fget BYT_TH_A th)
  let st := s.fld page (BYT_VAL_STATE.ix buoy 16)
  let mode := fget BYT_CFG_MODE cfg
  let y := (tget {} s.buoys (32 * page + buoy)).next (buoyConds mode a (sg (fget BYT_TH_B th)) (fget BYT_CFG_HYST cfg) r)
  let next := y.move (max 1 (fget BYT_CFG_FILT cfg)) mode st
  let src := buoySource page buoy
  .next (if s.st page == .off || s.st page == .fault || s.st page == .test then s
    else
      let s := { s.setFld page (BYT_VAL_READ.ix buoy 16) reading.toNat with buoys := tput s.buoys (32 * page + buoy) y }
      let s := s.setFld page (BYT_VAL_STATE.ix buoy 16) next
      if next = 2 ∧ st ≠ 2 then
        ((s.cntS page (BYT_CNT_EXC.ix buoy 16)).irq page (8 + buoy)).raise src.1 (buoyKind page a r) 1 src.2
      else if next = 1 ∧ st = 0 then
        (s.cntS page (BYT_CNT_WARN.ix buoy 16)).raise src.1 (buoyKind page a r) 0 src.2
      else s)

end Sys2Proof.Machine
end

