-- ==== Sys2Proof/Machine/GateCmd.lean ====
section
/-!
DEFINITION. Machine/GateCmd.lean: the commands of gate legs, bridges and isolation switches (R286-R310).
-/
namespace Sys2Proof.Machine

/-- A leg acts on command words: its page in RUN or DRAIN, the Seawall enable present and no cut in force (R291, R293). -/
def State.legLive (s : State) (k : Nat) : Bool :=
  s.busy (pkGl k) && s.bit (pkGl k) GL_STAT_EN_SW && !(s.bit (pkGb (bridgeOf k)) GB_STAT_CUT)

/-- CMD of a command word (R286). -/
def wordCmd (w : BitVec 16) : Nat := bitsN w.toNat 12 11
/-- PLACE of a command word: codes above 1 279 are taken as 1 279 (R286). -/
def wordPlace (w : BitVec 16) : Nat := min 1279 (bitsN w.toNat 10 0)
/-- EDGE of a command word. -/
def wordEdge (w : BitVec 16) : Bool := bitN w.toNat 15

/-- A word with CMD both (R304): both switches off at its arrival, counted; the first of a run and the fiftieth are
reported. On a latched leg it is counted only (R310). -/
def State.crossWord (s : State) (k : Nat) : State :=
  let l := s.leg k
  let n := l.crossRun + 1
  let s := s.cntS (pkGl k) GL_CNT_CROSS
  if l.latch = .latch then s
  else
    let s := ((s.setLeg k { l with crossRun := n }).setBit (pkGl k) GL_FLT_CROSS true).irq (pkGl k) 10
    let s := if n = 1 then s.raise (0x0A0 + k) 0x09 1 else if n = 50 then s.raise (0x0A0 + k) 0x09 2 else s
    s.legOff k

/-- A command low meets a refresh (R297): the low side stays on, or still turns on, and the refresh becomes that transition; once
the low side is off again the word is applied as any other. -/
def State.refreshLow (s : State) (k ta : Nat) : State :=
  let l := s.leg k
  let keep := l.acts.filter (fun a => !a.high && a.on)
  let s := (s.setLeg k { l with acts := keep }).setBit (pkGl k) GL_STAT_REFRESH false
  if keep.isEmpty && s.fld (pkGl k) GL_STAT_OUT != 1 then s.applyCmd k 1 ta else s.legDone k

/-- A single-switch or off word on a live leg (R287, R297, R302). A word equal to the previous one changes nothing. -/
def State.plainWord (s : State) (k : Nat) (w : BitVec 16) : State :=
  let l := s.leg k
  let ta := s.placed (s.tapNow + wordPlace w)
  let cmd := wordCmd w
  match l.latch with
  | .latch => s
  | .waitEdge =>
    if wordEdge w && (cmd == 1 || cmd == 2) then
      ((s.setLeg k { l with latch := .none, word := some w }).setBit (pkGl k) GL_STAT_WAIT_EDGE false).applyCmd k cmd ta
    else s
  | .none =>
    if l.word = some w then s
    else
      let s := s.setLeg k { l with word := some w }
      if s.bit (pkGl k) GL_STAT_REFRESH then
        if cmd = 2 then s
        else if cmd = 1 then s.refreshLow k ta
        else ((s.setLeg k { s.leg k with acts := [] }).setBit (pkGl k) GL_STAT_REFRESH false).applyCmd k 0 ta
      else s.applyCmd k cmd ta

/-- A word on a leg whose page is in OFF or IDLE with its GB page in RUN: the leg stands in the bridge idle (R292). -/
def State.idleWord (s : State) (k : Nat) : State :=
  let idle := b2n (s.bit (pkGb (bridgeOf k)) GB_CFG_IDLE)
  if (s.st (pkGl k) == .off || s.st (pkGl k) == .idle) && s.running (pkGb (bridgeOf k)) && s.bit (pkGl k) GL_STAT_EN_SW
      && (s.leg k).acts.isEmpty && s.fld (pkGl k) GL_STAT_OUT != idle then s.legBridgeIdle k
  else s

/-- R286-R288, R304: a leg's command word arrives at KP. -/
def execCommandWord (leg : Nat) (word : BitVec 16) (s : State) : Result :=
  let s0 := { s with sea := { s.sea with silent := s.sea.silent.filter (fun k => k != leg) } }
  let s1 := s0.setFld (pkGl leg) GL_STAT_CMD (wordCmd word)
  .next (if !(s1.legLive leg) then s1.idleWord leg
    else if wordCmd word = 3 then s1.crossWord leg
    else (s1.setLeg leg { s1.leg leg with crossRun := 0 }).plainWord leg word)

/-- R288, R293: the earliest placed action of a leg takes effect; without the enable only the Seawall's own SHORT form
acts. -/
def execSwitchAction (leg : Nat) (s : State) : Result :=
  .next (match (s.leg leg).acts with
    | [] => s
    | a :: t => (((s.setLeg leg { s.leg leg with acts := t }).act leg a).legDone leg))

/-- R291, R293, R310: the Seawall enable of a bridge as it now stands is seen by its pages. -/
def execSeawallEnable (bridge : Nat) (s : State) : Result :=
  let legs := [3 * bridge, 3 * bridge + 1, 3 * bridge + 2]
  let abortLeak (k : Nat) (s : State) : State :=
    if s.bit (pkGl k) GL_STAT_LEAK_BUSY then
      ((s.setBit (pkGl k) GL_STAT_LEAK_BUSY false).setBit (pkGl k) GL_LEAK_HS_VALID false).setBit (pkGl k) GL_LEAK_LS_VALID false
    else s
  .next (if s.enable bridge then
      let s := (s.setBit (pkGb bridge) GB_STAT_EN_SW true).setBit (pkGb bridge) GB_STAT_CUT false
      let s := forL legs (fun k s => abortLeak k (s.setBit (pkGl k) GL_STAT_EN_SW true)) s
      (s.bridgeStart bridge).safeOutputs
    else s.enforce)

/-! ### Supplies (R295-R297) -/

/-- R295: VGDm below the bridge's UVLO. -/
def execVgdUvlo (bridge : Nat) (s : State) : Result :=
  let run := s.running (pkGb bridge)
  let s := s.setBit (pkGb bridge) GB_STAT_VGD_UV true
  .next (if run then
      (((s.bridgeStop bridge).cntS (pkGb bridge) GB_CNT_VGD_UV).irq (pkGb bridge) 8).raise (0x0B2 + bridge) 0x07 2
    else s)

/-- R295: VGDm above the UVLO plus hysteresis; the GB page may start again. -/
def execVgdUvloRelease (bridge : Nat) (s : State) : Result :=
  .next ((s.setBit (pkGb bridge) GB_STAT_VGD_UV false).bridgeStart bridge)

/-- R296: a bootstrap falls below its UVLO, or is back above threshold plus hysteresis. -/
def execBootstrapUvlo (leg : Nat) (low : Bool) (s : State) : Result :=
  let s1 := s.setBit (pkGl leg) GL_STAT_BST_UV low
  .next (if low && s.running (pkGl leg) then
      ((((s1.latchLeg leg).setBit (pkGl leg) GL_FLT_BST_UV true).cntS (pkGl leg) GL_CNT_BST_UV).irq (pkGl leg) 9).raise
        (0x0A0 + leg) 0x07 1
    else s1)

/-- R297: a high side on for MAXHIGH without the keeper inserts a refresh pulse. -/
def execBootstrapRefresh (leg : Nat) (s : State) : Result :=
  .next (if s.running (pkGl leg) && fget GL_BOOT_KEEP_EN (s.leg leg).cfgH.2.2 == 0 && s.fld (pkGl leg) GL_STAT_OUT == 2
      && (s.leg leg).latch == .none && (s.leg leg).acts.isEmpty then
      let t := s.tapNow
      let dt := s.dtTaps leg
      let rfw := 64 * fget GL_BOOT_RFW (s.leg leg).cfgH.2.2
      let s := s.legOff leg
      let s := s.setLeg leg { s.leg leg with
        acts := [⟨t + dt, false, true⟩, ⟨t + dt + rfw, false, false⟩, ⟨t + 2 * dt + rfw, true, true⟩] }
      ((s.setBit (pkGl leg) GL_STAT_REFRESH true).setBit (pkGl leg) GL_STAT_DT_OPEN true).cntW (pkGl leg) GL_REFRESHES
    else s)

/-! ### Short circuit (R298-R302, R310) -/

/-- A trip counts as a shoot-through (R301): the partner was commanded off less than DT + 100 ns before, or its readback
stands at or above 2.0 V. -/
def State.isShoot (s : State) (k : Nat) (high partnerOn : Bool) : Bool :=
  let t := if high then (s.leg k).tLoff else (s.leg k).tHoff
  partnerOn || (match t with | some x => decide (s.tapNow < x + s.dtTaps k + 640) | none => false)

/-- A detector trips (R300-R302): soft sink, latch, FLT, pennant with FLT [7:0] as its detail. -/
def State.scTrip (s : State) (k : Nat) (high partnerOn : Bool) (flt : Field) : State :=
  let shoot := s.isShoot k high partnerOn
  let s := s.latchLeg k
  let s := s.setLeg k { s.leg k with soft := some high }
  let s := (s.setBit (pkGl k) flt true).setBit (pkGl k) GL_FLT_SHOOT shoot
  let s := (s.cntS (pkGl k) GL_CNT_SC).irq (pkGl k) 8
  s.raise (0x0A0 + k) 0x08 1 ((s.word (pkGl k) GL_FLT).toNat % 256)

/-- The switch named is on with its page in RUN or DRAIN, so its detectors are live (R298, R299). -/
def State.switchOn (s : State) (k : Nat) (high : Bool) : Bool :=
  s.busy (pkGl k) && s.fld (pkGl k) GL_STAT_OUT == (if high then 2 else 1)

/-- DIDT, VDS and BOOT as the switch took them at its turn-on (R310). -/
def State.switchCfg (s : State) (k : Nat) (high : Bool) : Word × Word × Word := if high then (s.leg k).cfgH else (s.leg k).cfgL

/-- R298, R300: a di/dt detector trips; a detector that is not enabled or not live does not. -/
def execDidtTrip (leg : Nat) (high partnerOn : Bool) (s : State) : Result :=
  .next (if s.switchOn leg high && fget (if high then GL_DIDT_HS_EN else GL_DIDT_LS_EN) (s.switchCfg leg high).1 == 1 then
      s.scTrip leg high partnerOn (if high then GL_FLT_DIDT_HS else GL_FLT_DIDT_LS)
    else s)

/-- R299, R300: a VDS monitor trips. -/
def execVdsTrip (leg : Nat) (high partnerOn : Bool) (s : State) : Result :=
  .next (if s.switchOn leg high && fget GL_VDS_EN (s.switchCfg leg high).2.1 == 1 then
      s.scTrip leg high partnerOn (if high then GL_FLT_VDS_HS else GL_FLT_VDS_LS)
    else s)

/-- R300: readback below 2.0 V, or 1 µs passed: the soft sink gives way to the full sink. -/
def execSoftSinkHandover (leg : Nat) (s : State) : Result :=
  .next (s.setLeg leg { s.leg leg with soft := none })

/-- R302: the latch cause has been absent for HOLD. -/
def execLatchHoldExpiry (leg : Nat) (s : State) : Result :=
  .next (if (s.leg leg).latch = .latch then
      ((s.setLeg leg { s.leg leg with latch := .waitEdge }).setBit (pkGl leg) GL_STAT_LATCHED false).setBit (pkGl leg)
        GL_STAT_WAIT_EDGE true
    else s)

/-- R305: a gate readback does not match the driven state; suspended during a cut and during a leakage check. -/
def execReadbackMismatch (leg : Nat) (s : State) : Result :=
  .next (if s.bit (pkGb (bridgeOf leg)) GB_STAT_CUT || s.bit (pkGl leg) GL_STAT_LEAK_BUSY then s
    else ((((s.latchLeg leg).setBit (pkGl leg) GL_FLT_MISMATCH true).cntS (pkGl leg) GL_CNT_MISMATCH).irq (pkGl leg) 11).raise
      (0x0A0 + leg) 0x06 1)

/-! ### Leakage check (R306, R316) -/

/-- R306: GL.CMD written; LEAK starts the check, refused with CAUSE 5 in RUN and DRAIN. -/
def execLeakageCheck (who : Initiator) (leg : Nat) (v : Word) (s : State) : Result :=
  .next (s.command (pkGl leg) who (fun s =>
    let k := pkGl leg
    if s.busy k then s.logClamp k 5 0x5C
    else if bitN v.toNat 0 then
      let s := ((s.setWord k GL_LEAK_HS 0#32).setWord k GL_LEAK_LS 0#32).setBit k GL_STAT_LEAK_BUSY true
      if s.bit k GL_STAT_BST_UV then s.setBit k GL_LEAK_HS_BST_LOW true else s
    else s))

/-- The result word of one gate (R316). -/
def leakWord (t : GateTest) (lim : Nat) : Word :=
  let fail := !t.timeout && decide (lim < t.droop)
  BitVec.ofNat 32 ((t.tchg % 4096) * 2 ^ 20 + (t.droop % 1024) * 2 ^ 10 + b2n t.timeout * 4 + b2n fail * 2 + 1)

/-- R306: the check ends with its results; a high side skipped on a low bootstrap keeps BST_LOW. -/
def execLeakDone (leg : Nat) (hs ls : GateTest) (s : State) : Result :=
  let k := pkGl leg
  .next (if s.bit k GL_STAT_LEAK_BUSY then
      let lim := s.fld k GL_LEAK_LIM
      let skip := s.bit k GL_LEAK_HS_BST_LOW
      let s := if skip then s.setBit k GL_LEAK_HS_VALID true else s.setWord k GL_LEAK_HS (leakWord hs lim)
      let s := (s.setWord k GL_LEAK_LS (leakWord ls lim)).setBit k GL_STAT_LEAK_BUSY false
      let bad (f t : Field) : Bool := s.bit k f || s.bit k t
      let s := s.irq k 12
      if bad GL_LEAK_HS_FAIL GL_LEAK_HS_TIMEOUT || bad GL_LEAK_LS_FAIL GL_LEAK_LS_TIMEOUT then
        (s.irq k 13).raise (0x0A0 + leg) 0x0A 2
      else s
    else s)

/-! ### Isolation switches (R308) -/

/-- CMD.CLOSE accepted: closing with the permit, denied without; ignored out of OPEN or with the page not enabled. -/
def State.isCloseCmd (s : State) (k : Nat) : State :=
  if s.sw k = 0 ∧ s.st (pkIs k) = .idle then
    if s.bit (pkIs k) IS_STAT_PERMIT then s.swClose k
    else (s.cntS (pkIs k) IS_CNT_DENIED).irq (pkIs k) 9
  else s

/-- CMD.OPEN accepted: a closed switch waits for its current, a closing one opens; ignored in OPEN, WAIT_I and OPENING. -/
def State.isOpenCmd (s : State) (k : Nat) : State :=
  if s.sw k = 2 then s.setSw k 3 else if s.sw k = 1 then s.setSw k 4 else s

/-- A write of IS.CMD: CLOSE is keyed (R318). -/
def State.isCmd (s : State) (who : Initiator) (k : Nat) (close opn : Bool) : State :=
  let ok := s.keyOk (pkIs k) who
  s.command (pkIs k) who (fun s =>
    if close && !ok then s.logClamp (pkIs k) 3 0x44
    else
      let s := if close then s.isCloseCmd k else s
      if opn then s.isOpenCmd k else s)

/-- R308: CMD.CLOSE written. -/
def execIsClose (who : Initiator) (phase : Nat) (s : State) : Result := .next (s.isCmd who phase true false)

/-- R308: CMD.OPEN written. -/
def execIsOpen (who : Initiator) (phase : Nat) (s : State) : Result := .next (s.isCmd who phase false true)

/-- R308: the close permit rises: with AUTO and the page enabled the switch starts closing. -/
def execPermitRise (phase : Nat) (s : State) : Result :=
  .next (if s.enable (bridgeOf phase) then
      let s1 := s.setBit (pkIs phase) IS_STAT_PERMIT true
      if !(s.bit (pkIs phase) IS_STAT_PERMIT) && s1.bit (pkIs phase) IS_CFG_AUTO then s1.swClose phase else s1
    else s)

/-- R308: the close permit falls: the switch opens without waiting for current. -/
def execPermitWithdrawn (phase : Nat) (s : State) : Result := .next (s.dropPermit phase)

/-- R308: readback on ends CLOSING in CLOSED. -/
def execIsolationClosed (phase : Nat) (s : State) : Result :=
  .next (if s.sw phase = 1 then (s.setSw phase 2).irq (pkIs phase) 8 else s)

/-- R308: readback off ends OPENING in OPEN. -/
def execIsolationOpened (phase : Nat) (s : State) : Result :=
  .next (if s.sw phase = 4 then s.setSw phase 0 else s)

/-- R308: 5 µs in CLOSING without readback on. -/
def execCloseTimeout (phase : Nat) (s : State) : Result :=
  .next (if s.sw phase = 1 then ((s.setSw phase 4).cntS (pkIs phase) IS_CNT_FAILS).raise (0x0C0 + phase) 0x05 2 else s)

/-- R308: 1 µs in OPENING without readback off; the sink stays on. -/
def execOpenTimeout (phase : Nat) (s : State) : Result :=
  .next (if s.sw phase = 4 then s.raise (0x0C0 + phase) 0x05 3 else s)

/-- R308: OPEN_TMO in WAIT_I elapses: the switch opens under current. -/
def execOpenTmo (phase : Nat) (s : State) : Result :=
  .next (if s.sw phase = 3 then ((s.setSw phase 4).cntS (pkIs phase) IS_CNT_FORCED).irq (pkIs phase) 10 else s)

end Sys2Proof.Machine
end

