-- ==== Sys2Proof/Machine/IfaceCmd.lean ====
section
/-!
DEFINITION. Machine/IfaceCmd.lean: the commands of the vehicle interfaces, of the SPI poll (R183) and of the JTAG port (R598).
-/
namespace Sys2Proof.Machine

/-! ### CAN FD (R505-R507) -/

/-- R506, R505: a frame is received: its buffer, else the FIFO where the filter passes it. Frames in FD format are received only
with FD_EN. -/
def execCanFrameReceived (ctl : Nat) (id flags : Word) (dlc : Nat) (data : List Word) (filter : Bool) (s : State) : Result :=
  .next (if !(s.canOnBus ctl) || (bitN flags.toNat 2 && !(s.bit (pkCan ctl) CAN_CFG_FD_EN)) then s
    else
      let rec' := s.fld (pkCan ctl) CAN_STAT_REC
      let s := s.setFld (pkCan ctl) CAN_STAT_REC (rec' - 1)
      match canBuffers.find? (fun n => s.mbMatches ctl n id) with
      | some n => s.mbStore ctl n id flags (dlc % 16) data
      | none => if filter then s.fifoStore ctl (canWindow id flags (dlc % 16) data) else s)

/-- R506: the waiting frame of highest priority is sent. -/
def execCanTransmit (ctl : Nat) (s : State) : Result :=
  .next (match s.canNext ctl with
    | none => s
    | some n =>
      if s.canOnBus ctl then
        let c := s.mbWord ctl n 2
        let w := canWindow (s.word (pkCan ctl) (mbF n 0)) (BitVec.ofNat 32 (2 * bitsN c 2 1)) (bitsN c 19 16)
          ((List.range 16).map (fun i => s.word (pkCan ctl) (mbF n (3 + i))))
        ((s.setCan ctl { s.canOf ctl with sent := w }).setBit (pkCan ctl) ⟨0x408 + 96 * n, 0, 1⟩ false).setFld (pkCan ctl)
          CAN_STAT_TEC (s.fld (pkCan ctl) CAN_STAT_TEC - 1)
      else s)

/-- R506: bus-off, with the error counters as they then stand. -/
def execBusOff (ctl : Nat) (tec rec : BitVec 8) (s : State) : Result :=
  .next (if s.canOnBus ctl then
      let pk := pkCan ctl
      let s := ((s.setFld pk CAN_STAT_TEC tec.toNat).setFld pk CAN_STAT_REC rec.toNat).setBit pk CAN_STAT_BUS_OFF true
      ((s.setBit pk CAN_STAT_PASSIVE true).setBit pk CAN_STAT_SYNCED false).raise (0x200 + ctl) 0x0B 1
    else s)

/-- R506: the recovery sequence is complete: the controller rejoins with AUTO_REC or after RECOVER. -/
def execBusRecovery (ctl : Nat) (s : State) : Result :=
  let pk := pkCan ctl
  .next (if s.bit pk CAN_STAT_BUS_OFF && s.busy pk && (s.bit pk CAN_CFG_AUTO_REC || (s.canOf ctl).recovering) then
      let s := s.setCan ctl { s.canOf ctl with recovering := false }
      (((s.setFld pk CAN_STAT_TEC 0).setFld pk CAN_STAT_REC 0).setBit pk CAN_STAT_BUS_OFF false).setBit pk CAN_STAT_PASSIVE false
        |>.setBit pk CAN_STAT_SYNCED true
    else s)

/-- R506: CTRL.RECOVER. -/
def execRecover (who : Initiator) (ctl : Nat) (s : State) : Result :=
  .next (s.command (pkCan ctl) who (fun s => s.canRecover ctl))

/-- R507: CTRL.ABORT_TX. -/
def execAbortTx (who : Initiator) (ctl : Nat) (s : State) : Result :=
  .next (s.command (pkCan ctl) who (fun s => s.canAbort ctl))

/-- R507: a read of FIFO_POP; the table states no value of it, so a free value is answered. -/
def execFifoPop (who : Initiator) (ctl : Nat) (s : State) : Result :=
  .next (((s.fifoPop ctl).answer (.data who (s.free 32))).drawn)

/-! ### SPI and the external host (R183, R508-R511) -/

/-- R183: LEAD before the base tick a channel in SPI mode has its controller poll the sensor. -/
def execSpiPoll (channel : Nat) (s : State) : Result :=
  let k := s.fld (pkSc channel) SC_FRAME_SRC
  .next (if s.scMode channel = 5 ∧ s.scAlive channel = true ∧ s.spiSends k = true then s.spiPut k (.poll channel) else s)

/-- R511: a write of TX. -/
def execSpiTransmit (who : Initiator) (ctl : Nat) (v : Word) (s : State) : Result :=
  .next (s.command (pkSpi ctl) who (fun s => s.spiTx ctl v))

/-- R508, R183: the frame under way completes; `rx` holds its bits in the order received, the last as bit 0. -/
def execSpiFrameDone (ctl : Nat) (rx : Word) (s : State) : Result :=
  let c := s.spiOf ctl
  let n := s.fld (pkSpi ctl) SPI_CFG_BITS
  let v := rx.toNat % 2 ^ n
  let good := spiCheck (s.fld (pkSpi ctl) SPI_CHK_V) n v
  let w := if s.bit (pkSpi ctl) SPI_CFG_LSB_FIRST then revBits n v else v
  .next (match c.jobs with
    | [] => s
    | j :: rest =>
      let s := (s.setSpi ctl { c with jobs := rest }).setWord (pkSpi ctl) SPI_RX (BitVec.ofNat 32 w)
      let s := s.when (!good) (fun s => s.cntS (pkSpi ctl) SPI_CNT_CHKERR)
      let s := match j with
        | .tx _ => s
        | .poll ch =>
          match (s.snd ch).frameTs with
          | none => s
          | some t =>
            let s := s.setSnd ch { s.snd ch with frameTs := none }
            if s.scMode ch != 5 || !(s.scAlive ch) then s
            else if good then s.absSample ch (s.frameField ch w) (s.frameStamp ch t)
            else s.scBadFrame ch
      s.spiBegin ctl)

/-- R509: a host frame with NOP: status and data alone. -/
def execHostNop (s : State) : Result := .next (if s.hostActive then s.hostReturn s.hostPort.access.isSome else s)

/-- R509, R510: a host frame with READ: the access starts, or the command is refused. -/
def execHostRead (addr : Word) (early : Bool) (s : State) : Result :=
  .next (if !s.hostActive then s
    else if early || s.hostPort.access.isSome then s.hostRefused
    else
      let s := s.hostReturn false
      { s with hostPort := { s.hostPort with access := some (addr &&& 0xFFFFFFFC#32, none) } })

/-- R509, R510: a host frame with WRITE: the access starts, or the command is refused BUSY, or with ERR in High water unless
HOST_WR is set. -/
def execHostWrite (addr data : Word) (early : Bool) (s : State) : Result :=
  .next (if !s.hostActive then s
    else if early || s.hostPort.access.isSome then s.hostRefused
    else
      let s := s.hostReturn false
      if s.inHigh && !(s.bit (pkSpi 5) SPI_CFG_HOST_WR) then { s with hostPort := { s.hostPort with err := true } }
      else { s with hostPort := { s.hostPort with access := some (addr &&& 0xFFFFFFFC#32, some data) } })

/-! ### SENT (R512, R513) -/

/-- R512, R183: a message arrives: decoded, or discarded and counted. `timing` says whether calibration and nibble lengths
were within limits. -/
def execSentFrame (input : Nat) (status : BitVec 4) (data : BitVec 24) (crc : BitVec 4) (timing : Bool) (ts : Word)
    (s : State) : Result :=
  let pk := pkSent input
  .next (if !(s.busy pk) then s
    else if !timing || sentCrc (s.bit pk SENT_CFG_CRC) (nibblesOf 6 data.toNat) != crc.toNat then s.cntS pk SENT_ERR_N
    else
      let s := ((s.setFld pk SENT_FAST_STATUS status.toNat).setFld pk SENT_FAST_DATA data.toNat).setWord pk SENT_FAST_TS ts
      let s := s.when (s.bit pk SENT_CFG_SSM_EN) (fun s => s.sentSerial input status)
      forN 12 (fun ch s =>
        if s.scMode ch = 4 ∧ s.scAlive ch = true ∧ s.fld (pkSc ch) SC_FRAME_SRC = input then s.sentSample ch data ts else s) s)

/-- R512: no valid frame for TO ms. -/
def execSentTimeout (input : Nat) (s : State) : Result :=
  .next (if s.running (pkSent input) then s.raise (0x20A + input) 0x05 1 else s)

/-! ### SAR converters (R514, R515) -/

/-- R515: CTRL.START. -/
def execSarStart (who : Initiator) (conv : Nat) (s : State) : Result :=
  .next (s.command (pkGa conv) who (fun s => s.sarTrig conv 0))

/-- R514: a trigger: 1 base tick, 2 precise boundary, 3 continuous. -/
def execSarTrigger (conv source : Nat) (s : State) : Result :=
  .next (if source = 0 then s else s.sarTrig conv source)

/-- R514, R515: the conversion under way completes. -/
def execSarConversion (conv : Nat) (code : BitVec 12) (above : Bool) (s : State) : Result :=
  let pk := pkGa conv
  .next (match (s.sarOf conv).next with
    | none => s
    | some i =>
      let v := (s.word (pkCe 0) CE_TICKNO).toNat % 65536 * 65536 + 8192 * b2n above + (if above then 4095 else code.toNat)
      (s.setWord pk (GA_RES.ix i) (BitVec.ofNat 32 v)).setSar conv
        { next := if i = s.fld pk GA_CFG_LAST then none else some (i + 1) })

/-! ### Sensor supplies (R517, R518) -/

/-- R517: an output outside its window for 1 ms. -/
def execSupplyOutOfWindow (supply : Nat) (limiting : Bool) (s : State) : Result :=
  .next (if s.supplyOn supply then
      (s.setSupply supply { s.supply supply with oow := true, ilim := limiting }).raise (0x214 + supply) 0x06 1
    else s)

/-- R517: thermal shutdown. -/
def execThermalShutdown (supply : Nat) (s : State) : Result :=
  .next (if s.supplyOn supply then (s.setSupply supply { s.supply supply with tsd := true }).raise (0x214 + supply) 0x06 1 else s)

/-- R517, R518: SS_CTRL written; without effect in Slack water. -/
def execSensorSupplyEnable (who : Initiator) (v : Word) (s : State) : Result :=
  .next (if s.pw.tide = .slack then s
    else
      let (s1, w) := s.regWrite who pkSup 0x058 v
      match w with
      | some _ => s1.ssWritten v
      | none => s1)

/-! ### JTAG (R598) -/

/-- R598: the BYPASS instruction. -/
def execJtagBypass (s : State) : Result := .next { s with jtag := { s.jtag with ir := .bypass, driven := [] } }

/-- R598: SAMPLE/PRELOAD: the cells are preloaded. -/
def execJtagSamplePreload (cells : List (Ball × Bool)) (s : State) : Result :=
  .next { s with jtag := { s.jtag with ir := .samplePreload, preload := cells, driven := [] } }

/-- The boundary-scan cells that are not observe-only (R598). -/
def drivable : Ball → Bool
  | .other _ => true
  | _ => false

/-- R598: EXTEST in Dry dock drives the cells that may be driven; in any other power state it is BYPASS. -/
def execJtagExtest (s : State) : Result :=
  .next (if s.pw.tide = .dryDock then
      { s with jtag := { s.jtag with ir := .extest, driven := s.jtag.preload.filter (fun x => drivable x.1) } }
    else { s with jtag := { s.jtag with ir := .bypass, driven := [] } })

/-- R598: the IDCODE. -/
def execJtagIdcode (s : State) : Result :=
  .next { s with jtag := { s.jtag with ir := .idcode, driven := [], id := 0x1A330B2D#32 } }

end Sys2Proof.Machine
end

