-- ==== Sys2Proof/Machine/MauloCmd.lean ====
section
/-!
DEFINITION. Machine/MauloCmd.lean: the commands of the Maulo bus: links, frames, slots, cycles, the node's time states and the
commit of a berth (R448-R504).
-/
namespace Sys2Proof.Machine

/-- A channel page is up: in IDLE, RUN or DRAIN, with a port enabled. -/
def State.chanUp (s : State) (c : Nat) : Bool :=
  (s.st (pkMa c) == .idle || s.st (pkMa c) == .run || s.st (pkMa c) == .drain) && s.fld (pkMa c) MA_CFG_PORTS != 0

/-- Both channel pages have left RUN and IDLE: LISTEN is held (R474). -/
def State.listenHeld (s : State) : Bool :=
  [0, 1].all (fun c => s.st (pkMa c) != .idle && s.st (pkMa c) != .run)

/-- A port takes frames. -/
def State.portTakes (s : State) (p : Nat) : Bool := decide (p < 4) && s.linkUp p && s.chanUp (p / 2)

/-- Tidemark in 1/16 ns. -/
def State.tm16 (s : State) : Int := (s.ma.tm / 2 ^ 28 : Nat)

/-- A frame goes on out of the channel's other port (R450, R489). -/
def State.forward (s : State) (p : Nat) (fcs : FrameCheck) (l : List Byte) : State :=
  let q := if p % 2 = 0 then p + 1 else p - 1
  if s.portTakes q then s.setMa { s.ma with fwd := tput s.ma.fwd q (fcs, l) } else s

/-! ### Links (R449, R467) -/

/-- R449: a link comes up on an enabled port, with the role of the active bank's SCHED.ROLE. -/
def execLinkUp (port sqi : Nat) (s : State) : Result :=
  .next (if 4 ≤ port ∨ s.portOn port = false ∨ (s.st (pkPort port) ≠ .idle ∧ s.st (pkPort port) ≠ .run) then s
    else
      let k := pkPort port
      let s := ((s.setBit k PORT_STAT_LINK true).setBit k PORT_STAT_ROLE (bitN (s.fld pkMs MS_SCHED_ROLE) port)).setFld k PORT_STAT_SQI sqi
      (s.ldRestart port).irq k 8)

/-- R467: a link is lost: kind 0x0B at level 1 on a port that CFG.PORTS enables. -/
def execLinkLoss (port : Nat) (s : State) : Result :=
  .next (if 4 ≤ port ∨ s.bit (pkPort port) PORT_STAT_LINK = false then s
    else
      let k := pkPort port
      let on := s.portOn port
      let s := (s.setBit k PORT_STAT_LINK false).cntS k PORT_STAT_LINK_LOSS
      let s := s.setMport port { s.mport port with leadSeen := false }
      ((s.ldRestart port).irq k 8).when on (fun s => s.raise (0x1A2 + port) 0x0B 1))

/-! ### DATA frames (R450, R451, R457, R499) -/

/-- The fourth test of R457: a header that disagrees with its window. -/
def State.hdrMismatch (s : State) (c : Nat) : State := (s.rxErr c MA_RX_ERR_HDR).raise (0x1A0 + c) 0x06 0

/-- A DATA frame of an accepted window passed its FCS: the tests of R457 from the second. -/
def State.rxData (s : State) (c k sender : Nat) (l : List Byte) : State :=
  let h := parseHdr l
  let key := 64 * c + k
  if !s.hdrFits l then s.rxErr c MA_RX_ERR_HDR
  else if h.typ ≠ 0 ∨ h.ch ≠ c ∨ h.slot ≠ k ∨ h.sender ≠ sender ∨ h.cycle ≠ s.maCycle ∨ l.length + 4 ≠ (s.slotOf c k).len then
    s.hdrMismatch c
  else if s.bit (pkMa c) MA_CFG_RING && s.ma.accepted.contains key then s.cntW (pkMa c) MA_RX_DUP
  else
    let src := s.contentOf c k
    let s := s.setMa { s.ma with accepted := s.ma.accepted ++ [key] }
    let fresh := ((s.setWord (pkMa c) MA_RX_ERR 0#32).setWord (pkMa c) MA_SEQ 0#32).rxPdus c src.1 src.2 h true l h.npdu 26
    let ok := s.running (pkMa c) == false || (fresh.word (pkMa c) MA_RX_ERR == 0#32 && fresh.fld (pkMa c) MA_SEQ_BACK == 0)
    let m := s.ma
    let s := s.setMa { m with
      heard := tput m.heard h.sender s.maCycle
      reqSeen := m.reqSeen || h.planReq
      healthy := if h.health && !(m.healthy.contains h.sender) then m.healthy ++ [h.sender] else m.healthy }
    let s := if ok then s.cntW (pkMa c) MA_RX_OK else s
    if s.running (pkMa c) then s.rxPdus c src.1 src.2 h true l h.npdu 26 else s

/-- R457: a received DATA frame is judged by its window, then test by test; its PDUs go to their berths. -/
def execDataFrame (port : Nat) (stamp : Int) (fcs : FrameCheck) (bytes : List Byte) (s : State) : Result :=
  .next (
    let c := port / 2
    if !s.portTakes port then s
    else if s.timeState = 0 then s.forward port fcs bytes
    else match s.window port stamp with
      | .outside => s.fwdDrop c
      | .edge sender late => s.edgeFrame c sender late
      | .slot k sender =>
        let s := s.forward port fcs bytes
        match fcs with
        | .good => s.rxData c k sender bytes
        | .bad =>
          let src := s.contentOf c k
          let s := s.rxErr c MA_RX_ERR_FCS
          let h := parseHdr bytes
          if s.running (pkMa c) then s.rxPdus c src.1 src.2 h false bytes h.npdu 26 else s)

/-! ### SYNC and START frames (R474-R477, R482, R483, R485) -/

/-- The tests of a SYNC or START frame after its FCS (R457, R477): its rank where it passes. -/
def State.timeFrameRank (s : State) (c typ : Nat) (l : List Byte) : Option Nat :=
  let h := parseHdr l
  let rank := beAt l 34 1
  if s.hdrFits l && h.typ == typ && h.ch == c && h.slot == 0 && h.npdu == 0 && l.length == 60 && s.csRank h.sender == some rank
    && h.sender != s.nodeId then some rank
  else none

/-- The window of entry 0 for one sender (R487). -/
def State.syncWindow (s : State) (p sender : Nat) (stamp : Int) : Win :=
  if (s.slotOf (p / 2) 0).en then s.winOf p 0 sender (stamp - s.ma.cycStart) else .outside

/-- A valid SYNC or START in its slot-0 window, in INTEGRATE, ACTIVE or HOLDOVER. -/
def State.syncValid (s : State) (p : Nat) (stamp : Int) (h : MHdr) (rank cs : Nat) : State :=
  let c := p / 2
  let first := !s.ma.synced
  let s := s.rxGood c h
  let s := ((s.setBit (pkMa c) MA_STAT_SYNCED true).setFld (pkMa c) MA_STAT_MISS 0).showReq
  let s := ((s.setFld pkMs MS_TSTAT_MISS 0).setWord pkMs MS_PH_START (BitVec.ofNat 32 cs)).setMa { s.ma with synced := true }
  let s := if first then (s.setPlan h.plan).follow h.sender rank false else s
  let s := if s.timeState = 4 then s.setTime 3 else s
  if first then
    match s.path p h.sender with
    | some d => s.correct stamp cs d
    | none => s
  else s

/-- A good SYNC or START frame in INTEGRATE, ACTIVE or HOLDOVER, inside some window. The second copy of a cycle in a ring is a
duplicate (R451); a SYNC in the cycle of a load from a START loads again (R490). -/
def State.rxSlot0 (s : State) (p typ : Nat) (stamp : Int) (h : MHdr) (rank cs : Nat) : State :=
  let c := p / 2
  let x := s.mport p
  if s.timeState = 2 ∧ s.ma.startLoad = true ∧ typ = 1 ∧ (x.leadSeen = true ∨ x.neigh = some h.sender) then
    ((s.rxGood c h).loadTime p stamp cs h rank).setMa { ((s.rxGood c h).loadTime p stamp cs h rank).ma with startLoad := false }
  else match s.syncWindow p h.sender stamp with
    | .outside => s.fwdDrop c
    | .edge sender late => s.edgeFrame c sender late
    | .slot _ _ =>
      if s.pierHead then
        let own := match s.csRank s.nodeId with | some r => r | none => 4
        if typ = 1 ∧ rank < own then ((s.rxGood c h).raise timeSource 0x06 0).setTime 0 else s
      else if s.bit (pkMa c) MA_CFG_RING && s.bit (pkMa c) MA_STAT_SYNCED then s.cntW (pkMa c) MA_RX_DUP
      else s.syncValid p stamp h rank cs

/-- What a good SYNC or START frame does (R474, R476, R490). -/
def State.rxTime (s : State) (p typ : Nat) (stamp : Int) (l : List Byte) : State :=
  let c := p / 2
  let h := parseHdr l
  let cs := beAt l 26 8
  match s.timeFrameRank c typ l with
  | none => s.rxErr c MA_RX_ERR_HDR
  | some rank =>
    match s.timeState with
    | 0 =>
      let x := s.mport p
      if s.listenHeld then s
      else if x.leadSeen || x.neigh == some h.sender then
        let s := (s.rxGood c h).loadTime p stamp cs h rank
        s.setMa { s.ma with startLoad := decide (typ = 2) }
      else s.rxGood c h
    | 1 =>
      let own := match s.csRank s.nodeId with | some r => r | none => 4
      if typ = 1 ∨ rank < own ∨ (rank = own ∧ h.sender < s.nodeId) then (s.rxGood c h).abandonStart else s
    | _ => s.rxSlot0 p typ stamp h rank cs

/-- A SYNC or START frame with its FCS: without time, in LISTEN, every frame goes on; a node with time judges it by its windows
first, but in COLDSTART takes a START or SYNC wherever it falls (R450, R476, R487, R489). -/
def State.timeFrame (s : State) (p typ : Nat) (stamp : Int) (fcs : FrameCheck) (l : List Byte) : State :=
  let judge (s : State) : State := match fcs with
    | .good => s.rxTime p typ stamp l
    | .bad => s.rxErr (p / 2) MA_RX_ERR_FCS
  if !s.portTakes p then s
  else if s.timeState = 0 then judge (s.forward p fcs l)
  else match s.window p stamp with
    | .slot _ _ => judge (s.forward p fcs l)
    | .edge sender late => if s.timeState = 1 then judge s else s.edgeFrame (p / 2) sender late
    | .outside => if s.timeState = 1 then judge s else s.fwdDrop (p / 2)

/-- R482: a valid SYNC corrects Tidemark, sets the cycle's plan, loads TM in LISTEN, ends a cold start. -/
def execSyncFrame (port : Nat) (stamp : Int) (fcs : FrameCheck) (bytes : List Byte) (s : State) : Result :=
  .next (s.timeFrame port 1 stamp fcs bytes)

/-- R476: a START frame is taken for loading or correcting, or makes a cold-starting node abandon. -/
def execStartFrame (port : Nat) (stamp : Int) (fcs : FrameCheck) (bytes : List Byte) (s : State) : Result :=
  .next (s.timeFrame port 2 stamp fcs bytes)

/-! ### LEAD frames (R478-R481) -/

/-- A LEAD frame starts within the lead-line slot widened by 1.5 µs on each side. -/
def State.inLeadSlot (s : State) (stamp : Int) : Bool :=
  let rel := stamp - s.ma.cycStart
  let cyc : Int := 16000 * s.cycleUs
  decide (cyc - 344000 ≤ rel ∧ rel ≤ cyc + 24000) || decide (rel ≤ 24000 ∧ -344000 ≤ rel)

/-- Store or forget a delay. -/
def farPut (far : List (Nat × Nat)) (n v : Nat) : List (Nat × Nat) :=
  if v = 0xFFFFFFFF then tdel far n else tput far n v

/-- A good LEAD frame (R479-R481). -/
def State.rxLead (s : State) (p : Nat) (stamp : Int) (l : List Byte) : State :=
  let h := parseHdr l
  let x := s.mport p
  let phid := beAt l 34 1
  let phd := beAt l 30 4
  let kind := beAt l 35 1 % 4
  let blk := beAt l 36 1 % 4
  let changed := match x.neigh with | some n => n != h.sender | none => false
  let far := (List.range 8).foldl (fun f i => farPut f (8 * blk + i) (beAt l (38 + 4 * i) 4)) (if changed then [] else x.far)
  let far := if bitN phid 7 then farPut far (phid % 32) phd else far
  let s := s.rxGood (p / 2) h
  let s := s.setMport p { x with
    neigh := some h.sender
    phDelay := if bitN phid 7 && phd != 0xFFFFFFFF then some phd else none
    phId := if bitN phid 7 then some (phid % 32) else none
    far := far
    leadSeen := true }
  let s := if changed then s.ldRestart p else s
  let s :=
    if s.portMaster p then
      match kind, x.t1 with
      | 1, some t1 => (s.setMport p { s.mport p with t1 := none }).ldMeasure p (rneDivI (stamp - t1 - 144000) 2)
      | _, _ => s
    else if kind = 0 then
      let ld := beAt l 26 4
      (s.setMport p { s.mport p with t2 := some stamp }).setLd p (if ld = 0xFFFFFFFF then none else some ld)
    else s
  s.showPaths p

/-- R478: a LEAD frame is received and used for the link and path delays. -/
def execLeadFrame (port : Nat) (stamp : Int) (fcs : FrameCheck) (bytes : List Byte) (s : State) : Result :=
  .next (
    let c := port / 2
    if !s.portTakes port then s
    else if s.timeState != 0 && !s.inLeadSlot stamp then s.fwdDrop c
    else
      let s := if s.timeState = 0 then s.forward port fcs bytes else s
      match fcs with
      | .bad => s.rxErr c MA_RX_ERR_FCS
      | .good =>
        let h := parseHdr bytes
        if s.hdrFits bytes && h.typ == 3 && h.ch == c && h.npdu == 0 && bytes.length == 76 then s.rxLead port stamp bytes
        else s.rxErr c MA_RX_ERR_HDR)

/-- R478: in the lead-line slot every master port with its link up sends REQ. -/
def execLeadSlot (t : Int) (s : State) : Result :=
  .next (if s.timeState = 0 then s
    else forN 4 (fun p s =>
      if s.portTakes p && s.portMaster p then (s.setMport p { s.mport p with t1 := some t }).sendLead p 0 else s) s)

/-- R478: 9 µs after the REQ of this slot a slave port sends RESP. -/
def execLeadResponse (port : Nat) (s : State) : Result :=
  .next (if s.portTakes port && !s.portMaster port && s.timeState != 0 && (s.mport port).t2.isSome then
      (s.setMport port { s.mport port with t2 := none }).sendLead port 1
    else s)

/-- R478: a slave port that has received no REQ sends NOTICE. -/
def execLeadNotice (port : Nat) (s : State) : Result :=
  .next (if s.portTakes port && !s.portMaster port && s.timeState != 0 && (s.mport port).t2.isNone then s.sendLead port 2 else s)

/-! ### Sending (R451, R475, R488) -/

/-- A frame of slot `e` may start: this node owns the slot and its time state sends in it (R474, R488). -/
def State.mayStart (s : State) (c e : Nat) : Bool :=
  let x := s.slotOf c e
  if e = 0 then x.en && ((s.timeState == 3 && s.pierHead) || s.timeState == 1)
  else x.en && x.sender == s.nodeId && s.running (pkMa c) && (s.timeState == 3 || s.timeState == 4)

/-- R451, R488: the guardian starts the frame of an owned slot at its start, or refuses it. -/
def execSlotStart (channel entry len : Nat) (t : Int) (s : State) : Result :=
  .next (
    let x := s.slotOf channel entry
    let rel := t - s.ma.cycStart
    if 2 ≤ channel ∨ 64 ≤ entry ∨ s.chanUp channel = false then s
    else if s.mayStart channel entry && decide (x.len = len) && decide ((x.start * 1600 : Nat) ≤ rel ∧ rel ≤ (x.start * 1600 + 1600 : Nat)) then
      if entry = 0 then
        if s.timeState = 1 then (s.setMa { s.ma with starts := s.maCycle.toNat + 1 }).sendTime 2 channel t
        else (s.sendTime 1 channel t).setWord pkMs MS_PH_START (BitVec.ofNat 32 (t / 16).toNat)
      else s.sendData channel entry
    else (s.cntS (pkMa channel) MA_TGUARD_N).raise (0x1A8 + channel) 0x12 1)

/-! ### Cycles (R463-R465, R474, R482, R485) -/

/-- The slot-0 windows of every channel that is up have closed: a cycle without SYNC is judged (R453, R474). -/
def State.allClosed (s : State) : State :=
  let up := [0, 1].filter (fun c => s.chanUp c)
  let both := up.length == 2 && up.all (fun c => s.bit (pkMa c) MA_STAT_SYNCED)
  let s := s.setMa { s.ma with both := if both then min 64 (s.ma.both + 1) else 0 }
  if up.any (fun c => s.bit (pkMa c) MA_STAT_SYNCED) then s
  else
    let s := s.cntS pkMs MS_TSTAT_MISS
    if s.timeState = 3 then s.setTime 4
    else if s.timeState = 2 ∧ 2 ≤ s.fld pkMs MS_TSTAT_MISS then s.setTime 0
    else s

/-- R463: a channel's slot-0 window closes: a SYNC not received is a miss; the second in a row is the loss of the channel. -/
def execSyncWindowClose (channel : Nat) (s : State) : Result :=
  .next (if 2 ≤ channel ∨ s.chanUp channel = false ∨ s.timeState < 2 ∨ s.pierHead = true ∨ s.ma.closed.contains channel = true then s
    else
      let k := pkMa channel
      let s := s.setMa { s.ma with closed := s.ma.closed ++ [channel] }
      let s := if s.bit k MA_STAT_SYNCED then s
        else
          let s := s.cntS k MA_STAT_MISS
          if s.fld k MA_STAT_MISS = 2 then (s.showReq.irq k 9).raise (0x1A0 + channel) 0x0B 1 else s.showReq
      if [0, 1].all (fun c => !s.chanUp c || s.ma.closed.contains c) then s.allClosed else s)

/-- The pier head's decision on the plan (R463, R465). -/
def State.decidePlan (s : State) : State :=
  let m := s.ma
  let senders := (List.range 128).filterMap (fun i =>
    let x := s.slotIn (s.page pkMs).activeB (2 + i / 64) (i % 64)
    if x.en && i % 64 != 0 && x.sender != s.nodeId then some x.sender else none)
  let back := s.planSingle && !m.reqSeen
  if m.reqSeen || s.planReq then s.setPlan true
  else if back && s.bit pkMs MS_SCHED_AUTO_RETURN && senders.all (fun n => m.healthy.contains n) then s.setPlan false
  else if back && m.returnReq then s.setPlan false
  else s

/-- R463, R464: a cycle ends: a due schedule swap first, then the pier head's decision; the counts of the new cycle. -/
def execCycleBoundary (s : State) : Result :=
  .next (
    let s := { s with berths := s.berths.map (fun x => (x.1, x.2.tick)) }
    let pend := (s.page pkMs).swapPending
    let idle := !(s.running (pkMa 0)) && !(s.running (pkMa 1))
    if s.timeState = 0 then (if pend then s.scheduleSwap else s)
    else
      let old := s.cycleUs
      let next := s.maCycle + 1#32
      let s := if pend && (idle || next == s.word pkMs MS_SWAP_AT) then
          s.scheduleSwap.setMa { s.scheduleSwap.ma with slew := 0, slewLeft := 0 }
        else s
      let s := s.setWord pkMs MS_CYCLE next
      let s := s.setMa { s.ma with cycStart := s.ma.cycStart + 16000 * old }
      let s := if s.pierHead then s.decidePlan else s
      let s := if s.ma.cleanNow then s else s.setFld pkMs MS_TSTAT_CLEAN 0
      let s := if s.timeState = 2 then
          if 8 ≤ s.fld pkMs MS_TSTAT_CLEAN then s.setTime 3 else s
        else if s.timeState = 1 ∧ 3 ≤ s.ma.starts then
          (s.follow s.nodeId (match s.csRank s.nodeId with | some r => r | none => 0) true).setTime 3
        else s
      let s := forL [0, 1] (fun c s => s.setBit (pkMa c) MA_STAT_SYNCED false) s
      let s := forN 4 (fun p s => s.setMport p { s.mport p with t2 := none, leadSeen := false }) s
      let s := s.setMa { s.ma with
        startLoad := false, synced := false, cleanNow := false, closed := [], reqSeen := false, healthy := [], returnReq := false, accepted := [] }
      { s with app := (List.range 4).map (fun k => (k, let a := tget {} s.app k; { a with pulses := a.pulses ||| 0x20000#32 })) })

/-- R482: a slew ends after its n BUS cycles. -/
def execSlewEnd (s : State) : Result := .next (s.setMa { s.ma with slew := 0, slewLeft := 0 })

/-- MS.CTRL.RETURN is ignored except at the pier head (R470). -/
def State.msReturn (s : State) : State := if s.pierHead then s.setMa { s.ma with returnReq := true } else s

/-- R463: CTRL.RETURN at the pier head. -/
def execReturn (who : Initiator) (s : State) : Result := .next ((s.keyTaken pkMs who).msReturn)

/-- R475: the listen time of a cold-start node ends without SYNC or START: a cold start. -/
def execListenTimeout (s : State) : Result :=
  .next (if s.timeState = 0 ∧ (s.csRank s.nodeId).isSome ∧ s.listenHeld = false ∧ (List.range 4).any (fun p => s.linkUp p) = true then
      let t := s.tm16
      let s := (s.setTime 1).setWord pkMs MS_CYCLE 0#32
      let s := s.setMa { s.ma with cycStart := t, starts := 1, slew := 0, slewLeft := 0, synced := false, closed := [] }
      forL [0, 1] (fun c s => if s.chanUp c then s.sendTime 2 c t else s) s
    else s)

/-- R474: HOLD cycles have passed since the last valid SYNC. -/
def execHoldoverEnd (s : State) : Result :=
  .next (if s.timeState = 4 ∧ s.fld pkMs MS_TIME_CFG_HOLD ≤ s.fld pkMs MS_TSTAT_MISS then
      ((s.cntS pkMs MS_TCNT_HOLDOVERS).raise timeSource 0x0B 1).setTime 0
    else s)

/-- The cold-start nodes that go before this one (R485). -/
def State.betterRanked (s : State) (own : Nat) : Nat :=
  ((List.range 32).filter (fun n =>
    (match s.csRank n with | some r => decide (r < own) | none => false) && n != s.fld pkMs MS_TSTAT_PH_ID
      && tmem s.ma.heard n && decide ((s.maCycle - tget 0#32 s.ma.heard n).toNat ≤ 8))).length

/-- R485: a cold-start node takes over after 4 + b cycles without SYNC. -/
def execPierHeadTakeover (s : State) : Result :=
  .next (match s.csRank s.nodeId with
    | some own =>
      if (s.timeState = 3 ∨ s.timeState = 4) ∧ s.pierHead = false ∧ 4 + s.betterRanked own ≤ s.fld pkMs MS_TSTAT_MISS then
        let s := ((s.cntS pkMs MS_TCNT_TAKEOVERS).follow s.nodeId own true).setTime 3
        (forL [0, 1] (fun c s => s.setFld (pkMa c) MA_STAT_MISS 0) (s.setFld pkMs MS_TSTAT_MISS 0)).showReq
      else s
    | none => s)

/-! ### Berths (R498, R503) -/

/-- A berth index written to BTH.COMMIT. -/
def State.commit (s : State) (n : Nat) : State :=
  let w := s.berth0 n
  if fget BTH_BERTH0_EN w = 1 ∧ fget BTH_BERTH0_DIR w = 1 then
    let b := s.berth n
    let s := if b.fresh then (s.cntS pkBth BTH_OVW_N).setFld pkBth BTH_OVW_LAST n else s
    s.setBerth n { b.complete with fresh := true }
  else s.logClamp pkBth 0 0x040

/-- R498: BTH.COMMIT completes the fill buffer of a transmit berth. -/
def execCommit (who : Initiator) (berth : Nat) (s : State) : Result := .next ((s.keyTaken pkBth who).commit (berth % 256))

end Sys2Proof.Machine
end

