-- ==== Sys2Proof/Machine/Power.lean ====
section
/-!
DEFINITION. Machine/Power.lean: resets, tides, Ebb saves and their restore (R56, R75-R80, R103-R113).
-/
namespace Sys2Proof.Machine

def State.setPw (s : State) (f : Power → Power) : State := { s with pw := f s.pw }

/-! ### What survives a reset (R56, R94, R125) -/

/-- Copy a page's register from one state into another. -/
def State.copyReg (s old : State) (k : Nat) (f : Field) : State := s.setReg k f.off (old.reg k f.off)

/-- An address of MRAM (R35). -/
def isMram (a : Nat) : Bool := decide (0x10000000 ≤ a ∧ a < 0x11800000)
/-- An address of the swell tables (R35). -/
def isSwell (a : Nat) : Bool := decide (0x33000000 ≤ a ∧ a < 0x33018000)

/-- The state of reset with what every reset keeps: the commands waiting, the model's own counters, MRAM, the saves in it and
the fuses. Accesses under way are abandoned (R614). -/
def State.fresh (s : State) : State :=
  let t : State := { pending := s.pending, cyc := s.cyc, freeCnt := s.freeCnt, mem := s.mem.filter (fun c => isMram c.1)
                     reply := .abandoned
                     boot := { saveA := s.boot.saveA, saveB := s.boot.saveB }
                     pw := { floodStart := s.cyc, stbFrom := s.cyc } }
  t.copyReg s pkSec SEC_ROLLBACK

/-- What the always-on domain keeps: its page, the counters of SC10 and SC11, the supply page's AON registers, its flags. -/
def State.keepAon (t s : State) : State :=
  let t := t.setPage pkAon (s.page pkAon)
  let t := ((t.copyReg s pkSup SUP_VSUP_MEAS).copyReg s pkSup SUP_BO_COUNT).copyReg s pkSup SUP_RST_CAUSE
  { t with aonCnt := s.aonCnt
           sea := { t.sea with aonHard := s.sea.aonHard }
           pw := { t.pw with vsupStart := s.pw.vsupStart, drydockNext := s.pw.drydockNext, ebbFault := s.pw.ebbFault
                             xtalLossNote := s.pw.xtalLossNote, extLow := s.pw.extLow } }

/-! ### POR (R56, R109) -/

/-- The monitor source of a rail (R103). -/
def railSource : Rail → Nat
  | .vaon => 0x000 | .vpre => 0x002 | .vcore => 0x003 | .vio18 => 0x004 | .vio33 => 0x005 | .vgd => 0x006 | .vsw => 0x007

/-- A power-on reset. VSUP_POR takes the AON domain with it and holds the unit unpowered; a rail loss keeps the AON domain, and
Flood starts. -/
def State.por (s : State) (c : PorCause) : State :=
  match c with
  | .vsup =>
    let t := s.fresh
    { t with pw := { t.pw with vsupLow := true, vsw := .off } }
  | .rail src =>
    let t := (s.fresh.keepAon s).setBit pkAon AON_WAKE_SRC_POR true
    (t.setBit pkSup SUP_RST_CAUSE_POR_RAIL true).setFld pkSup SUP_RST_CAUSE_LAST_RAIL (src % 256)

/-! ### UR (R56, R109, R110) -/

/-- The Seawall's state through a UR: a hard cut stays; soft cuts, withdrawal and claim end; the manifest's values hold until
here (R405, R415, R401). -/
def State.keepSeawall (t s : State) : State :=
  let t := t.setPage pkSea (s.page pkSea)
  let t := ((t.setBit pkSea SEAWALL_STAT_UNIT_SOFT false).setFld pkSea SEAWALL_STAT_SOFT 0).setBit pkSea SEAWALL_STAT_BOL_OUT false
  let t := (t.setBit pkSea SEAWALL_STAT_SEAL_OK false).setBit pkSea SEAWALL_STAT_CONFIRMED false
  let t := { t with sea := { aonHard := s.sea.aonHard, shoot := s.sea.shoot } }
  (if t.bit pkSea SEAWALL_STAT_HARD then forN 6 (fun m t => t.cutOnce m false) t else t).safeOutputs

/-- The Harbourmaster's frozen history and recovery count through a UR (R441, R442). -/
def State.keepHistory (t s : State) : State :=
  let t := t.setFld pkHm HM_STAT_UNIT_REC (s.fld pkHm HM_STAT_UNIT_REC)
  if s.bit pkHm HM_STAT_FROZEN then { t with hm := { t.hm with hist := s.hm.hist } }.setBit pkHm HM_STAT_FROZEN true else t

/-- Swell tables with their tags, guards and sums through a UR (R56). -/
def State.keepSwell (t s : State) : State :=
  let t := { t with mem := s.mem.filter (fun c => isMram c.1 || isSwell c.1)
                    swl := s.swl.map (fun x => (x.1, { x.2 with ef := 0#32, clearReq := false })) }
  forN 6 (fun k t => forN 4 (fun j t =>
    ((t.copyReg s (pkSw k) (SW_TBL_TAG.ix j 0x40)).setBit (pkSw k) (SW_TBL_STAT_GUARD.ix j 0x40) (s.swGuard k j)).copyReg s (pkSw k)
      (SW_TBL_RMS.ix j 0x40)) t) t

/-- Tidemark through a UR: counter and rate fraction (R56). -/
def State.keepTidemark (t s : State) : State := { t with ma := { tm := s.ma.tm } }.copyReg s pkMs MS_RATE

/-- Rails through a UR: they are left as they are, with their live state on the supply page (R109; log entry 38). -/
def State.keepRails (t s : State) : State :=
  let p := s.pw
  (t.setPw (fun q => { q with vsw := p.vsw, vpre := p.vpre, vio33 := p.vio33, vio18 := p.vio18, vcore := p.vcore, vgd := p.vgd
                              brownOut := p.brownOut })).copyReg s pkSup SUP_SUP_STAT

/-- WAKE_CAUSE after a UR (R91). -/
def urWakeCause : UrCause → Nat
  | .commissioning => 8 | .ebbWake => 9 | _ => 7

/-- The UR counts against the recovery limit (R441). -/
def urCounts : UrCause → Bool
  | .harbourmaster | .brownOut | .floodRestart => true
  | _ => false

/-- RST_CAUSE of a UR, and the count of EXT_RST_N resets (R109, R125, R128). -/
def State.urMark (s : State) : UrCause → State
  | .brownOut => s.setBit pkSup SUP_RST_CAUSE_UR_BO true
  | .external => (s.setBit pkSup SUP_RST_CAUSE_UR_EXT true).cntS pkSup SUP_BO_COUNT_EXT
  | .harbourmaster => s.setBit pkSup SUP_RST_CAUSE_UR_HM true
  | .debug => s.setBit pkSup SUP_RST_CAUSE_UR_DBG true
  | _ => s

/-- A unit recovery: a unit with authority is cut and released first (R110), then everything of the UR scope resets and Flood
restarts (R76). -/
def State.ur (s : State) (c : UrCause) : State :=
  let s := if s.holdsAuthority then forN 6 (fun m s => s.cutOnce m false) s.releaseBol else s
  let t := ((((s.fresh.keepAon s).keepSeawall s).keepHistory s).keepSwell s).keepTidemark s |>.keepRails s
  let t := { t with wg := { departures := s.wg.departures } }.setPw (fun p => { p with fromUr := true })
  let t := t.setFld pkWg WG_STAT_STATE (if s.wgState = 0 then 0 else 1)
  let t := (t.urMark c).setFld pkSys SYS_TIDE_STAT_WAKE_CAUSE (urWakeCause c)
  if urCounts c then t.setFld pkHm HM_STAT_UNIT_REC (satInc 15 (t.fld pkHm HM_STAT_UNIT_REC)) else t

/-- A UR requested and not ruled out: never in Slack water, in Ebb only the one that ends it (R77); the debug reset only in Dry
dock (R109). -/
def State.urDue (s : State) (c : UrCause) : Bool :=
  s.pw.tide != .slack && !s.pw.vsupLow && (s.pw.tide != .ebb || c == .ebbWake)
    && (s.pw.urReq.contains c || (c == .debug && s.pw.tide == .dryDock))

/-- A Flood step has failed: Flood restarts under the recovery counter, or the Seawall latches a hard cut (R76, R441). -/
def State.floodFails (s : State) : State :=
  if s.pw.tide != .flood then s
  else if s.sea.mf.hmLimit ≤ s.fld pkHm HM_STAT_UNIT_REC then s.hardCut 5
  else s.requestUr .floodRestart

/-! ### Ebb saves (R79, R193, R271) -/

/-- What an Ebb save stores; good once it is complete. -/
def State.saveImage (s : State) (seq : Nat) : Save :=
  { seq := seq, good := false
    swell := s.mem.filter (fun c => isSwell c.1)
    swellTags := (List.range 24).map (fun t => (t, s.fld (pkSw (t / 4)) (SW_TBL_TAG_V.ix (t % 4) 0x40) + 65536 * b2n (s.swGuard (t / 4) (t % 4))))
    positions := [10, 11].flatMap (fun k =>
      let x := s.snd k
      [(posKey k 0, x.pos), (posKey k 1, BitVec.ofNat 32 x.angle), (posKey k 2, x.rev), (posKey k 3, BitVec.ofNat 32 (b2n x.valid)),
       (posKey k 4, BitVec.ofNat 32 x.seq)])
    coefs := (List.range 18).flatMap (fun k =>
      [(4 * k, s.word (pkCs k) CS_OFFSET), (4 * k + 1, s.word (pkCs k) CS_GAIN), (4 * k + 2, BitVec.ofNat 32 (s.chan k).coefGain)]) }

/-- The area not written last takes the new save (R79): true for bank B. -/
def State.saveToB (s : State) : Bool :=
  match s.boot.saveA, s.boot.saveB with
  | some a, some b => decide (b.seq < a.seq)
  | some _, none => true
  | _, _ => false

/-- An Ebb save is begun. -/
def State.saveBegin (s : State) : State :=
  let q (x : Option Save) : Nat := match x with | some v => v.seq | none => 0
  let v := s.saveImage (max (q s.boot.saveA) (q s.boot.saveB) + 1)
  s.setBoot (fun t => if s.saveToB then { t with saveB := some v } else { t with saveA := some v })

/-- The save begun is complete: its CRC is good. -/
def State.saveEnd (s : State) : State :=
  let q (x : Option Save) : Nat := match x with | some v => v.seq | none => 0
  let fin (x : Option Save) : Option Save := x.map (fun v => { v with good := true })
  s.setBoot (fun t => if q t.saveA < q t.saveB then { t with saveB := fin t.saveB } else { t with saveA := fin t.saveA })

/-- Swell tables, tags and guards from a save (R271). -/
def State.restoreSwell (s : State) (v : Save) : State :=
  let s := { s with mem := v.swell.foldl (fun m c => mset m c.1 c.2) (mzero s.mem 0x33000000 0x18000) }
  let s := forL v.swellTags (fun x (s : State) =>
    let k := x.1 / 4
    let j := x.1 % 4
    let s := (s.setFld (pkSw k) (SW_TBL_TAG_V.ix j 0x40) (x.2 % 65536)).setBit (pkSw k) (SW_TBL_STAT_GUARD.ix j 0x40) (decide (65536 ≤ x.2))
    (s.swRecompute k j).setFld (pkSw k) SW_RESTORE_V (putBitN (s.fld (pkSw k) SW_RESTORE_V) j true)) s
  s

/-- Current-channel coefficients from a save, where it was made at the same gain (R142). -/
def State.restoreCoefs (s : State) (v : Save) : State :=
  forN 18 (fun k s =>
    let g (i : Nat) : Word := tget 0#32 v.coefs (4 * k + i)
    if tmem v.coefs (4 * k) && (g 2).toNat == (s.chan k).coefGain then
      (s.setWord (pkCs k) CS_OFFSET (g 0)).setWord (pkCs k) CS_GAIN (g 1)
    else s) s

/-- Step 12 of R123: the newest good save is restored; tables that a UR kept stay (R56, R79; log entry 39). -/
def State.floodRestore (s : State) : State :=
  match s.goodSave with
  | some v => (if s.pw.fromUr then s else s.restoreSwell v).restoreCoefs v
  | none => s

/-! ### Ebb and Slack water (R76-R78, R108) -/

/-- Ebb starts: authority is released, learning and the watchdog stop, the positions of SC10 and SC11 go to the AON counter and
the saves begin (R77, R79, R193, R409). -/
def State.startEbb (s : State) : State :=
  let s := s.releaseBol.setTide .ebb
  let s := ({ s with sea := { s.sea with wdRun := false } }.setPw (fun p => { p with ebbHeld := false, wakePending := false })).portCut
  ((s.slackHandover 10).slackHandover 11).saveBegin

/-- A write of TIDE_REQ.EBB (R76, R77). -/
def State.reqEbb (s : State) : State :=
  match s.pw.tide with
  | .high | .dryDock => s.startEbb
  | .flood => s.setPw (fun p => { p with ebbHeld := true })
  | _ => s

/-- An accepted write of TIDE_REQ (R92). -/
def State.tideReq (s : State) (v : Word) : State :=
  (s.when (bitN v.toNat 1) (fun s => s.setPw (fun p => { p with drydockNext := true }))).when (bitN v.toNat 0) State.reqEbb

/-- Slack water: everything but the AON domain is off; a new drive cycle will start at the wake (R75, R108, R441). -/
def State.enterSlack (s : State) : State :=
  let t := s.fresh.keepAon s
  t.setPw (fun p => { p with tide := .slack, vsw := .off, rstoutLow := false })

/-- Flood starts out of Slack water (R76, R123 step 1). -/
def State.wakeFlood (s : State) (cause : Nat) : State :=
  let s := s.setPw (fun p => { p with tide := .flood, vsw := .starting, rstoutLow := true, floodStart := s.cyc })
  s.setFld pkSys SYS_TIDE_STAT_WAKE_CAUSE cause

/-- A wake source has asserted (R76-R78, R96). -/
def State.wakeAsserts (s : State) (cause : Nat) : State :=
  match s.pw.tide with
  | .slack => s.wakeFlood cause
  | .ebb => s.setPw (fun p => { p with wakePending := true })
  | _ => s

/-! ### The end of Flood (R76, R123, R124) -/

/-- This Flood ends in Dry dock (R76, R113, R415). -/
def State.toDryDock (s : State) : Bool :=
  s.pw.noImage || s.pw.drydockNext || s.pw.bootSel == 1#2 || s.pw.bootSel == 2#2
    || !(s.bit pkSea SEAWALL_STAT_SEAL_OK && s.bit pkSea SEAWALL_STAT_CONFIRMED)

/-- R124: a Maulo channel is synchronised, and a watch group's link is up or every peer absent. -/
def State.joined (s : State) : Bool :=
  (s.timeState == 3 || s.timeState == 4) &&
    (s.gsize == 0 || s.peerList.any (fun i => s.peerUp i) || s.peerList.all (fun i => (s.peer i).absent))

/-- Steps 10 and 11 are done. -/
def State.floodRan (s : State) : Bool := s.pw.imageRun && s.pw.floodRunDone

/-- Flood completes (step 15 of R123): High water, or Dry dock, which clears DRYDOCK_NEXT; an Ebb held starts. -/
def State.floodEnds (s : State) : State :=
  let s := s.showFloodMs
  let s := if s.toDryDock then (s.setPw (fun p => { p with drydockNext := false })).setTide .dryDock
    else (s.setTide .high).wgJoin.wgAdvance
  if s.pw.ebbHeld then s.startEbb else s

end Sys2Proof.Machine
end

