-- ==== Sys2Proof/Machine/PowerCmd.lean ====
section
/-!
DEFINITION. Machine/PowerCmd.lean: the commands of clocks, sluices, tides, supplies, resets and boot (R20, R70-R131).
-/
namespace Sys2Proof.Machine

/-- R110, R56: a unit recovery that has been requested is carried out. -/
def execUr (cause : UrCause) (s : State) : Result := .next (if s.urDue cause then s.ur cause else s)

/-- R109, R56: a power-on reset. -/
def execPor (cause : PorCause) (s : State) : Result := .next (s.por cause)

/-! ### The inner quay (R20) -/

/-- The source that reports a class of the inner quay (R20). -/
def quaySource : QuayClass → Nat
  | .modulator => 0x010 | .seawall => 0x011 | .sar => 0x012 | .kcbKd => 0x013 | .gate => 0x014 | .kcbKp => 0x015

/-- The place of a unit's last good word of a class. -/
def quayKey (c : QuayClass) (unit : Nat) : Nat := 64 * (quaySource c - 0x010) + unit % 64

/-- R20: a word received: taken, corrected, or discarded with the last good value held. -/
def execQuayWord (cls : QuayClass) (unit : Nat) (w : BitVec 64) (err : SecErr) (s : State) : Result :=
  let take (s : State) : State := { s with quay := tput s.quay (quayKey cls unit) w }
  .next (match err with
    | .none => take s
    | .single => (take s).raise (quaySource cls) 0x01 0
    | .double => s.raise (quaySource cls) 0x02 1)

/-! ### Clock loss (R73, R74, R143) -/

/-- R73: XO lost. -/
def execXoLoss (count : Nat) (s : State) : Result :=
  .next (
    let show' (k : Nat) (s : State) : State := (s.setFld k PLA_XO_COUNT_N count).setBit k PLA_PLL_STAT_REF_OK false
    ((show' pkPlb (show' pkPla s)).unitCut SEAWALL_UCAUSE_XO).raise 0x008 0x0E 3)

/-- R73, R74: PLL-A has lost lock: the fault machinery runs on XO, the other clocks of PLL-A stop. -/
def execPllALockLoss (s : State) : Result :=
  .next (
    let s := ((s.setBit pkPla PLA_PLL_STAT_LOCK false).setBit pkPla PLA_PLL_STAT_BYPASS true).cntS pkPla PLA_PLL_STAT_LOSS_COUNT
    (({ s with pw := { s.pw with pllALost := true } }.setBit pkHm HM_STAT_BYPASS true)).raise 0x009 0x0E 3)

/-- R73, R143: PLL-B has lost lock: bridges cut, current channels stale. -/
def execPllBLockLoss (s : State) : Result :=
  .next (
    let s := (s.setBit pkPlb PLA_PLL_STAT_LOCK false).cntS pkPlb PLA_PLL_STAT_LOSS_COUNT
    (s.csAllStop.unitCut SEAWALL_UCAUSE_PLLB).raise 0x00A 0x0E 3)

/-- R143: PLL-B has relocked. -/
def execPllBRelock (s : State) : Result := .next (s.setBit pkPlb PLA_PLL_STAT_LOCK true)

/-- R73: the delay line has lost lock: tap codes are forced to 0. -/
def execDelayLineLockLoss (s : State) : Result :=
  .next (({ s with pw := { s.pw with tapsForced := true } }.setBit pkPlb PLA_PLL_STAT_DL_LOCK false).raise 0x00B 0x0E 1)

/-- R73: a relock of the delay line is tried. -/
def execDelayLineRelock (locked : Bool) (trim : BitVec 8) (s : State) : Result :=
  .next (if s.pw.tapsForced && locked then
      ({ s with pw := { s.pw with tapsForced := false } }.setBit pkPlb PLA_PLL_STAT_DL_LOCK true).setFld pkPlb PLA_DL_TRIM_CODE trim.toNat
    else s)

/-- R73: the AON clock deviates; watched from Flood to Ebb. -/
def execAonDeviation (dev : BitVec 16) (s : State) : Result :=
  .next (if s.pw.tide = .slack then s else (s.setFld pkAon AON_AON_CAL_DEV dev.toNat).raise 0x00C 0x0E 1)

/-- R73: the 32.768 kHz crystal is lost: AON runs on the RC; in Slack water the report waits for the next Flood. -/
def execCrystalLoss (s : State) : Result :=
  .next (
    let s := ((s.setBit pkAon AON_AON_OSC_XTAL_OK false).setBit pkAon AON_AON_OSC_SRC false).cntS pkAon AON_AON_OSC_XTAL_LOSS
    if s.pw.tide = .slack then { s with pw := { s.pw with xtalLossNote := true } } else s.raise 0x00D 0x0E 0)

/-- R73, R407: SWRC deviates: a failure of the Seawall's self-test. -/
def execSwrcDeviation (s : State) : Result := .next ((s.setBit pkSea SEAWALL_STAT_SELFTEST_OK false).hardCut 4)

/-! ### Sluices (R83-R87) -/

def State.sluice (s : State) (n : Nat) : Sluice := tget {} s.sluices n
def State.setSluice (s : State) (n : Nat) (x : Sluice) : State := { s with sluices := tput s.sluices n x }

/-- R83: a handshake crossing completes one transfer; the transfer waiting goes first. -/
def execHandshakeTransfer (sluice : Nat) (w : Word) (s : State) : Result :=
  let x := s.sluice sluice
  .next (s.setSluice sluice { x with value := w, waiting := none, delivered := x.delivered + 1 })

/-- R84, R87: a stream word is delivered, or held while a clock is stopped; a word held is delivered once. -/
def execStreamWord (sluice : Nat) (w : Word) (stopped : Bool) (s : State) : Result :=
  let x := s.sluice sluice
  .next (s.setSluice sluice (
    if stopped then { x with waiting := some (x.waiting.getD w) }
    else { x with value := w, waiting := none, delivered := x.delivered + 1 + b2n x.waiting.isSome, stale := false }))

/-- R85: two samples of a published copy: accepted where they agree. -/
def execDoubleSample (sluice : Nat) (a b : Word) (s : State) : Result :=
  let x := s.sluice sluice
  .next (s.setSluice sluice (
    if a = b then { x with value := a, delivered := x.delivered + 1, disagree := 0, stale := false }
    else { x with disagree := satInc 8 x.disagree }))

/-- R86: eight disagreements in a row: the value is stale, and a KCB read that waits for it ends in an error. Sluices 0 to 7 report
from 0x018 to 0x01F. -/
def execSluiceDisagreement (sluice : Nat) (reader : Option Initiator) (s : State) : Result :=
  let x := s.sluice sluice
  .next (if x.disagree = 8 then
      let t := (s.setSluice sluice { x with disagree := 0, stale := true }).raise (0x018 + sluice % 8) 0x0D 1
      match reader with | some who => t.answer (.error who) | none => t
    else s)

/-! ### Wake and tides (R76-R79, R92, R94-R96) -/

/-- R94: AON_OSC written; `xtal` says whether the crystal runs. -/
def execSrcChange (who : Initiator) (v : Word) (xtal : Bool) (s : State) : Result :=
  .next ((s.setBit pkAon AON_AON_OSC_XTAL_OK xtal).regWrite who pkAon 0x040 v).1

/-- R78, R96: WAKEn has asserted. -/
def execWake (n : Nat) (s : State) : Result :=
  .next (if bitN (s.fld pkAon AON_WAKE_CFG_WAKE_EN) (n % 4) then
      (s.setFld pkAon AON_WAKE_SRC_WAKE (putBitN (s.fld pkAon AON_WAKE_SRC_WAKE) (n % 4) true)).wakeAsserts (n % 4 + 1)
    else s)

/-- R78, R96: the CAN wake pattern on CAN0 or CAN1. -/
def execCanWake (n : Nat) (s : State) : Result :=
  .next (if s.bit pkAon AON_WAKE_CFG_CAN_EN && decide (n < 2) then (s.setBit pkAon AON_WAKE_SRC_CAN true).wakeAsserts 5 else s)

/-- R78, R96: signal energy on MA0 or MB0. -/
def execMauloWake (channel : Nat) (s : State) : Result :=
  .next (if s.bit pkAon AON_WAKE_CFG_MAULO_EN && decide (channel < 2) then (s.setBit pkAon AON_WAKE_SRC_MAULO true).wakeAsserts 6 else s)

/-- R76, R123, R124: Flood completes. -/
def execFloodComplete (s : State) : Result :=
  .next (if s.pw.tide == .flood && s.floodRan && (s.toDryDock || s.joined) then s.floodEnds else s)

/-- R76: 300 ms of Flood. -/
def execFloodTimeout (s : State) : Result := .next (if s.pw.tide = .flood then s.raise 0x001 0x05 3 else s)

/-- R76: a Flood step fails. -/
def execFloodStepFailure (s : State) : Result := .next s.floodFails

/-- R76, R77, R92: TIDE_REQ.EBB, keyed. -/
def execEbb (who : Initiator) (s : State) : Result :=
  .next (match s.regWrite who pkSys 0x044 1#32 with
    | (s, some _) => s.tideReq 1#32
    | (s, none) => s)

/-- R92: TIDE_REQ.DRYDOCK_NEXT, keyed. -/
def execDrydockNext (who : Initiator) (s : State) : Result :=
  .next (match s.regWrite who pkSys 0x044 2#32 with
    | (s, some _) => s.tideReq 2#32
    | (s, none) => s)

/-- R76, R77, R79: the saves are complete: Slack water, or a UR into Flood with a wake source asserted; `asserted` says that one which
asserted before Ebb still stands. -/
def execEbbSavesComplete (asserted : Bool) (s : State) : Result :=
  .next (if s.pw.tide = .ebb then
      let s := s.saveEnd
      if s.pw.wakePending || asserted then s.requestUr .ebbWake else s.enterSlack
    else s)

/-! ### Supplies (R99-R108) -/

/-- A live bit of SUP_STAT sets, and on entry its bit of SUP_EVT (R125, R126). -/
def State.supTrip (s : State) (f : Field) : State :=
  (s.setBit pkSup f true).setFld pkSup SUP_SUP_EVT_EV (putBitN (s.fld pkSup SUP_SUP_EVT_EV) (f.lo - 1) true)

/-- R103: VSUP below 2.5 V. -/
def execVsupPor (s : State) : Result := .next (s.por .vsup)

/-- R103, R123: VSUP above 2.8 V: the AON supply is back and Flood starts. -/
def execVsupPorRelease (s : State) : Result :=
  .next (if s.pw.vsupLow then
      ({ s with pw := { s.pw with vsupLow := false, vsw := .starting, floodStart := s.cyc } }).setBit pkSup SUP_RST_CAUSE_POR_VSUP true
    else s)

/-- The next rail of R107 starts. -/
def State.startVpre (s : State) : State :=
  if s.pw.vsupStart && s.pw.vsw == .good && s.pw.vpre == .off then { s with pw := { s.pw with vpre := .starting } } else s

/-- R103: VSUP above 3.5 V. -/
def execVsupStart (s : State) : Result :=
  .next (if s.pw.vsupLow then s
    else ({ s with pw := { s.pw with vsupStart := true } }.setBit pkSup SUP_SUP_STAT_VSUP_UV false).startVpre)

/-- R103: VSUP below 3.0 V. -/
def execVsupUv (s : State) : Result :=
  .next ((((s.supTrip SUP_SUP_STAT_VSUP_UV).setBit pkSup SUP_SUP_STAT_VSUP_OV false).cntS pkSup SUP_BO_COUNT_UV).raise 0x000 0x07 0)

/-- R103: VSUP above 40 V. -/
def execVsupOv (s : State) : Result :=
  .next ((((s.supTrip SUP_SUP_STAT_VSUP_OV).setBit pkSup SUP_SUP_STAT_VSUP_UV false).cntS pkSup SUP_BO_COUNT_OV).raise 0x000 0x06 1)

/-- R103, R571: VPRE below 5.4 V: Dredge's tests are aborted and none starts. -/
def execVpreWarn (s : State) : Result :=
  .next (
    let s := ((s.supTrip SUP_SUP_STAT_VPRE_WARN).raise 0x002 0x07 1).abortTests
    { s with dr := { s.dr with warnHold := true } })

/-- R103: VPRE above 5.6 V. -/
def execVpreWarnRelease (s : State) : Result :=
  .next ({ s with dr := { s.dr with warnHold := false } }.setBit pkSup SUP_SUP_STAT_VPRE_WARN false)

/-- R103: VPRE below 5.0 V. -/
def execVpreBo (s : State) : Result :=
  .next (
    let s := ((s.supTrip SUP_SUP_STAT_VPRE_BO).cntS pkSup SUP_BO_COUNT_BO).unitCut SEAWALL_UCAUSE_VPRE_BO
    { s with pw := { s.pw with brownOut := true } }.raise 0x002 0x07 3)

/-- R104: VPRE stable above 5.6 V for 1 ms: a UR follows, but not in Ebb. -/
def execVpreBoRelease (s : State) : Result :=
  .next (if s.pw.brownOut then
      let s := { s with pw := { s.pw with brownOut := false } }.setBit pkSup SUP_SUP_STAT_VPRE_BO false
      if s.pw.tide = .ebb then s else s.requestUr .brownOut
    else s)

/-- The rails whose loss is a POR (R103, R109). -/
def railResets : Rail → Bool
  | .vpre | .vcore | .vio18 | .vio33 | .vsw => true
  | _ => false

/-- R103, R109: a rail is lost. VGD and VAON have monitors of their own. -/
def execRailLoss (rail : Rail) (s : State) : Result := .next (if railResets rail then s.por (.rail (railSource rail)) else s)

/-- R103: VGD below 9.5 V. -/
def execVgdMonitor (s : State) : Result :=
  .next (((s.supTrip SUP_SUP_STAT_VGD_FAIL).unitCut SEAWALL_UCAUSE_VGD).raise 0x006 0x07 3)

/-- R107: a rail is within its limits; the next in the order starts. -/
def State.railGood (s : State) (r : Rail) : State :=
  let p := s.pw
  match r with
  | .vaon => s
  | .vsw => if p.vsw == .starting then ({ s with pw := { p with vsw := .good } }.setBit pkSup SUP_SUP_STAT_VSW_OK true).startVpre else s
  | .vpre => if p.vpre == .starting then { s with pw := { p with vpre := .good, vio33 := .starting } } else s
  | .vio33 => if p.vio33 == .starting then { s with pw := { p with vio33 := .good, vio18 := .starting } }.supTrip SUP_SUP_STAT_VIO33_OK else s
  | .vio18 => if p.vio18 == .starting then { s with pw := { p with vio18 := .good, vcore := .starting } }.supTrip SUP_SUP_STAT_VIO18_OK else s
  | .vcore => if p.vcore == .starting then { s with pw := { p with vcore := .good } }.supTrip SUP_SUP_STAT_VCORE_OK else s
  | .vgd => (if p.vgd == .starting then { s with pw := { p with vgd := .good } } else s).setBit pkSup SUP_SUP_STAT_VGD_FAIL false

/-- R107: a rail reaches its limits. -/
def execRailInLimits (rail : Rail) (s : State) : Result := .next (s.railGood rail)

/-- A rail is starting. -/
def State.railStarting (s : State) : Rail → Bool
  | .vaon => false
  | .vsw => s.pw.vsw == .starting
  | .vpre => s.pw.vpre == .starting
  | .vio33 => s.pw.vio33 == .starting
  | .vio18 => s.pw.vio18 == .starting
  | .vcore => s.pw.vcore == .starting
  | .vgd => s.pw.vgd == .starting

/-- R107: a rail is not within its limits 5 ms after its start. -/
def execRailStartTimeout (rail : Rail) (s : State) : Result :=
  .next (if s.railStarting rail then (s.raise (railSource rail) 0x07 3).floodFails else s)

/-! ### External reset, KD reset and boot (R111-R123) -/

/-- R111: EXT_RST_N low for 1 µs; without effect in Slack water and Ebb. -/
def execExtRstN (s : State) : Result :=
  .next (if s.pw.tide = .slack ∨ s.pw.vsupLow = true then s
    else
      let s := { s with pw := { s.pw with extLow := true } }
      if s.pw.tide = .ebb then s else s.requestUr .external)

/-- R111: EXT_RST_N rises. -/
def execExtRstNRise (s : State) : Result := .next { s with pw := { s.pw with extLow := false } }

/-- The rails of KD are within limits. -/
def State.kdRails (s : State) : Bool := s.pw.vio33 == .good && s.pw.vio18 == .good && s.pw.vcore == .good

/-- R107, R111-R113, R123 step 7: KD leaves reset with both PLLs locked; BOOT_SEL is sampled, the watchdog starts, and Dredge
tests the Harbourmaster, AC0 and the comparators (R573). -/
def execKdResetRelease (bootSel : BitVec 2) (s : State) : Result :=
  .next (if s.pw.tide == .flood && s.kdRails && !s.pw.kdUp && !s.pw.extLow then
      let s := { s with pw := { s.pw with kdUp := true, rstoutLow := false, pllALost := false, stbFrom := s.cyc
                                          bootSel := if bootSel = 3#2 then 0#2 else bootSel } }
      let lock (k : Nat) (s : State) : State := (s.setBit k PLA_PLL_STAT_LOCK true).setBit k PLA_PLL_STAT_REF_OK true
      let s := (lock pkPlb (lock pkPla s)).setBit pkPlb PLA_PLL_STAT_DL_LOCK true
      let s := if s.pw.xtalLossNote then { s with pw := { s.pw with xtalLossNote := false } }.raise 0x00D 0x0E 0 else s
      let s := { s with sea := { s.sea with wdRun := true } }.wdLoad
      { s with dr := { s.dr with queue := s.dr.queue ++ bootTests ++ [marchTest], phase := .boot } }
    else s)

/-- R415: the Seawall checks the manifest of the bank tried first, or again of the bank that runs. -/
def execManifestCheck (s : State) : Result :=
  .next (if s.pw.kdUp then s.mfCheck s.checkBank (s.boot.runBank.isSome || s.pw.noImage) else s)

/-- R117, R119: the boot ROM finishes verifying a bank. -/
def execImageVerify (s : State) : Result :=
  .next (if s.pw.kdUp && s.pw.tide == .flood && s.boot.runBank.isNone && !s.pw.noImage then
      (if s.boot.toTry.isEmpty then s.beginTry else s).verifyNext
    else s)

/-- An address the image loads into: application TCMs and Cove memories (R123 step 10). -/
def isTcm (a : Nat) : Bool :=
  decide (0x30000000 ≤ a ∧ a < 0x31400000) && decide (a % 0x100000 < 0x80000) &&
    (decide (a < 0x30400000) || decide (0x31000000 ≤ a))

/-- Bytes stored at consecutive addresses, both copies of a memory that has two (R371). -/
def State.loadBytes (s : State) (a : Nat) (l : List Byte) : State :=
  let put (m : List Host.Cell) : List Host.Cell :=
    (l.foldl (fun (x : List Host.Cell × Nat) b => (if isTcm x.2 then mset x.1 x.2 b else x.1, x.2 + 1)) (m, a)).1
  { s with mem := put s.mem, ckMem := put s.ckMem }

/-- R123 step 10, R393: after the march the boot ROM loads the image's sections, VGD starts, AC0 jumps to ENTRY, and the Flood
run begins (R574). -/
def execBootImageLoad (sections : List (Nat × List Byte)) (s : State) : Result :=
  .next (match s.boot.runBank with
    | some b =>
      if s.pw.tide == .flood && s.dr.marchDone && !s.pw.imageRun && !s.pw.noImage then
        let s := forL sections (fun x (s : State) => s.loadBytes x.1 x.2) s
        let entry := BitVec.ofNat 32 (legalize (.range 0x30000000 0x3003FFFE) 32 (s.imgWord b 0x00C))
        let s := { s with pw := { s.pw with imageRun := true, vgd := if s.pw.vgd == RailSt.off then RailSt.starting else s.pw.vgd } }
        let s := (s.setWord (pkAc 0) AC_ENTRY (entry &&& 0xFFFFFFFE#32)).modPage (pkAc 0) (fun p => { p with en := true })
        (s.acBegin 0 (entry &&& 0xFFFFFFFE#32)).startFloodRun
      else s
    | none => s)

/-- R574, R79: the Flood run ends: FLOOD_US and FLOOD_DONE, and the result that READY asks for (R550, R577); the saves are
restored after it (step 12 of R123). -/
def execFloodRunDone (us : Nat) (s : State) : Result :=
  .next (if s.dr.phase = .floodRun then
      let s := (s.setFld pkDr DR_FLOOD_US_N (min us 65535)).irq pkDr 8
      let s := if 65535 ≤ us then s.modPage pkDr (fun p => { p with sat := true }) else s
      let s := s.sweepResult
      { s with dr := { s.dr with phase := .none }, pw := { s.pw with floodRunDone := true } }.floodRestore
    else s)

/-! ### Bank control and update port (R118, R119, R121, R131) -/

/-- R131: BANK_CTRL.TRY_OTHER, keyed. -/
def execTryOther (who : Initiator) (s : State) : Result :=
  .next (match s.regWrite who pkSec 0x044 1#32 with
    | (s, some _) => s.bankCtrl 1#32
    | (s, none) => s)

/-- R118, R131: BANK_CTRL.CONFIRM, keyed. -/
def execConfirm (who : Initiator) (s : State) : Result :=
  .next (match s.regWrite who pkSec 0x044 2#32 with
    | (s, some _) => s.bankCtrl 2#32
    | (s, none) => s)

/-- R121, R129: UPD_CTRL written with OPEN, keyed. -/
def execUpdateOpen (who : Initiator) (v : Word) (s : State) : Result :=
  .next (match s.regWrite who pkSec 0x04C (v ||| 1#32) with
    | (s, some _) => s.updCtrl (v ||| 1#32)
    | (s, none) => s)

/-- R121: a ciphertext word. -/
def execUpdData (who : Initiator) (w : Word) (s : State) : Result := .next ((s.keyTaken pkSec who).updData w)

/-- R121: UPD_CTRL.CLOSE_VERIFY, keyed. -/
def execCloseVerify (who : Initiator) (s : State) : Result :=
  .next (match s.regWrite who pkSec 0x04C 2#32 with
    | (s, some _) => s.updCtrl 2#32
    | (s, none) => s)

/-- R121: verification of the inactive bank ends. -/
def execVerifyDone (s : State) : Result := .next s.updVerified

end Sys2Proof.Machine
end

