-- ==== Sys2Proof/Machine/WatchCmd.lean ====
section
/-!
DEFINITION. Machine/WatchCmd.lean: the commands of the mooring links, the bollard lines and the watch group (R520-R566).
-/
namespace Sys2Proof.Machine

/-! ### Mooring links and peers (R522, R542, R549) -/

/-- R522: a mooring link comes up, its lanes deskewed. -/
def execMooringLinkUp (port : Nat) (s : State) : Result :=
  .next (if 2 ≤ port ∨ s.mpUp port = true ∨ (s.st (pkMp port) ≠ .idle ∧ s.st (pkMp port) ≠ .run) then s
    else
      let k := pkMp port
      let s := (((s.setBit k MP_STAT_LINK true).setBit k MP_STAT_DESKEW_OK true).setFld k MP_STAT_LANES 3).irq k 9
      let i := s.portPeer port
      let s := s.setPeer i { s.peer i with absent := false, lost := false }
      s.wgJoin.sendHello.wgAdvance.showDetached)

/-- R522, R560: a mooring link is lost. -/
def execMooringLinkLoss (port : Nat) (s : State) : Result :=
  .next (if 2 ≤ port ∨ s.mpUp port = false then s
    else
      let k := pkMp port
      let s := ((s.setBit k MP_STAT_LINK false).setBit k MP_STAT_DESKEW_OK false).setFld k MP_STAT_LANES 0
      let s := ((s.setBit k MP_STAT_BEACON false).cntS k MP_CNT_LOSSES).irq k 9
      (s.raise (0x1C0 + port) 0x0B 1).showDetached)

/-- R522, R537: both links to a peer have been down for 100 ms. -/
def execPeerAbsent (peer : Nat) (s : State) : Result :=
  .next (if s.peerUp peer then s
    else
      let s := (s.setPeer peer { s.peer peer with absent := true }).setBit pkWg (WG_PEER_STAT_PRESENT.ix peer 16) false
      s.wgJoin.wgAdvance)

/-- R549: no HEALTH for 30 ms and no link up: the peer is lost. -/
def execPeerLost (peer : Nat) (s : State) : Result :=
  .next (if s.peerUp peer || (s.peer peer).lost || !(s.peerList.contains peer) then s
    else
      let s := (s.setPeer peer { s.peer peer with lost := true }).setBit pkWg (WG_PEER_STAT_PRESENT.ix peer 16) false
      s.raise 0x1C6 0x0B 1)

/-! ### Inputs and agreement (R528-R531, R547) -/

/-- R528: a peer's RAW frame. -/
def execRawFrame (port : Nat) (crc : FrameCheck) (bytes : List Byte) (s : State) : Result :=
  .next (s.mpTake port 1 crc bytes (fun s _ period l =>
    if period = s.word pkWg WG_PERIOD then
      s.setWg { s.wg with raws := s.wg.raws ++ [⟨beAt bytes 1 1 % 4, period, rawEntries l⟩] }
    else s))

/-- A peer's RAW frame is missing at AGREE_T (R528, R560). -/
def State.rawMissing (s : State) (i : Nat) : State :=
  let x := s.peer i
  let got := s.wg.raws.any (fun r => s.rankPeer r.rank == some i)
  if got then s.setPeer i { x with rawMiss := 0 }
  else
    let s := (s.cntS pkWg WG_CNT2_LATE_PEER).setPeer i { x with rawMiss := satInc 8 x.rawMiss }
    if x.rawMiss = 7 then s.raise 0x1C3 0x0B 1 else s

/-- R530, R531: AGREE_T after the boundary the agreed set is formed, published and by a returning unit logged. -/
def execAgreeT (s : State) : Result :=
  .next (if s.running pkWg then 
      let s := (forL s.peerList (fun i s => s.rawMissing i) s).agree.logSet
      (s.setWg { s.wg with agreedNow := true }).xchkTry
    else s)

/-! ### Cross-check (R535) -/

/-- R535: a peer's XCHK frame is compared. -/
def execXchkFrame (port : Nat) (crc : FrameCheck) (bytes : List Byte) (s : State) : Result :=
  .next (s.mpTake port 2 crc bytes (fun s i period l =>
    let n := beAt l 8 1
    let x : Xchk := ⟨BitVec.ofNat 32 (beAt l 0 4), BitVec.ofNat 32 (beAt l 4 4), beAt l 9 1 % 64,
      (List.range n).map (fun j => BitVec.ofNat 32 (beAt l (16 + 4 * j) 4))⟩
    if period = s.word pkWg WG_PERIOD then
      ((s.setWg { s.wg with peerX := tput s.wg.peerX i x }).setWord pkWg (WG_PEER_SIG.ix i 16) x.stateSig).xJudge i
    else s))

/-! ### Health, HELLO, Lee mode (R549-R553) -/

/-- Buoy excursion flags as HEALTH carries them: one word of the BYT, BYV and BYP interrupt flags (log entry 34). -/
def State.buoyFlags (s : State) : Word :=
  let f (k lo : Nat) : Nat := (s.page k).irqFlags.toNat / 2 ^ lo
  BitVec.ofNat 32 (f pkByt 8 % 4096 + 4096 * (f pkByv 8 % 65536) + 268435456 * (f pkByp 8 % 16))

/-- R549: this unit sends HEALTH to every peer. -/
def execHealthSend (s : State) : Result :=
  .next (
    let s := s.setBit pkWg WG_STAT_READY s.wgReady
    let hm : Word := BitVec.ofNat 32 ((s.word pkHm HM_STAT).toNat % 268435456 / 16777216 * 16777216 + s.hmLevel * 262144
      + (s.hm.inc.filter (fun x => x.2.st != .closed)).length)
    s.mpSendAll 4 (beBytes (s.word pkWg WG_STAT).toNat 4 ++ beBytes (s.word pkDr DR_SWEEPS).toNat 4 ++ beBytes hm.toNat 4
      ++ beBytes s.buoyFlags.toNat 4 ++ beBytes (s.word pkWg WG_CONFIG_SIG).toNat 4))

/-- What a peer reports of its state shows in PEERn_STAT. -/
def State.showPeer (s : State) (i rank : Nat) (stat : Word) : State :=
  let s := (s.setFld pkWg (WG_PEER_STAT_STATE.ix i 16) (fget WG_STAT_STATE stat)).setFld pkWg (WG_PEER_STAT_RANK.ix i 16) rank
  let s := (s.setFld pkWg (WG_PEER_STAT_STEP.ix i 16) (fget WG_STAT_STEP stat)).setBit pkWg (WG_PEER_STAT_PRESENT.ix i 16) true
  s.setPeer i { s.peer i with absent := false, lost := false }

/-- R549, R550, R553: a peer's HEALTH report; a ready standby ends Lee mode. -/
def execHealthFrame (port : Nat) (crc : FrameCheck) (bytes : List Byte) (s : State) : Result :=
  .next (s.mpTake port 4 crc bytes (fun s i _ l =>
    let stat : Word := BitVec.ofNat 32 (beAt l 0 4)
    let ready := fget WG_STAT_READY stat == 1
    let s := (s.showPeer i (beAt bytes 1 1 % 4) stat).setBit pkWg (WG_PEER_STAT_READY.ix i 16) ready
    let s := s.setWord pkWg (WG_PEER_SWEEP.ix i 16) (BitVec.ofNat 32 (beAt l 4 4))
    let s := s.setPeer i { s.peer i with
      ready := ready, healthAt := some s.cyc, hello := some (fget WG_STAT_STATE stat, BitVec.ofNat 32 (beAt l 16 4)) }
    let s := if s.lee && ready then s.releaseBol else s
    (s.snapStart i false).wgAdvance.showDetached))

/-- R532, R537, R542, R548: a peer's HELLO. -/
def execHelloFrame (port : Nat) (crc : FrameCheck) (bytes : List Byte) (s : State) : Result :=
  .next (s.mpTake port 5 crc bytes (fun s i _ l =>
    let stat : Word := BitVec.ofNat 32 (beAt l 0 4)
    let s := s.showPeer i (beAt bytes 1 1 % 4) stat
    let s := s.setPeer i { s.peer i with hello := some (fget WG_STAT_STATE stat, BitVec.ofNat 32 (beAt l 4 4)) }
    let ask := beAt l 8 4
    let s := if s.bolOut && fget WG_STAT_STATE stat == 4 && decide (1 ≤ ask ∧ ask ≤ 6) then
        s.setWg { s.wg with oneEngine := s.wg.oneEngine ++ [ask - 1] }
      else s
    let line := s.bit pkSea (if i = 0 then SEAWALL_STAT_BOL_IN0 else SEAWALL_STAT_BOL_IN1)
    let s := if s.wgState == 1 && fget WG_STAT_STATE stat == 1 && line then (s.cntS pkBol BOL_CNT_MISMATCH).raise 0x1C2 0x06 1 else s
    let before := s.wgState
    let s := (s.snapStart i true).wgAdvance.showDetached
    if before = 1 ∧ s.wgState = 3 then s.sendHello else s))

/-- R551: the unit holding authority has had no Maulo time for 10 ms. -/
def execLeeNoTime (s : State) : Result :=
  .next (if s.bit pkSea SEAWALL_STAT_BOL_OUT && s.timeState == 0 && s.sea.mf.leeEn then s.leeEnter else s)

/-! ### Beacons (R526, R537, R538, R542) -/

/-- R526: while BOL_OUT is asserted a BEACON is inserted on every mooring port whose link is up. -/
def execBeaconSend (s : State) : Result :=
  .next (if s.bit pkSea SEAWALL_STAT_BOL_OUT then
      forN 2 (fun p s => if s.mpUp p then
        s.setWg { s.wg with sent := tput s.wg.sent p (0, [BitVec.ofNat 8 s.wgRank]) } else s) s
    else s)

/-- R526: a peer's BEACON is received and removed from the stream. -/
def execBeacon (port rank : Nat) (s : State) : Result :=
  .next (if 2 ≤ port ∨ s.mpUp port = false then s
    else
      let s := (s.setBit (pkMp port) MP_STAT_BEACON true).setFld (pkMp port) MP_STAT_PEER_RANK rank
      s.wgAdvance)

/-- R538: 1.2 µs without a beacon on a port. -/
def execBeaconTimeout (port : Nat) (s : State) : Result :=
  .next (if 2 ≤ port then s else s.setBit (pkMp port) MP_STAT_BEACON false)

/-- R542: a peer's line disagrees with its beacons. -/
def execLineMismatch (peer : Nat) (s : State) : Result :=
  .next (
    let line := s.bit pkSea (if peer = 0 then SEAWALL_STAT_BOL_IN0 else SEAWALL_STAT_BOL_IN1)
    if (s.wgState == 4 || s.wgState == 2) && s.peerList.contains peer && s.peerUp peer && line != s.peerBeacon peer then
      (s.cntS pkBol BOL_CNT_MISMATCH).raise 0x1C2 0x06 1
    else s)

/-! ### Claims (R400, R401, R537-R540) -/

/-- R539: with ARM present and the lines released long enough the Seawall asserts BOL_OUT. AUTH shows a group's unit from the end of
the claim window, in ACTIVE (R537). -/
def execClaim (s : State) : Result :=
  .next (if (s.gsize == 0 || s.armed) && s.mayClaim && s.peersReleased && !s.bolOut then
      let s := { s.abortTests with dr := { s.abortTests.dr with stepHold := none } }
      let took := match s.wg.releasedAt with | some t => min 65535 ((s.cyc - t) / 40) | none => 0
      let s := (s.setBit pkSea SEAWALL_STAT_BOL_OUT true).setBit pkSys SYS_TIDE_STAT_AUTH (s.gsize == 0)
      let s := { s with sea := { s.sea with claim := true } }
      let s := ((s.setBit pkBol BOL_STAT_CLAIM_WIN true).setBit pkBol BOL_STAT_CONFLICT false).setFld pkBol BOL_LAST_TAKE_T took
      (((s.cntS pkBol BOL_CNT_CLAIMS).irq pkBol 9)).safeOutputs
    else s)

/-- R539: the claim window ends without a peer's assertion: the claim stands. -/
def execClaimWindowEnd (s : State) : Result :=
  .next (if s.bit pkBol BOL_STAT_CLAIM_WIN then
      let s := (s.setBit pkBol BOL_STAT_CLAIM_WIN false).setBit pkSys SYS_TIDE_STAT_AUTH s.bolOut
      if s.wgState = 2 ∨ s.wgState = 4 then s.setRole 5 else s
    else s)

/-- R539, R540, R548: a peer's bollard line changes. -/
def execBolInChange (line : Nat) (asserted : Bool) (s : State) : Result :=
  .next (
    let f := if line = 0 then SEAWALL_STAT_BOL_IN0 else SEAWALL_STAT_BOL_IN1
    let s := s.setBit pkSea f asserted
    if !(s.peerList.contains line) then s
    else if asserted then
      if s.bit pkBol BOL_STAT_CLAIM_WIN then
        let s := (s.setBit pkBol BOL_STAT_CLAIM_WIN false).releaseBol.cntS pkBol BOL_CNT_WITHDRAWALS
        if s.wgState = 2 then s.toReturning else s
      else if s.bolOut then
        let s := ((s.releaseBol.cntS pkBol BOL_CNT_CONFLICTS).setBit pkBol BOL_STAT_CONFLICT true).raise 0x1C2 0x06 1
        if s.wgState = 7 then s.toReturning else s
      else if s.wgState = 2 then s.toReturning
      else s
    else
      let s := (s.irq pkBol 8).setWg { s.wg with releasedAt := some s.cyc }
      if s.wgState = 3 then ((s.setFld pkWg WG_SNAP_STAT_PHASE 0).setWg { s.wg with joinDone := false }).setRole 1
      else if s.bolOut then s
      else s.abortTests)

/-- R537: 2 ms have passed since the first mooring link-up. -/
def execJoiningTimeout (s : State) : Result := .next (s.setWg { s.wg with joinDone := true }).wgAdvance

/-! ### Return of a unit (R544-R548) -/

/-- A standby in step takes the committed state of the engine it has tested, before that engine's next release (R578). -/
def State.takeEngine (s : State) (l : List Byte) : State :=
  match s.dr.stepHold, cePOf (beAt l 0 4) with
  | some k, some (j, _) =>
    if s.stepHeld && j == k && s.st (pkCe k) != .test then
      { s.snapTake 4 l with dr := { s.dr with stepHold := none } }
    else s
  | _, _ => s

/-- R544, R546: a STATE frame's blocks are written into a returning unit's memory; what it tells of the sender's phase shows in
SNAP_STAT. -/
def execStateFrame (port : Nat) (crc : FrameCheck) (bytes : List Byte) (phase left : Nat) (s : State) : Result :=
  .next (s.mpTake port 3 crc bytes (fun s _ period l =>
    if s.wgState = 3 ∧ s.wg.caughtUp = false then
      let s := s.snapTake 4 l
      let was := s.fld pkWg WG_SNAP_STAT_PHASE
      let s := if phase = 3 ∧ was < 3 then (s.setWord pkWg WG_CUT period).irq pkWg 8 else s
      let s := s.setFld pkWg WG_SNAP_STAT_PHASE (if was = 5 then 5 else if phase = 3 ∧ left = 0 then 5 else phase)
      s.setFld pkWg WG_SNAP_STAT_LEFT left
    else s.takeEngine l))

/-- The end of a sweep (R545). -/
def State.sweepEnd (s : State) : State :=
  let d := s.wg.dirty.mergeSort (fun a b => decide (a ≤ b))
  if d.length ≤ 64 then
    ((s.setWg { s.wg with cutNext := true }).setWord pkWg WG_CUT (s.word pkWg WG_PERIOD + 1#32)).setFld pkWg
      WG_SNAP_STAT_LEFT d.length
  else ((s.setWg { s.wg with sweep := d }).setFld pkWg WG_SNAP_STAT_PHASE 2).setFld pkWg WG_SNAP_STAT_LEFT d.length

/-- The port STATE frames go out of: the lower-numbered one whose link is up (R525). -/
def State.statePort (s : State) : Nat := if s.mpUp 0 then 0 else 1

def blockBytes (a : Nat) (l : List (BitVec 8)) : List (BitVec 8) := beBytes a 4 ++ l

/-- R544, R545: the sender finishes one STATE frame of four blocks and moves on. -/
def execStateFrameSent (s : State) : Result :=
  .next (
    let w := s.wg
    let send (s : State) (l : List (BitVec 8)) : State := s.mpSend s.statePort 3 s.wgRank (s.word pkWg WG_PERIOD) l
    if !w.sending then s
    else if s.fld pkWg WG_SNAP_STAT_PHASE = 3 then
      let s := send s ((w.cutBuf.take 4).flatMap (fun x => blockBytes x.1 x.2))
      let rest := w.cutBuf.drop 4
      let s := (s.setWg { s.wg with cutBuf := rest }).setFld pkWg WG_SNAP_STAT_LEFT rest.length
      if rest.isEmpty then s.setFld pkWg WG_SNAP_STAT_PHASE 5 else s
    else if w.sweep.isEmpty then s
    else
      let now := w.sweep.take 4
      let rest := w.sweep.drop 4
      let s := send s (now.flatMap (fun a => blockBytes a (mbytes s.mem a 256)))
      let s := s.setWg { s.wg with sweep := rest, dirty := s.wg.dirty.filter (fun a => !(now.contains a)) }
      let s := s.setFld pkWg WG_SNAP_STAT_LEFT rest.length
      if rest.isEmpty then s.sweepEnd else s)

/-- R545: at the boundary of the cut period the sender copies the remaining dirty blocks. -/
def execSnapshotCut (s : State) : Result :=
  .next (if s.wg.sending && s.wg.cutNext && s.word pkWg WG_PERIOD == s.word pkWg WG_CUT then
      let d := s.wg.dirty.mergeSort (fun a b => decide (a ≤ b))
      let s := s.setWg { s.wg with cutNext := false, dirty := [], cutBuf := d.map (fun a => (a, mbytes s.mem a 256)) }
      ((s.setFld pkWg WG_SNAP_STAT_PHASE (if d.isEmpty then 5 else 3)).setFld pkWg WG_SNAP_STAT_LEFT d.length).irq pkWg 8
    else s)

/-- WG.CTRL.CAUGHT_UP: from the next boundary step-loading stops and STEP counts (R547). -/
def State.wgCaughtUp (s : State) : State :=
  if s.wgState = 3 then (s.setWg { s.wg with caughtReq := true }).setFld pkWg WG_STAT_STEP 0 else s

/-- R547: CAUGHT_UP. -/
def execCaughtUp (who : Initiator) (s : State) : Result := .next (s.keyTaken pkWg who).wgCaughtUp

/-- R548: no in-step state within 1 s of CAUGHT_UP. -/
def execReturnTimeout (s : State) : Result :=
  .next (if s.wgState = 3 ∧ s.wg.caughtReq = true then s.restartReturn else s)

/-- R533: XSWAP_MASK written: the swap is armed, or ignored where XSWAP_AT, or the last base tick before it, is not ahead. -/
def execXswapMask (who : Initiator) (v : Word) (s : State) : Result :=
  .next (
    let (s, w) := s.regWrite who pkWg 0x060 v
    match w with
    | none => s
    | some _ =>
      let ahead := s.word pkWg WG_XSWAP_AT - s.word pkWg WG_PERIOD
      let last := s.word pkWg WG_XSWAP_AT * BitVec.ofNat 32 (s.fld pkWg WG_CFG_PERIOD_TICKS) - 1#32
      let left := last - s.word (pkCe 0) CE_TICKNO
      if ahead.getLsbD 31 || ahead == 0#32 || left.getLsbD 31 || left == 0#32 then s.setBit pkWg WG_STAT_XSWAP_LATE true
      else s.setWg { s.wg with xswap := true })

end Sys2Proof.Machine
end

