-- ==== Sys2Proof/Machine/Bus.lean ====
section
/-!
DEFINITION. Machine/Bus.lean: accesses over the KCB (R30-R40, R60-R69, R88, R89): the regions of R35, register pages read and
written, and what a write of a command register starts.
-/
namespace Sys2Proof.Machine

/-- What an access ends in: data (of a write: 0), an error, or waiting for a page clock that has stopped (R88). -/
inductive BusOut
  | ok (w : Word) | err | waits
  deriving DecidableEq, Repr

/-- The state a meaning ends in. -/
def Result.state (r : Result) (s : State) : State :=
  match r with
  | .next t => t
  | _ => s

/-! ### Pages that are off or stopped (R74, R88, R89) -/

/-- The page's clock comes from PLL-A and stops with it: CORE, COVE, ENG and PHY (R70, R74). -/
def onPllA (k : Nat) : Bool :=
  match kindOf k with
  | some .ce | some .sw | some .ij | some .cp | some .cv | some .ac | some .qg | some .port => true
  | _ => false

/-- The clock of a page cannot return (R74). -/
def State.clockLost (s : State) (k : Nat) : Bool := s.pw.pllALost && onPllA k

/-- An access to a powered-off page is recorded (R89, R93). -/
def State.pageAbsent (s : State) (k : Nat) : State :=
  let s := if s.bit pkSys SYS_KCB_STAT_PAGE_ABSENT then s
    else ((s.setBit pkSys SYS_KCB_STAT_PAGE_ABSENT true).setFld pkSys SYS_KCB_STAT_ABSENT_GROUP (k / 32)).setFld pkSys
      SYS_KCB_STAT_ABSENT_INST (k % 32)
  s.cntS pkSys SYS_KCB_STAT_ABSENT_COUNT

/-! ### Writes of the common header (R44-R66) -/

/-- A write of PAGE_SHADOW_CTRL (R66): COPY is judged first, then the swap request. The schedule swaps with the MS page alone,
after its check (R461, R464); a request on the BTH page has no effect (R502). -/
def State.shadowWrite (s : State) (who : Initiator) (k : Nat) (v : Word) : State :=
  s.shadowCtrl who k (fun s =>
    let s := if bitN v.toNat 2 then s.modPage k (fun p => { p with swapIgnored := false }) else s
    let s := if bitN v.toNat 3 then s.copyReq k else s
    if bitN v.toNat 0 then
      match kindOf k with
      | some .ms => s.scheduleReq
      | some .bth => s
      | _ => s.swapReq k
    else s)

/-- A write of PAGE_STAT: CLAMPED with the log, and SAT, are cleared by 1 (R47). -/
def Page.statClear (p : Page) (v : Word) : Page :=
  let p1 := if bitN v.toNat 8 then { p with clamped := false, clampCause := 0#4, clampCount := 0#8, clampOff := 0#12 } else p
  if bitN v.toNat 9 then { p1 with sat := false } else p1

/-- A write of the common header. -/
def State.headerWrite (s : State) (who : Initiator) (k off : Nat) (v : Word) : State :=
  let mask := match kindOf k with | some d => irqMask d | none => 0#32
  match off with
  | 0x004 => s.ctrlWrite who k v
  | 0x008 => (s.keyTaken k who).modPage k (fun p => p.statClear v)
  | 0x00C => (s.keyTaken k who).modPage k (fun p => { p with irqFlags := p.irqFlags &&& ~~~ v })
  | 0x010 => (s.keyTaken k who).modPage k (fun p => { p with irqEn := v &&& mask })
  | 0x014 =>
    let s := s.keyTaken k who
    if (s.page k).lock then s.logClamp k 2 0x014 else s.modPage k (fun p => { p with route := v &&& 0x00010F0F#32 })
  | 0x01C => s.modPage k (fun p => p.keyWord k who v)
  | 0x020 => s.shadowWrite who k v
  | _ => s.keyTaken k who

/-! ### Writes of block registers -/

/-- A register write, and what it starts where it was accepted. -/
def State.regAct (s : State) (who : Initiator) (k off : Nat) (v : Word) (f : State → Word → State) : State :=
  match s.regWrite who k off v with
  | (s, some w) => f s w
  | (s, none) => s

/-- The engine's check no longer holds (R220). -/
def State.unchecked (s : State) (k : Nat) : State := s.setFld (pkCe k) CE_STAT_CHECK 0

/-- The registers of an engine that its check covers (R220): CFG, the groups' schedules and ranges, the links. -/
def ceChecked (off : Nat) : Bool := off == 0x040 || decide (0x060 ≤ off ∧ off < 0x080) || decide (0x0C0 ≤ off ∧ off < 0x140)

/-- The excitation changes its frequency: its resolver channels lock again (R199). -/
def State.relockResolvers (s : State) : State :=
  forN 4 (fun k s => if s.scMode k = 6 ∧ s.running (pkSc k) = true then (s.scStale k).setSt (pkSc k) .idle else s) s

/-- A word taken by the update port's nonce registers (R121, R129). -/
def State.nonceWord (s : State) (i : Nat) (v : Word) : State := s.setBoot (fun b => { b with nonceIn := b.nonceIn.set i v })

/-- The command registers of capture k (R274, R276, R282), in the order of their bits. -/
def State.capCmd (s : State) (who : Initiator) (k : Nat) (v : Word) : State :=
  let s := s.keyTaken pkCp who
  let s := s.when (bitN v.toNat 0) (fun s => (execCaptureClaim who k (fget CP_CAP_CMD_NSEG v) s).state s)
  let s := s.when (bitN v.toNat 1) (fun s => (execCaptureArm who k s).state s)
  let s := s.when (bitN v.toNat 2) (fun s => (execCaptureForce who k s).state s)
  s.when (bitN v.toNat 3) (fun s => (execCaptureRelease who k s).state s)

/-- A write of a block register outside TEST, with what it starts (the register tables of the block chapters). -/
def State.blockWrite (s : State) (who : Initiator) (k off : Nat) (v : Word) : State :=
  let i := k % 32
  let n := v.toNat
  let plain : State := (s.regWrite who k off v).1
  match kindOf k with
  | some .sys =>
    match off with
    | 0x044 => s.regAct who k off v (fun s _ => s.tideReq v)
    | 0x048 => s.regAct who k off v (fun s _ => s.when (bitN n 0) (fun s =>
        ((s.setFld pkSys SYS_KCB_STAT_ABSENT_GROUP 0).setFld pkSys SYS_KCB_STAT_ABSENT_INST 0).setFld pkSys SYS_KCB_STAT_ABSENT_COUNT 0))
    | _ => plain
  | some .sup => if off = 0x058 then (execSensorSupplyEnable who v s).state s else plain
  | some .sec =>
    match off with
    | 0x044 => s.regAct who k off v (fun s _ => s.bankCtrl v)
    | 0x04C => s.regAct who k off v (fun s _ => s.updCtrl v)
    | 0x050 => s.regAct who k off v (fun s _ => s.nonceWord 0 v)
    | 0x054 => s.regAct who k off v (fun s _ => s.nonceWord 1 v)
    | 0x058 => s.regAct who k off v (fun s _ => s.nonceWord 2 v)
    | 0x05C => s.regAct who k off v (fun s _ => s.updData v)
    | _ => plain
  | some .cs => if off = 0x040 then (execGainWrite who i v s).state s else plain
  | some .cst =>
    if off = 0x084 then
      (if bitN n 8 then (execTenderRequest who (bitsN n 4 0) s).state s else (execTenderWithdraw who s).state s)
    else plain
  | some .sc =>
    if off = 0x040 ∨ off = 0x048 ∨ off = 0x05C then s.regAct who k off v (fun s _ => s.scGeometry i) else plain
  | some .sx =>
    if off = 0x040 then
      let old := s.fld pkSx SX_EXC_FREQ
      s.regAct who k off v (fun s w => if fget SX_EXC_FREQ w = old then s else s.relockResolvers)
    else plain
  | some .ce =>
    if off = 0x044 then (if bitN n 0 then (execGo who i s).state s else plain)
    else if off = CE_TICK_CFG_SYNC.off then
      s.regAct who k off v (fun s _ => if s.bit (pkCe 0) CE_TICK_CFG_SYNC then s else { s with tickAligned := false })
    else if ceChecked off then s.regAct who k off v (fun s _ => s.unchecked i)
    else plain
  | some .sw =>
    if off = SW_CMD.off then
      let s := (execClear who i (BitVec.ofNat 4 (fget SW_CMD_CLEAR v)) s).state s
      (execResume who i (BitVec.ofNat 4 (fget SW_CMD_RESUME v)) s).state s
    else plain
  | some .ij =>
    if off = IJ_CMD.off then
      let s := s.keyTaken k who
      let s := s.when (bitN n 0) (fun s => (execInjectionArm who (i - 8) s).state s)
      s.when (bitN n 1) (fun s => (execInjectionStop who (i - 8) s).state s)
    else plain
  | some .cp => if 0x080 ≤ off ∧ off < 0x200 ∧ (off - 0x080) % 0x40 = 0x10 then s.capCmd who ((off - 0x080) / 0x40) v else plain
  | some .gl => if off = 0x05C then (execLeakageCheck who i v s).state s else plain
  | some .is => if off = 0x044 then s.isCmd who i (bitN n 0) (bitN n 1) else plain
  | some .cv =>
    if off = 0x04C then
      let s := s.keyTaken k who
      (s.when (bitN n 8) (fun s => s.cvFlag i 10)).when (bitN n 0) (fun s => s.coveStart i)
    else plain
  | some .ac => if off = 0x048 then (s.keyTaken k who).when (bitN n 0) (fun s => s.acStart i) else plain
  | some .seawall =>
    match off with
    | 0x050 => (execSealConfirm who v s).state s
    | 0x054 => (execSealKey who v s).state s
    | 0x060 => (execWdAns who v (s.free 1 != 0#1) s.drawn).state s
    | _ => plain
  | some .hm =>
    match off with
    | 0x050 => (execAck who v s).state s
    | 0x054 => if bitN n 0 then (execHistoryRelease who s).state s else plain
    | _ => plain
  | some .ms =>
    if off = 0x050 then (s.keyTaken k who).when (bitN n 0) (fun s => s.msReturn)
    else if 0x080 ≤ off ∧ off < 0x090 then
      s.regAct who k off v (fun s _ => s.setMa { s.ma with macKey := tput s.ma.macKey ((off - 0x080) / 4) v })
    else plain
  | some .bth => if off = 0x040 then (s.keyTaken k who).commit (n % 256) else plain
  | some .wg =>
    match off with
    | 0x048 => (s.keyTaken k who).when (bitN n 0) (fun s => s.wgCaughtUp)
    | 0x060 => (execXswapMask who v s).state s
    | _ => plain
  | some .dr =>
    if off = 0x044 then
      let s := s.keyTaken k who
      let s := s.when (bitN n 0) (fun s => (execSweep who s).state s)
      s.when (bitN n 1) (fun s => (execAbortAll who s).state s)
    else plain
  | some .ga => if off = GA_CTRL.off then (s.keyTaken k who).when (bitN n 0) (fun s => s.sarTrig i 0) else plain
  | some .can => if off = CAN_CTRL.off then s.regAct who k off v (fun s _ => s.canCtrl i v) else plain
  | some .spi => if off = SPI_TX.off then s.regAct who k off v (fun s _ => s.spiTx i v) else plain
  | _ => plain

/-- A write that reaches a live page (R10, R53, R60): in TEST a block register's word is taken into the configuration shadow. -/
def State.pageWrite (s : State) (who : Initiator) (k off : Nat) (v : Word) : State :=
  if kindOf k = none then s
  else if off < 0x040 then s.headerWrite who k off v
  else if s.st k == .test then (s.regWrite who k off v).1
  else s.blockWrite who k off v

/-! ### Reads of pages -/

/-- A word with its open bits free (log entry 5). -/
def State.withOpen (s : State) (k off : Nat) (w : Word) : Word :=
  let m := s.openBits k off
  (w &&& ~~~ m) ||| (s.free 32 &&& m)

/-- RC fields clear after the read (R12, R68). -/
def State.rcClear (s : State) (k off : Nat) : State :=
  match regDesc k off with
  | some d =>
    if d.fields.any (fun f => f.acc == .rc) then
      s.setReg k off (d.fields.foldl (fun w f => if f.acc == .rc then fput ⟨off, f.lo, f.width⟩ w 0 else w) (s.reg k off))
    else s
  | none => s

/-- What a read of a block register does beside returning it. -/
def State.readAct (s : State) (k off : Nat) : State :=
  let s := s.rcClear k off
  match kindOf k with
  | some .can =>
    if off = CAN_FIFO_POP.off then s.fifoPop (k % 32)
    else if CAN_MB.off ≤ off then
      let c := s.canOf (k % 32)
      s.setCan (k % 32) { c with unread := c.unread.filter (fun n => n != (off - CAN_MB.off) / 96) }
    else s
  | _ => s

/-- The high word of a counter wider than 32 bits that a read of its low word latches (R69). -/
def highWordOf (k off : Nat) : Option Nat := if k = pkMs ∧ off = MS_TM_LO.off then some MS_TM_HI.off else none

/-- Key of a holding register: page and offset of the high word. -/
def latchKey (k off : Nat) : Nat := k * 0x1000 + off

/-- A low word is read: the high word is latched for this initiator (R69). -/
def State.latchHigh (s : State) (who : Initiator) (k off : Nat) : State :=
  match highWordOf k off with
  | some h =>
    let rest := s.latches.filter (fun x => !(x.1 == who && x.2.1 == latchKey k h))
    { s with latches := (who, latchKey k h, s.view k h) :: rest }
  | none => s

/-- The latched high word of this initiator, used up by its read (R69). -/
def State.latched (s : State) (who : Initiator) (k off : Nat) : Option Word :=
  (s.latches.find? (fun x => x.1 == who && x.2.1 == latchKey k off)).map (fun x => x.2.2)

/-- A read that reaches a live page. -/
def State.pageRead (s : State) (who : Initiator) (k off : Nat) : State × Word :=
  match s.latched who k off with
  | some w => ({ s with latches := s.latches.filter (fun x => !(x.1 == who && x.2.1 == latchKey k off)) }, w)
  | none =>
    let w := s.withOpen k off (s.view k off)
    let t := if s.openBits k off = 0#32 then s else s.drawn
    let t := t.latchHigh who k off
    (if kindOf k = none || decide (off < 0x040) || s.st k == .test then t else t.readAct k off, w)

/-! ### Regions (R35, R36) -/

/-- The register pages. -/
def isPageAddr (a : Nat) : Bool := decide (0x40000000 ≤ a ∧ a < 0x402A0000)
def pageOf (a : Nat) : Nat := (a - 0x40000000) / 0x1000
def offOf (a : Nat) : Nat := a % 0x1000

/-- The regions of R35. -/
def inRegion (a : Nat) : Bool :=
  decide (0x10000000 ≤ a ∧ a < 0x11800000) || decide (0x20000000 ≤ a ∧ a < 0x20800000)
  || decide (0x30000000 ≤ a ∧ a < 0x30400000 ∧ a % 0x100000 < 0x80000)
  || decide (0x31000000 ≤ a ∧ a < 0x31400000 ∧ a % 0x100000 < 0x80000)
  || decide (0x32000000 ≤ a ∧ a < 0x32060000) || decide (0x33000000 ≤ a ∧ a < 0x33018000)
  || decide (0x34000000 ≤ a ∧ a < 0x34080000) || decide (0x35000000 ≤ a ∧ a < 0x35080000)
  || decide (0x36000000 ≤ a ∧ a < 0x36010000) || isPageAddr a

/-- An aligned access of 1, 2 or 4 bytes; to a register page, of 4 (R39). -/
def accessOk (a n : Nat) : Bool := (n == 4 || (!(isPageAddr a) && (n == 1 || n == 2))) && a % n == 0

/-- The other pairs' reservations that a store of n bytes at a ends (R3). -/
def State.breakRes (s : State) (who : Initiator) (a n : Nat) : State :=
  let hit (v : App) : Bool := match v.reserved with | some r => decide (r < a + n ∧ a < r + 4) | none => false
  let f (k : Nat) (v : App) : App := if who != .ac k && hit v then { v with reserved := none } else v
  { s with app := s.app.map (fun x => (x.1, f x.1 x.2)) }

/-- Store n bytes in memory, in the checker-side copy as well where asked; snapshot marks and reservations follow. -/
def State.memPut (s : State) (who : Initiator) (a n v : Nat) (both : Bool) : State :=
  let s := { s with mem := msetN s.mem a n v, ckMem := if both then msetN s.ckMem a n v else s.ckMem }
  (s.markDirty a).breakRes who a n

/-- A buffer byte range of a berth that a KCB write may not touch: receive buffers, and the complete buffer of a transmit berth
(R498, R499). -/
def State.berthBars (s : State) (b a n : Nat) : Bool :=
  let w := s.berth0 b
  let len := fget BTH_BERTH1_DLEN (s.berth1 b)
  let hit (j : Bool) : Bool := decide (s.berthAddr b j < a + n ∧ a < s.berthAddr b j + len)
  fget BTH_BERTH0_EN w == 1 &&
    (if fget BTH_BERTH0_DIR w == 0 then hit false || hit true
     else (s.berth b).valid && hit (s.berth b).buf)

/-- A write to memory: none where it ends in an error (R120, R200, R201, R269, R277, R321, R371, R443, R498, R499). -/
def State.memWrite (s : State) (who : Initiator) (a n v : Nat) : Option State :=
  if a < 0x20000000 then none
  else if a < 0x30000000 then some (s.memPut who a n v false)
  else if a < 0x31000000 then
    let k := (a - 0x30000000) / 0x100000
    if inItcm k a then
      (if s.st (pkAc k) == .off || s.st (pkAc k) == .idle then some (s.memPut who a n v (inMirror k a)) else none)
    else some (s.memPut who a n v false)
  else if a < 0x32000000 then
    let k := (a - 0x31000000) / 0x100000
    if s.st (pkCv k) == .off || s.st (pkCv k) == .idle then some (s.memPut who a n v true) else none
  else if a < 0x33000000 then
    let k := (a - 0x32000000) / 0x10000
    let o := a % 0x10000
    if o < 0xC00 then
      (if s.st (pkCe k) == .off || s.st (pkCe k) == .idle then some ((s.memPut who a n v false).unchecked k) else none)
    else if o < 0x1400 then none else some s
  else if a < 0x34000000 then
    let k := (a - 0x33000000) / 0x4000
    let j := (a - 0x33000000) / 0x1000 % 4
    if s.bit (pkSw k) (SW_TBL_CFG_LRN.ix j 0x40) then none else some ((s.memPut who a n v false).swRecompute k j)
  else if a < 0x35000000 then none
  else if a < 0x36000000 then
    (if (List.range 256).any (fun b => s.berthBars b a n) then none else some (s.memPut who a n v false))
  else none

/-- A read of memory (R200, R277, R443). -/
def State.memRead (s : State) (a n : Nat) : Nat :=
  if 0x34000000 ≤ a ∧ a < 0x35000000 then
    let g := s.segCode ((a - 0x34000000) / 0x2000)
    if 1 ≤ g ∧ g ≤ 6 then mgetN s.mem a n else 0
  else if 0x36000000 ≤ a then
    (s.storeWord ((a - 0x36000000) / 4 * 4)).toNat / 2 ^ (8 * (a % 4)) % 2 ^ (8 * n)
  else mgetN s.mem a n

/-! ### Accesses -/

/-- A KCB write (R35, R39, R88, R89). -/
def State.busWrite (s : State) (who : Initiator) (a n : Nat) (v : Word) : State × BusOut :=
  if !(inRegion a) || !(accessOk a n) then (s, .err)
  else if isPageAddr a then
    let k := pageOf a
    if !((s.page k).powered) then (s.pageAbsent k, .ok 0#32)
    else if s.clockLost k then (s, .waits)
    else (s.pageWrite who k (offOf a) v, .ok 0#32)
  else
    match s.memWrite who a n v.toNat with
    | some s => (s, .ok 0#32)
    | none => (s, .err)

/-- A KCB read (R35, R39, R88, R89). -/
def State.busRead (s : State) (who : Initiator) (a n : Nat) : State × BusOut :=
  if !(inRegion a) || !(accessOk a n) then (s, .err)
  else if isPageAddr a then
    let k := pageOf a
    if !((s.page k).powered) then (s.pageAbsent k, .ok 0#32)
    else if s.clockLost k then (s, .waits)
    else
      let (t, w) := s.pageRead who k (offOf a)
      (t, .ok w)
  else (s, .ok (BitVec.ofNat 32 (s.memRead a n)))

/-- The KCB's answer to an access. -/
def BusOut.reply (o : BusOut) (who : Initiator) (read : Bool) : BusReply :=
  match o with
  | .ok w => if read then .data who w else .done who
  | .err => .error who
  | .waits => .none

end Sys2Proof.Machine
end

