-- ==== Sys2Proof/Machine/AppCore.lean ====
section
/-!
DEFINITION. Machine/AppCore.lean: one application core: registers, CSRs, traps, signature and checkpoint hash (R367-R370, R375,
R382-R384; the privileged architecture of R3).
-/
namespace Sys2Proof.Machine

/-! ### Registers (R382, R383) -/

def AppCore.rd (c : AppCore) (r : Nat) : Word := tget 0#32 c.regs r

/-- A register write: its parity is written with it; x0 and numbers above fcsr hold nothing. -/
def AppCore.put (c : AppCore) (r : Nat) (v : Word) : AppCore :=
  if r = 0 ∨ 64 < r then c else { c with regs := tput c.regs r v, bad := c.bad.filter (fun x => x != r) }

def AppCore.csr (c : AppCore) (n : Nat) : Word := tget 0#32 c.csrs n
def AppCore.setCsr (c : AppCore) (n : Nat) (v : Word) : AppCore := { c with csrs := tput c.csrs n v }

/-- mstatus.FS becomes dirty with a floating-point register (R3). -/
def AppCore.dirtyFs (c : AppCore) (r : Nat) : AppCore :=
  if 32 ≤ r ∧ r ≤ 64 then c.setCsr 0x300 (c.csr 0x300 ||| 0x6000#32) else c

/-- The signature takes in a register write of a retired instruction: number, then value (R383). -/
def AppCore.sign (c : AppCore) (r : Nat) (v : Word) : AppCore :=
  if 1 ≤ r ∧ r ≤ 63 then { c with sig := (BitVec.ofNat 8 r :: leBytes v.toNat 4).foldl crcByte c.sig } else c

/-- A result of a retired instruction. -/
def AppCore.result (c : AppCore) (r : Nat) (v : Word) : AppCore := ((c.put r v).sign r v).dirtyFs r

/-- The instruction retires; the next one is at `next`. -/
def AppCore.retire (c : AppCore) (next : Word) : AppCore := { c with pc := next, retired := c.retired + 1, win := c.win + 1 }

/-! ### CSRs (R3, R367, R369, R375) -/

/-- misa: RV32IMAFC with user mode. -/
def misaValue : Word := 0x40101125#32

/-- The CSRs echoed to the checker (R375); cycle and cycleh are reads of mcycle. -/
def csrEchoed (n : Nat) : Bool :=
  n == 0xB00 || n == 0xB80 || n == 0xC00 || n == 0xC80 || n == 0xC01 || n == 0xC81 || n == 0x344 || n == 0xFC0

/-- The hardware performance counters and events of R3 that read 0 (R367). -/
def csrHpm (n : Nat) : Bool :=
  decide ((0xB03 ≤ n ∧ n < 0xB20) ∨ (0xB83 ≤ n ∧ n < 0xBA0) ∨ (0xC03 ≤ n ∧ n < 0xC20) ∨ (0xC83 ≤ n ∧ n < 0xCA0)
    ∨ (0x323 ≤ n ∧ n < 0x340) ∨ n = 0x320 ∨ n = 0x310)

/-- The identity CSRs whose values R3 leaves to the implementation. -/
def csrInfo (n : Nat) : Bool := n == 0xF11 || n == 0xF12 || n == 0xF13 || n == 0xF15

/-- The CSRs that hold what is written to them, within their legal values. -/
def csrHeld (n : Nat) : Bool :=
  n == 0x300 || n == 0x304 || n == 0x305 || n == 0x306 || n == 0x340 || n == 0x341 || n == 0x342 || n == 0x343
  || decide (0x3A0 ≤ n ∧ n < 0x3A4) || decide (0x3B0 ≤ n ∧ n < 0x3C0) || n == 0x7A0 || n == 0x7A1 || n == 0x7A2

/-- A CSR the core has. -/
def csrKnown (n : Nat) : Bool :=
  csrHeld n || csrHpm n || csrInfo n || csrEchoed n || n == 0x001 || n == 0x002 || n == 0x003 || n == 0x301 || n == 0x7A4
  || n == 0xB02 || n == 0xB82 || n == 0xC02 || n == 0xC82 || n == 0xF14 || n == 0x7C0 || n == 0xFC1

/-- A CSR access is legal in the core's mode (R3, R369): kzpair alone of its range is open to user mode. -/
def AppCore.csrAllowed (c : AppCore) (n : Nat) (write : Bool) : Bool :=
  csrKnown n && !(write && n / 0x400 == 3)
    && (c.machine || n == 0xFC1 || (n / 0x100 % 4 == 0 && !(decide (0xC00 ≤ n ∧ n < 0xC03 ∨ 0xC80 ≤ n ∧ n < 0xC83)
          && !(bitN (c.csr 0x306).toNat (n % 4)))))
    && !(n == 0x001 || n == 0x002 || n == 0x003) || (csrKnown n && n ≤ 3 && (c.csr 0x300).toNat / 2 ^ 13 % 4 != 0)

/-- pmpaddr as read under a granularity of 32 B (R367): the low bits follow the region's mode. -/
def AppCore.pmpAddr (c : AppCore) (i : Nat) : Word :=
  let a := c.csr (0x3B0 + i)
  let mode := (c.csr (0x3A0 + i / 4)).toNat / 2 ^ (8 * (i % 4) + 3) % 4
  if mode = 3 then a ||| 3#32 else a &&& 0xFFFFFFF8#32

/-- mip (R370). -/
def State.mip (s : State) (k : Nat) : Word :=
  let cmp := (s.word (pkAc k) AC_MTIMECMP_HI).toNat * 2 ^ 32 + (s.word (pkAc k) AC_MTIMECMP_LO).toNat
  BitVec.ofNat 32 (b2n (decide (cmp ≤ s.tmNs.toNat)) * 2 ^ 7 + b2n (s.eirq k != 0) * 2 ^ 11
    + (s.appOf k).pulses.toNat / 2 ^ 16 % 4 * 2 ^ 16 + b2n (s.swq.getLsbD k) * 2 ^ 18)

/-- mcycle. -/
def State.mcycle (s : State) (k : Nat) : BitVec 64 := BitVec.ofNat 64 (2 * s.cyc) + (s.appOf k).cycOff

/-- minstret of a core. -/
def AppCore.minstret (c : AppCore) : BitVec 64 := BitVec.ofNat 64 c.retired + c.instOff

def lowWord (x : BitVec 64) : Word := x.setWidth 32
def highWord (x : BitVec 64) : Word := (x >>> 32).setWidth 32

/-- A CSR of a core as read. -/
def State.csrRead (s : State) (k : Nat) (c : AppCore) (n : Nat) : Word :=
  if n = 0x001 then c.rd 64 &&& 0x1F#32
  else if n = 0x002 then (c.rd 64 >>> 5) &&& 7#32
  else if n = 0x003 then c.rd 64 &&& 0xFF#32
  else if n = 0x300 then
    let w := c.csr 0x300
    if w.toNat / 2 ^ 13 % 4 = 3 then w ||| 0x80000000#32 else w
  else if n = 0x301 then misaValue
  else if n = 0x344 then s.mip k
  else if 0x3B0 ≤ n ∧ n < 0x3C0 then c.pmpAddr (n - 0x3B0)
  else if n = 0x7A1 ∨ n = 0x7A2 then c.csr (n + 0x1000 * (1 + (c.csr 0x7A0).toNat))
  else if n = 0x7A4 then 4#32
  else if n = 0xB00 ∨ n = 0xC00 then lowWord (s.mcycle k)
  else if n = 0xB80 ∨ n = 0xC80 then highWord (s.mcycle k)
  else if n = 0xC01 then lowWord s.tmNs
  else if n = 0xC81 then highWord s.tmNs
  else if n = 0xB02 ∨ n = 0xC02 then lowWord c.minstret
  else if n = 0xB82 ∨ n = 0xC82 then highWord c.minstret
  else if n = 0xF14 then BitVec.ofNat 32 k
  else if csrInfo n then Config.hartInfo n
  else if n = 0x7C0 then c.ckpts
  else if n = 0xFC0 then BitVec.ofNat 32 (s.appOf k).quay.length
  else if n = 0xFC1 then
    BitVec.ofNat 32 (k % 4 + 256 * s.fld (pkAc k) AC_CFG_CRIT + 512 * b2n s.sea.mf.bench)
  else if csrHeld n then c.csr n
  else 0#32

/-- One byte of a pmpcfg register (R3): a locked entry keeps its value; NA4 is not selectable at 32 B. -/
def pmpCfgByte (old new : Nat) : Nat :=
  if 128 ≤ old then old
  else
    let b := new &&& 0x9F
    let b := if b / 8 % 4 = 2 then b &&& 0x87 else b
    if b % 4 = 2 then b &&& 0xFC else b

/-- A pmpaddr register is locked by its own entry, or by a locked TOR entry above it (R3). -/
def AppCore.pmpLocked (c : AppCore) (i : Nat) : Bool :=
  let cfg (j : Nat) : Nat := (c.csr (0x3A0 + j / 4)).toNat / 2 ^ (8 * (j % 4)) % 256
  decide (128 ≤ cfg i) || (decide (i < 15 ∧ 128 ≤ cfg (i + 1)) && cfg (i + 1) / 8 % 4 == 1)

/-- The value a CSR holds after a write (R3). -/
def AppCore.csrLegal (c : AppCore) (n : Nat) (w : Word) : Word :=
  if n = 0x300 then
    let m := w &&& 0x00227888#32
    (if w.toNat / 2 ^ 11 % 4 = 3 then m else m &&& 0xFFFFE7FF#32) ||| (w &&& 0x00006000#32)
  else if n = 0x304 then w &&& 0x00070888#32
  else if n = 0x305 then w &&& 0xFFFFFFFD#32
  else if n = 0x306 then w &&& 7#32
  else if n = 0x341 then w &&& 0xFFFFFFFE#32
  else if 0x3A0 ≤ n ∧ n < 0x3A4 then
    let old := (c.csr n).toNat
    BitVec.ofNat 32 ((List.range 4).foldl (fun a i =>
      a + 2 ^ (8 * i) * pmpCfgByte (old / 2 ^ (8 * i) % 256) (w.toNat / 2 ^ (8 * i) % 256)) 0)
  else if 0x3B0 ≤ n ∧ n < 0x3C0 then (if c.pmpLocked (n - 0x3B0) then c.csr n else w)
  else if n = 0x7A0 then (if w.toNat < 4 then w else c.csr n)
  else w

/-- A CSR that both cores hold is written in one of them. -/
def AppCore.csrPut (c : AppCore) (n : Nat) (w : Word) : AppCore :=
  if n = 0x001 then (c.put 64 ((c.rd 64 &&& 0xE0#32) ||| (w &&& 0x1F#32))).dirtyFs 64
  else if n = 0x002 then (c.put 64 ((c.rd 64 &&& 0x1F#32) ||| ((w &&& 7#32) <<< 5))).dirtyFs 64
  else if n = 0x003 then (c.put 64 (w &&& 0xFF#32)).dirtyFs 64
  else if n = 0x7A1 ∨ n = 0x7A2 then c.setCsr (n + 0x1000 * (1 + (c.csr 0x7A0).toNat)) w
  else if n = 0xB02 then { c with instOff := (highWord c.minstret ++ w : BitVec 64) - BitVec.ofNat 64 c.retired }
  else if n = 0xB82 then { c with instOff := (w ++ lowWord c.minstret : BitVec 64) - BitVec.ofNat 64 c.retired }
  else if csrHeld n then c.setCsr n (c.csrLegal n w)
  else c

/-- A CSR that the pair holds once is written by the main core: mcycle, and the pulse bits of mip (R370). -/
def State.csrShared (s : State) (k n : Nat) (w : Word) : State :=
  let v := s.appOf k
  if n = 0xB00 then s.setApp k { v with cycOff := (highWord (s.mcycle k) ++ w : BitVec 64) - BitVec.ofNat 64 (2 * s.cyc) }
  else if n = 0xB80 then s.setApp k { v with cycOff := (w ++ lowWord (s.mcycle k) : BitVec 64) - BitVec.ofNat 64 (2 * s.cyc) }
  else if n = 0x344 then
    let s := s.setApp k { v with pulses := v.pulses &&& w }
    if w.getLsbD 18 then s else { s with swq := s.swq &&& ~~~ (1#4 <<< k) }
  else s

/-! ### Traps (R3, R374) -/

/-- A trap or interrupt is taken: mepc, mcause, mtval and mstatus are written, the core goes to its handler. -/
def AppCore.trap (c : AppCore) (epc cause tval : Word) : AppCore :=
  let st := c.csr 0x300
  let mpp : Word := if c.machine then 0x1800#32 else 0#32
  let mpie : Word := if st.getLsbD 3 then 0x80#32 else 0#32
  let st' := (st &&& 0xFFFFE777#32) ||| mpp ||| mpie
  let base := c.csr 0x305 &&& 0xFFFFFFFC#32
  let pc := if cause.getLsbD 31 && (c.csr 0x305).getLsbD 0 then base + 4#32 * (cause &&& 0x7FFFFFFF#32) else base
  { (((c.setCsr 0x341 epc).setCsr 0x342 cause).setCsr 0x343 tval).setCsr 0x300 st' with machine := true, pc := pc }

/-- MRET: mode and interrupt enable return, MPRV clears on the way to user mode. -/
def AppCore.mret (c : AppCore) : AppCore :=
  let st := c.csr 0x300
  let mie : Word := if st.getLsbD 7 then 8#32 else 0#32
  let toM := st.toNat / 2 ^ 11 % 4 == 3
  let st' := (st &&& 0xFFFFE777#32) ||| mie ||| 0x80#32
  let st'' := if toM then st' else st' &&& 0xFFFDFFFF#32
  { c.setCsr 0x300 st'' with machine := toM }

/-! ### Checkpoints (R384) -/

/-- The 93 words of a checkpoint. -/
def State.ckptWords (s : State) (k : Nat) (c : AppCore) (next tag : Word) : List Word :=
  (List.range 64).map (fun i => c.rd (i + 1)) ++ [next]
    ++ [0x300, 0x304, 0x305, 0x340, 0x341, 0x342, 0x343].map (fun n => s.csrRead k c n)
    ++ (List.range 4).map (fun i => c.csr (0x3A0 + i)) ++ (List.range 16).map (fun i => c.pmpAddr i) ++ [tag]

/-- The hash of a checkpoint. -/
def State.ckptHash (s : State) (k : Nat) (c : AppCore) (next tag : Word) : Word :=
  crc32c ((s.ckptWords k c next tag).flatMap (fun w => leBytes w.toNat 4))

end Sys2Proof.Machine
end

