-- ==== Sys2Proof/Machine/AppOps.lean ====
section
/-!
DEFINITION. Machine/AppOps.lean: the coupling of an application pair: execution of one instruction, the delay FIFO and its
comparison, the quay gate, signature windows, checkpoints and repairs (R371-R391).
-/
namespace Sys2Proof.Machine

/-! ### The quay ranges (R376) -/

/-- The ranges of pair k that contain an address: whether any does, and whether one of them is fenced. -/
def State.quayRange (s : State) (k : Nat) (a : Word) : Bool × Bool :=
  let hit (i : Nat) : Bool :=
    let b := s.word (pkQg k) (QG_RANGE_BASE.ix i 8)
    b.getLsbD 0 && decide (fget QG_RANGE_BASE_BASE b ≤ a.toNat / 256
      ∧ a.toNat / 256 ≤ s.fld (pkQg k) (QG_RANGE_LIMIT_LIMIT.ix i 8))
  let l := (List.range 8).filter hit
  (!l.isEmpty, l.any (fun i => (s.word (pkQg k) (QG_RANGE_BASE.ix i 8)).getLsbD 1))

def State.inQuay (s : State) (k : Nat) (a : Word) : Bool := (s.quayRange k a).1

/-! ### What an instruction does (R367-R371, R381) -/

/-- LR, SC and AMO may address the pair's data TCM, and shared SRAM outside every quay range (R368). -/
def State.amoTarget (s : State) (k : Nat) (a : Word) : Bool :=
  inDtcm k a.toNat || (decide (0x20000000 ≤ a.toNat ∧ a.toNat < 0x20800000) && !(s.inQuay k a))

/-- The exception an instruction of a core raises when it issues, if any: cause and tval (R39, R367-R371, R381). -/
def State.acExcept (s : State) (k : Nat) (c : AppCore) (act : AppAct) : Option (Word × Word) :=
  if !(inItcm k c.pc.toNat) then some (1#32, c.pc)
  else match act with
    | .trap cause tval => some (cause, tval)
    | .load a n _ _ =>
      if a.toNat % n != 0 then some (4#32, a)
      else if !(inRegion a.toNat) || !(accessOk a.toNat n) then some (5#32, a)
      else none
    | .store a n _ =>
      if a.toNat % n != 0 then some (6#32, a)
      else if !(inRegion a.toNat) || inItcm k a.toNat then some (7#32, a)
      else none
    | .lr a _ => if a.toNat % 4 != 0 then some (4#32, a) else if s.amoTarget k a then none else some (7#32, a)
    | .sc a _ _ | .amo _ a _ _ => if a.toNat % 4 != 0 then some (6#32, a) else if s.amoTarget k a then none else some (7#32, a)
    | .csr n _ w => if c.csrAllowed n w.isSome then none else some (2#32, 0#32)
    | .mret => if c.machine then none else some (2#32, 0#32)
    | .plain r _ _ => if 32 ≤ r ∧ (c.csr 0x300).toNat / 2 ^ 13 % 4 = 0 then some (2#32, 0#32) else none

/-- The result of an AMO on the word in memory (R3). -/
def amoResult (op : AmoOp) (old d : Word) : Word :=
  match op with
  | .swap => d
  | .add => old + d
  | .xor => old ^^^ d
  | .and => old &&& d
  | .or => old ||| d
  | .min => if old.toInt ≤ d.toInt then old else d
  | .max => if old.toInt ≤ d.toInt then d else old
  | .minu => if old.toNat ≤ d.toNat then old else d
  | .maxu => if old.toNat ≤ d.toNat then d else old

/-- The value a load of n bytes leaves in its register. -/
def loadValue (n : Nat) (sext : Bool) (w : Word) : Word :=
  let v := w.toNat % 2 ^ (8 * n)
  if sext && n < 4 && decide (2 ^ (8 * n - 1) ≤ v) then BitVec.ofNat 32 (v + 2 ^ 32 - 2 ^ (8 * n)) else BitVec.ofNat 32 v

/-- The destination of an instruction, 0 none (R373). -/
def actDst : AppAct → Nat
  | .plain r _ _ | .load _ _ _ r | .lr _ r | .sc _ _ r | .amo _ _ _ r | .csr _ r _ => r
  | _ => 0

/-- Flags that accrue in fcsr. -/
def AppCore.accrue (c : AppCore) (act : AppAct) : AppCore :=
  match act with
  | .plain _ _ fl => if fl = 0#5 then c else (c.put 64 (c.rd 64 ||| fl.setWidth 32)).dirtyFs 64
  | _ => c

/-- The value an instruction of the main core writes to its register, with what it does to memory and to the CSRs the pair
holds once; none where a load waits for a page whose clock has stopped. -/
def State.acMain (s : State) (k : Nat) (act : AppAct) : Option (State × Word) :=
  let c := (s.appOf k).main
  match act with
  | .plain _ v _ => some (s, v)
  | .load a n sext _ =>
    match s.busRead (.ac k) a.toNat n with
    | (t, .ok w) => some (t, loadValue n sext w)
    | (t, .err) => some (t, 0#32)
    | (_, .waits) => none
  | .store a n d =>
    match s.busWrite (.ac k) a.toNat n (BitVec.ofNat 32 (d.toNat % 2 ^ (8 * n))) with
    | (t, .ok _) => some (t, 0#32)
    | (t, _) => some (t.setApp k { t.appOf k with werrs := (t.appOf k).werrs ++ [a] }, 0#32)
  | .lr a _ => some (s.setApp k { s.appOf k with reserved := some a.toNat }, s.m32 a.toNat)
  | .sc a d _ =>
    let t := s.setApp k { s.appOf k with reserved := none }
    if (s.appOf k).reserved = some a.toNat then some (t.memPut (.ac k) a.toNat 4 d.toNat false, 0#32) else some (t, 1#32)
  | .amo op a d _ =>
    let old := s.m32 a.toNat
    some (s.memPut (.ac k) a.toNat 4 (amoResult op old d).toNat false, old)
  | .csr n _ w =>
    let old := s.csrRead k c n
    some ((match w with | some x => s.csrShared k n x | none => s), old)
  | .trap _ _ | .mret => some (s, 0#32)

/-- What an instruction leaves in a core, given the value for its register. -/
def AppCore.exec (c : AppCore) (act : AppAct) (v next : Word) : AppCore :=
  match act with
  | .csr n r w =>
    let c := match w with | some x => c.csrPut n x | none => c
    (c.result r v).retire next
  | .mret =>
    let pc := c.csr 0x341
    c.mret.retire pc
  | a => ((c.result (actDst a) v).accrue a).retire next

/-! ### Windows (R383) -/

/-- A core's window closes: its signature is kept, the next one starts. -/
def State.acClose (s : State) (k : Nat) (chk : Bool) : State :=
  let v := s.appOf k
  let c := v.core chk
  let sig := c.sig ^^^ 0xFFFFFFFF#32
  let v1 := v.setCore chk { c with win := 0, sig := 0xFFFFFFFF#32 }
  let v2 := if chk then { v1 with ckSigs := v1.ckSigs ++ [sig] }
    else { v1 with sigs := v1.sigs ++ [(c.retired, sig)], closed := v1.closed + 1, stopped := v1.stopped || s.st (pkAc k) == .drain }
  s.setApp k v2

/-- The core's window is due to close: the main core's after 256 instructions; the checker's at the count at which the main core
closed the same window. -/
def State.acDue (s : State) (k : Nat) (chk : Bool) : Bool :=
  let v := s.appOf k
  if chk then (match v.sigs[v.ckSigs.length]? with | some (n, _) => n == v.chk.retired | none => false) else decide (256 ≤ v.main.win)

def State.acCloseDue (s : State) (k : Nat) (chk : Bool) : State := if s.acDue k chk then s.acClose k chk else s

/-- The open window of the main core closes now, where it holds an instruction (R379, R391, R393). -/
def State.acCloseNow (s : State) (k : Nat) : State := if (s.appOf k).main.win = 0 then s else s.acClose k false

/-! ### The quay gate (R377-R381) -/

/-- A release: the store goes out through the KCB; an error is kept for its report (R381). -/
def State.quayOut (s : State) (k : Nat) (e : QuayEntry) : State :=
  let (t, o) := s.busWrite (.ac k) e.addr.toNat e.size e.data
  let t := t.cntW (pkQg k) QG_RELEASED
  match o with
  | .ok _ => t
  | _ => t.setApp k { t.appOf k with werrs := (t.appOf k).werrs ++ [e.addr] }

/-- Matched entries are released in program order; a fenced one waits for its window. -/
def State.quayRelease : Nat → State → Nat → State
  | 0, s, _ => s
  | n + 1, s, k =>
    let v := s.appOf k
    match v.quay with
    | e :: rest =>
      if e.matched && (!e.fenced || decide (e.window < v.compared)) then ((s.setQuay k rest).quayOut k e).quayRelease n k else s
    | [] => s

/-- On a full buffer whose oldest entry waits only for the open window, that window closes (R379). -/
def State.forceClose (s : State) (k : Nat) : State :=
  let v := s.appOf k
  match v.quay.head? with
  | some e =>
    if v.fullStall && e.fenced && e.matched && e.window == v.closed then (s.acClose k false).cntS (pkQg k) QG_CNT_FORCED else s
  | none => s

/-- Releases, and the forced closure where the core is stalled. -/
def State.quayGo (s : State) (k : Nat) : State := (s.quayRelease 32 k).forceClose k

/-- The main core is held on the quay (R379, R380). -/
def State.quayStall (s : State) (k : Nat) : State := s.setBit (pkAc k) AC_STAT_QSTALL true

/-- A quay store finds 32 entries held (R379). -/
def State.quayFull (s : State) (k : Nat) : State :=
  let v := s.appOf k
  if v.fullStall then s
  else
    let s := ((s.setApp k { v with fullStall := true }).quayStall k).cntS (pkQg k) QG_CNT_STALLS
    let s := if s.bit (pkQg k) QG_STAT_FULL_SEEN then s else (s.setBit (pkQg k) QG_STAT_FULL_SEEN true).irq (pkQg k) 8
    s.forceClose k

/-! ### The main core -/

/-- The main core can retire: the pair runs or drains, is not stopped or under repair, and the FIFO has room (R372, R373). -/
def State.mainReady (s : State) (k : Nat) : Bool :=
  let v := s.appOf k
  s.acOn k && !v.stopped && v.repair.isNone && decide (v.fifo.length < 96)

/-- An entry of the delay FIFO. -/
def State.fifoPut (s : State) (k : Nat) (e : AppEntry) : State := s.setApp k { s.appOf k with fifo := (s.appOf k).fifo ++ [e] }

/-- The checkpoint of a core: its hash joins those to be compared (R384). -/
def State.ckptTake (s : State) (k : Nat) (chk : Bool) (next tag : Word) : State :=
  let v := s.appOf k
  let c := v.core chk
  let h := s.ckptHash k c next tag
  let v := v.setCore chk { c with ckpts := c.ckpts + 1#32 }
  let v := if chk then { v with ckHashes := v.ckHashes ++ [h] } else { v with hashes := v.hashes ++ [h] }
  (s.setApp k v).setBit (pkAc k) AC_STAT_CHKPT_BUSY true

/-- A CSR instruction that writes kzchkpt, with its tag. -/
def actTag : AppAct → Option Word
  | .csr 0x7C0 _ w => w
  | _ => none

/-- The main core retires an instruction whose register value is known: registers, FIFO entry, window and checkpoint. -/
def State.mainRetire (s : State) (k : Nat) (act : AppAct) (v next : Word) (quay : Bool) : State :=
  let a := s.appOf k
  let c := a.main
  let e : AppEntry := { seq := c.retired % 128, fetch := c.pc, act := act, val := v, quay := quay }
  let s := (s.setApp k { a with main := c.exec act v next, fullStall := false }).fifoPut k e
  let s := s.setBit (pkAc k) AC_STAT_QSTALL false
  match actTag act with
  | some t => (s.acClose k false).ckptTake k false next t
  | none => s

/-- A trap or interrupt of the main core (R373, R374). -/
def State.mainTrap (s : State) (k : Nat) (act : AppAct) (cause tval : Word) : State :=
  let a := s.appOf k
  let c := a.main
  let e : AppEntry := { seq := c.retired % 128, fetch := c.pc, act := act, cause := some cause }
  (s.setApp k { a with main := c.trap c.pc cause tval }).fifoPut k e

/-- A store to a quay range enters the buffer (R377), or stalls the core. -/
def State.mainQuay (s : State) (k : Nat) (next a : Word) (n : Nat) (d : Word) : State :=
  let v := s.appOf k
  if 32 ≤ v.quay.length then s.quayFull k
  else
    let e : QuayEntry := { addr := a, size := n, data := BitVec.ofNat 32 (d.toNat % 2 ^ (8 * n)), fenced := (s.quayRange k a).2, window := v.closed }
    (s.setQuay k (v.quay ++ [e])).mainRetire k (.store a n d) 0#32 next true

/-- The main core executes one instruction at its PC (R371-R381). -/
def State.mainStep (s : State) (k : Nat) (next : Word) (act : AppAct) : State :=
  let s := s.acCloseDue k false
  let held (a : Word) : Bool := s.inQuay k a && !((s.appOf k).quay.isEmpty)
  if !(s.mainReady k) then s
  else if held (s.appOf k).main.pc then s.quayStall k
  else match s.acExcept k (s.appOf k).main act with
    | some (cause, tval) => s.mainTrap k act cause tval
    | none =>
      let quayLoad : Bool := match act with | .load a _ _ _ => held a | _ => false
      let quayStore : Option (Word × Nat × Word) := match act with | .store a n d => if s.inQuay k a then some (a, n, d) else none | _ => none
      if quayLoad then s.quayStall k
      else match quayStore with
        | some (a, n, d) => s.mainQuay k next a n d
        | none =>
          match s.acMain k act with
          | some (t, v) => t.mainRetire k act v next false
          | none => s

/-! ### The checker -/

/-- Where two instructions differ, the cause of DIVERGE (R373, R385): the entry's, then the checker's own. -/
def actDiffers (e a : AppAct) : Option Nat :=
  match e, a with
  | .plain r _ _, .plain r' _ _ => if r = r' then none else some 1
  | .load x n _ r, .load x' n' _ r' => if x = x' ∧ n = n' ∧ r = r' then none else some 1
  | .store x n d, .store x' n' d' => if x = x' ∧ n = n' ∧ d.toNat % 2 ^ (8 * n) = d'.toNat % 2 ^ (8 * n) then none else some 2
  | .lr x r, .lr x' r' => if x = x' ∧ r = r' then none else some 1
  | .sc x d r, .sc x' d' r' => if x = x' ∧ d = d' then (if r = r' then none else some 1) else some 2
  | .amo o x d r, .amo o' x' d' r' => if o = o' ∧ x = x' ∧ d = d' then (if r = r' then none else some 1) else some 2
  | .csr _ r _, .csr _ r' _ => if r = r' then none else some 1
  | .mret, .mret => none
  | .trap .., .trap .. => none
  | .store .., _ | _, .store .. | .sc .., _ | _, .sc .. | .amo .., _ | _, .amo .. => some 2
  | .trap .., _ | _, .trap .. => some 4
  | _, _ => some 1

/-- The checker takes the entry at the front of the FIFO: comparison by point (R373, R385, R388, R390). Answers the cause,
kind and source of a divergence. -/
def State.chkDiffers (s : State) (k : Nat) (e : AppEntry) (fetch : Word) (act : AppAct) (quay : Bool) (path : PathFault) :
    Option (Nat × Nat × Nat) :=
  let c := (s.appOf k).chk
  let own := s.acExcept k { c with pc := fetch } act
  if path = .double then some (10, 0x02, 2)
  else if path = .disagree then some (9, 0x13, 2)
  else if path = .lost || e.seq != c.retired % 128 then some (5, 0x03, 0)
  else if e.fetch != fetch then some (1, 0x03, 0)
  else if e.cause != own.map (·.1) then some (4, 0x03, 0)
  else if e.cause.isSome then none
  else if e.quay || quay then
    -- R377: the store itself is compared with the quay buffer's entry.
    (if e.quay && quay then none else some (3, 0x03, 0))
  else (actDiffers e.act act).map (fun n => (n, 0x03, 0))

/-- The checker's store against the oldest entry of the quay buffer that it has not matched (R377). -/
def quayMatch : List QuayEntry → Word → Nat → Word → Option (List QuayEntry)
  | [], _, _, _ => none
  | e :: t, a, n, d =>
    if e.matched then (quayMatch t a n d).map (fun l => e :: l)
    else if e.addr = a ∧ e.size = n ∧ e.data.toNat = d.toNat % 2 ^ (8 * n) then some ({ e with matched := true } :: t) else none

/-- The checker can retire: both-stop repairs hold it (R386). -/
def State.chkReady (s : State) (k : Nat) : Bool :=
  s.acOn k && (match (s.appOf k).repair with | some (.chkParity _) => false | _ => true)

/-- The value the checker's instruction writes: echoed, or its own (R373, R375). -/
def State.chkValue (s : State) (k : Nat) (e : AppEntry) (act : AppAct) : Word :=
  match act with
  | .plain _ v _ => v
  | .csr n _ _ => if csrEchoed n then e.val else s.csrRead k (s.appOf k).chk n
  | _ => e.val

/-- The checker retires one instruction against the delay FIFO (R373-R375, R377, R385). -/
def State.chkStep (s : State) (k : Nat) (fetch next : Word) (act : AppAct) (path : PathFault) : State :=
  let s := s.acCloseDue k true
  let v := s.appOf k
  if !(s.chkReady k) then s
  else match v.fifo with
    | [] => s
    | e :: rest =>
      let quay : Option (Word × Nat × Word) := match act with | .store a n d => if s.inQuay k a then some (a, n, d) else none | _ => none
      let s := s.when (path == .single) (fun s => s.raise (acSource k + 2) 0x01 0)
      match s.chkDiffers k e fetch act quay.isSome path with
      | some (cause, kind, off) => s.acFault k cause kind off
      | none =>
        let s := s.setApp k { s.appOf k with fifo := rest }
        match e.cause with
        | some cause =>
          let c := (s.appOf k).chk
          let tval := match s.acExcept k { c with pc := fetch } act with | some (_, t) => t | none => 0#32
          s.setApp k { s.appOf k with chk := c.trap fetch cause tval }
        | none =>
          let w := s.chkValue k e act
          let c := (s.appOf k).chk.exec act w next
          let s1 := s.setApp k { s.appOf k with chk := c }
          let s2 := match actTag act with
            | some t => ((s1.acCloseDue k true).ckptTake k true next t)
            | none => s1
          match quay with
          | none => s2
          | some (a, n, d) =>
            match quayMatch (s2.appOf k).quay a n d with
            | some q => (s2.setQuay k q).quayGo k
            | none => s2.acFault k 3 0x03 0

/-! ### Repairs (R386) -/

/-- A repair starts. -/
def State.repairStart (s : State) (k : Nat) (r : Repair) : State :=
  if (s.appOf k).repair.isSome then s
  else (s.setApp k { s.appOf k with repair := some r }).setBit (pkAc k) AC_STAT_REPAIRING true

/-- Register r of one copy takes the value of the other. -/
def App.fix (v : App) (chk : Bool) (r : Nat) : App := v.setCore chk ((v.core chk).put r ((v.core (!chk)).rd r))

/-- The registers whose copies differ. -/
def App.differing (v : App) : List Nat := (List.range 64).map (· + 1) |>.filter (fun r => v.main.rd r != v.chk.rd r)

/-- An entry of the FIFO records a write of register r (R373). -/
def AppEntry.writes (e : AppEntry) (r : Nat) : Bool := e.cause.isNone && actDst e.act == r && r != 0

/-- The repaired pair, where the repair is identified (R386). -/
def App.repaired (v : App) (r : Repair) : Option App :=
  match r with
  | .mainParity n => if v.chk.bad.contains n then none else some (v.fix false n)
  | .chkParity n => if v.main.bad.contains n || v.fifo.any (fun e => e.writes n) then none else some (v.fix true n)
  | .mismatch _ =>
    let d := v.differing
    if d.isEmpty || d.any (fun n => v.main.bad.contains n == v.chk.bad.contains n) then none
    else some (d.foldl (fun v n => v.fix (v.chk.bad.contains n) n) v)

/-- The DIVERGE cause of a restart: parity, signature or checkpoint (R395). -/
def Repair.cause : Repair → Nat
  | .mainParity _ | .chkParity _ => 6
  | .mismatch c => c

/-- The comparison a mismatch left open is closed by its repair (log entry 42). -/
def App.settle (v : App) (r : Repair) : App :=
  match r with
  | .mismatch 7 => { v with sigs := v.sigs.drop 1, ckSigs := v.ckSigs.drop 1, compared := v.compared + 1 }
  | .mismatch _ => { v with hashes := v.hashes.drop 1, ckHashes := v.ckHashes.drop 1 }
  | _ => v

/-- CHKPT_BUSY while a hash waits (R397). -/
def State.showBusy (s : State) (k : Nat) : State :=
  let v := s.appOf k
  s.setBit (pkAc k) AC_STAT_CHKPT_BUSY (!v.hashes.isEmpty || !v.ckHashes.isEmpty)

/-! ### Debug (R391, R392) -/

/-- A debugger is attached: shown on every pair; unless R392 exempts the unit, authority goes and stays away until the next
Flood. -/
def State.debugAttach (s : State) (k : Nat) : State :=
  let was := (List.range 4).any (fun j => s.bit (pkAc j) AC_STAT_DBG_ATTACHED)
  let s := forN 4 (fun j s => s.setBit (pkAc j) AC_STAT_DBG_ATTACHED true) s
  if was || s.debugExempt then s
  else
    let s := { s with sea := { s.sea with dbgBarred := true } }
    if s.holdsAuthority then (s.endClaim.releaseBol).raise (acSource k + 4) 0x06 0 else s

/-- A register by its abstract number: x from 0x1000, f from 0x1020, CSRs below, dpc the next instruction (R391). -/
def AppCore.abstractPut (c : AppCore) (r : Nat) (v : Word) : AppCore :=
  if 0x1000 ≤ r ∧ r < 0x1040 then (if r = 0x1000 then c else { c with regs := tput c.regs (r - 0x1000) v, bad := c.bad.filter (fun x => x != r - 0x1000) })
  else if r = 0x7B1 then { c with pc := v &&& 0xFFFFFFFE#32 }
  else if r < 0x1000 then c.csrPut r v
  else c

/-- The checker takes the replay log, which empties (R391). -/
def State.replayApply (s : State) (k : Nat) : State :=
  let v := s.appOf k
  s.setApp k { v with chk := v.replay.foldl (fun c x => c.abstractPut x.1 x.2) v.chk, replay := [] }

end Sys2Proof.Machine
end

