-- ==== Sys2Proof/Machine/AppCmd.lean ====
section
/-!
DEFINITION. Machine/AppCmd.lean: the commands of the application pairs (R367-R394).
-/
namespace Sys2Proof.Machine

/-! ### Retirement -/

/-- What the main core does where the debugger has not halted it (R391). -/
def State.unhalted (s : State) (k : Nat) (f : State → State) : State := if (s.appOf k).halted then s else f s

/-- R371-R381: the main core executes the instruction at its PC. -/
def execRetiredInstruction (pair : Nat) (next : Word) (act : AppAct) (s : State) : Result :=
  .next (s.unhalted pair (fun s => s.mainStep pair next act))

/-- R373-R375, R385: the checker executes the same instruction against the delay FIFO. -/
def execCheckerRetire (pair : Nat) (fetch next : Word) (act : AppAct) (path : PathFault) (s : State) : Result :=
  .next (s.chkStep pair fetch next act path)

/-- R377, R379: a store to a quay range. -/
def execQuayStore (pair : Nat) (next addr : Word) (size : Nat) (data : Word) (s : State) : Result :=
  .next (s.unhalted pair (fun s => s.mainStep pair next (.store addr size data)))

/-- R377: the checker's store of the same retired instruction, on which the entry is released. -/
def execQuayRelease (pair : Nat) (fetch next addr : Word) (size : Nat) (data : Word) (path : PathFault) (s : State) : Result :=
  .next (s.chkStep pair fetch next (.store addr size data) path)

/-- R378: a FENCE whose predecessors include W holds the main core until the quay buffer is empty. -/
def execFence (pair : Nat) (next : Word) (predW : Bool) (s : State) : Result :=
  .next (s.unhalted pair (fun s =>
    if predW && !((s.appOf pair).quay.isEmpty) then s.quayStall pair else s.mainStep pair next (.plain 0 0#32 0#5)))

/-- R384: a write to kzchkpt. -/
def execKzchkpt (pair : Nat) (next : Word) (dst : Nat) (tag : Word) (s : State) : Result :=
  .next (s.unhalted pair (fun s => s.mainStep pair next (.csr 0x7C0 dst (some tag))))

/-! ### Interrupts (R370, R374, R386, R393) -/

/-- The main core accepts an interrupt: pending, enabled, the page not in DRAIN; external before timer (R3). -/
def State.takesIrq (s : State) (k bit : Nat) : Bool :=
  let c := (s.appOf k).main
  let on (b : Nat) : Bool := (s.mip k).getLsbD b && (c.csr 0x304).getLsbD b
  s.running (pkAc k) && s.mainReady k && on bit && (!c.machine || (c.csr 0x300).getLsbD 3) && !(bit == 7 && on 11)

/-- The checker takes the interrupt recorded at the front of the delay FIFO. -/
def State.chkIrq (s : State) (k : Nat) (cause : Word) : State :=
  let v := s.appOf k
  if !(s.chkReady k) then s
  else match v.fifo with
    | [] => s
    | e :: rest =>
      if e.cause = some cause ∧ e.seq = v.chk.retired % 128 ∧ e.fetch = v.chk.pc then
        s.setApp k { v with fifo := rest, chk := v.chk.trap v.chk.pc cause 0#32 }
      else s.acFault k 4 0x03 0

/-- R370, R374: a machine interrupt is taken by the main core, or by the checker after the same retired instruction. -/
def execMachineInterrupt (pair : Nat) (checker : Bool) (bit : Nat) (s : State) : Result :=
  let cause := BitVec.ofNat 32 (2 ^ 31 + bit)
  .next (if checker then s.chkIrq pair cause
    else s.unhalted pair (fun s => if s.takesIrq pair bit then s.mainTrap pair .mret cause 0#32 else s))

/-! ### Errors after release (R381) -/

/-- R381, R394: a target has reported an error of a posted store. -/
def execWriteError (pair : Nat) (s : State) : Result :=
  let v := s.appOf pair
  .next (match v.werrs with
    | [] => s
    | a :: rest =>
      let s := (s.setApp pair { v with werrs := rest }).setBit (pkQg pair) QG_STAT_WERR true
      ((s.setWord (pkQg pair) QG_WERR_ADDR a).irq (pkQg pair) 9).raise (acSource pair + 3) 0x05 1)

/-! ### Windows, checkpoints and repairs (R382-R387) -/

/-- R382, R386: a register read by a core fails its parity. -/
def execParityFailure (pair : Nat) (checker : Bool) (reg : Nat) (s : State) : Result :=
  let v := s.appOf pair
  let c := v.core checker
  .next (if !(s.acOn pair) then s
    else (s.setApp pair (v.setCore checker { c with bad := reg :: c.bad.filter (fun x => x != reg) })).repairStart pair
      (if checker then .chkParity reg else .mainParity reg))

/-- R383: a core closes its window. -/
def execAppWindowClose (pair : Nat) (checker : Bool) (s : State) : Result := .next (s.acCloseDue pair checker)

/-- R383, R386, R388: the signatures of a window that both cores have closed are compared. -/
def execAppSignatureCompare (pair : Nat) (disagree : Bool) (s : State) : Result :=
  let v := s.appOf pair
  .next (match v.sigs, v.ckSigs with
    | (_, m) :: t, c :: u =>
      if disagree then s.acFault pair 9 0x13 2
      else if m = c then
        ((s.setApp pair { v with sigs := t, ckSigs := u, compared := v.compared + 1 }).cntW (pkAc pair) AC_WINDOWS).quayGo pair
      else s.repairStart pair (.mismatch 7)
    | _, _ => s)

/-- R384, R386, R388: the checkpoint hashes are compared. -/
def execCheckpointCompare (pair : Nat) (disagree : Bool) (s : State) : Result :=
  let v := s.appOf pair
  .next (match v.hashes, v.ckHashes with
    | m :: t, c :: u =>
      if disagree then s.acFault pair 9 0x13 2
      else if m = c then (s.setApp pair { v with hashes := t, ckHashes := u }).showBusy pair
      else s.repairStart pair (.mismatch 8)
    | _, _ => s)

/-- What upsets have left in registers of a pair: copy, number and value; the parity of each fails. -/
def App.upset (v : App) (l : List (Bool × Nat × Word)) : App :=
  l.foldl (fun v u =>
    let c := v.core u.1
    v.setCore u.1 { c with regs := tput c.regs u.2.1 u.2.2, bad := u.2.1 :: c.bad.filter (fun x => x != u.2.1) }) v

/-- R386: a repair ends, once the checker has reached the main core's count where the repair needs that: the bad copies are
overwritten, or the pair restarts. -/
def execRepairEnd (pair : Nat) (upset : List (Bool × Nat × Word)) (s : State) : Result :=
  let v := s.appOf pair
  .next (match v.repair with
    | none => s
    | some r =>
      let waits : Bool := match r with | .chkParity _ => false | _ => !v.fifo.isEmpty
      if waits then s
      else
        let v := v.upset upset
        match v.repaired r with
        | none => (s.setApp pair v).acRestart pair r.cause
        | some v =>
          let s := (s.setApp pair { v.settle r with repair := none }).setBit (pkAc pair) AC_STAT_REPAIRING false
          let s := ((s.cntS (pkAc pair) AC_CNT_REPAIRS).irq (pkAc pair) 9).raise (acSource pair + 1) 0x04 1
          let s := match r with | .mismatch 7 => s.cntW (pkAc pair) AC_WINDOWS | _ => s
          (s.showBusy pair).quayGo pair)

/-- The copy of R387: the checker's mirrored region takes the main copy; a word the main copy cannot give is taken from the
checker's. `bad` numbers those words. -/
def State.mirrorCopy (s : State) (k : Nat) (bad : List Nat) : State :=
  let base := 0x30000000 + k * 0x100000
  let s := bad.foldl (fun (s : State) w =>
    if w < 30720 then { s with mem := msetN s.mem (base + 4 * w) 4 (mgetN s.ckMem (base + 4 * w) 4) } else s) s
  let mine := s.mem.filter (fun (c : Host.Cell) => inMirror k c.1)
  let others := s.ckMem.filter (fun (c : Host.Cell) => !(inMirror k c.1))
  { s with ckMem := mine.foldl (fun m (c : Host.Cell) => mset m c.1 c.2) others }

/-- R387: the restart's copy ends; the pair starts at ENTRY, or rests. -/
def execRestartCopyDone (pair : Nat) (bad : List Nat) (s : State) : Result :=
  let p := pkAc pair
  .next (if !((s.appOf pair).copying) || s.st p != .fault then s
    else
      let s := (s.setApp pair { s.appOf pair with copying := false }).mirrorCopy pair bad
      if !((s.page p).en) then s.setSt p .off
      else if s.bit p AC_CFG_RESTART then (s.setSt p .idle).acBegin pair (s.word p AC_ENTRY)
      else s.setSt p .idle)

/-! ### Start and drain (R393) -/

/-- R393: CTRL.START. -/
def execAppStart (who : Initiator) (pair : Nat) (s : State) : Result := .next (s.command (pkAc pair) who (fun s => s.acStart pair))

/-- R393: 100 µs after EN was cleared the window still open closes at the next instruction boundary. -/
def execAppDrainTimeout (pair : Nat) (s : State) : Result :=
  .next (if s.st (pkAc pair) == .drain && !((s.appOf pair).stopped) then
      let s := s.acCloseNow pair
      s.setApp pair { s.appOf pair with stopped := true }
    else s)

/-! ### Debug (R391, R392) -/

/-- R391: the main core halts at an instruction boundary, which closes its window. -/
def execDebugHalt (pair : Nat) (s : State) : Result :=
  .next (if !(s.acOn pair) || (s.appOf pair).halted then s
    else
      let s := s.acCloseNow pair
      (s.setApp pair { s.appOf pair with halted := true }).debugAttach pair)

/-- R391: an abstract write of a register or CSR: applied to the main core, entered in the replay log of 64 entries. -/
def execDebugRegisterWrite (pair reg : Nat) (v : Word) (s : State) : Result :=
  let a := s.appOf pair
  .next (if !a.halted then s
    else if 64 ≤ a.replay.length then s.setApp pair { a with cmderr := true }
    else
      let s := if reg < 0x1000 then s.csrShared pair reg v else s
      let a := s.appOf pair
      s.setApp pair { a with main := a.main.abstractPut reg v, replay := a.replay ++ [(reg, v)] })

/-- R391: a system bus write: once; in the instruction TCM of a halted pair into both copies of the mirrored region. -/
def execSystemBusWrite (addr size : Nat) (v : Word) (s : State) : Result :=
  let k := (addr - 0x30000000) / 0x100000
  .next (if k < 4 && inItcm k addr && (s.appOf k).halted && accessOk addr size then
      (s.memPut .jtag addr size (v.toNat % 2 ^ (8 * size)) (inMirror k addr)).answer (.done .jtag)
    else
      let (t, o) := s.busWrite .jtag addr size v
      t.answer (o.reply .jtag false))

/-- R391: resume, once both cores have halted: the checker applies the replay log. -/
def execDebugResume (pair : Nat) (s : State) : Result :=
  .next (if (s.appOf pair).halted && (s.appOf pair).fifo.isEmpty then
      let s := s.replayApply pair
      s.setApp pair { s.appOf pair with halted := false }
    else s)

/-- R391: a single step: one instruction on the main core, which halts again; the checker follows it. -/
def execSingleStep (pair : Nat) (next : Word) (act : AppAct) (s : State) : Result :=
  .next (if (s.appOf pair).halted && (s.appOf pair).fifo.isEmpty then
      ((s.replayApply pair).mainStep pair next act).acCloseNow pair
    else s)

/-- R392: a debugger attaches. -/
def execDebuggerAttach (pair : Nat) (s : State) : Result := .next (s.debugAttach pair)

/-- R392: the debugger detaches, unless a hart is still halted; authority stays away until the next Flood. -/
def execDebuggerDetach (pair : Nat) (s : State) : Result :=
  .next (if (List.range 4).any (fun k => (s.appOf k).halted) then s
    else (forN 4 (fun k s => s.setBit (pkAc k) AC_STAT_DBG_ATTACHED false) s).setBit (pkAc pair) AC_STAT_DBG_ATTACHED false)

end Sys2Proof.Machine
end

