-- ==== Sys2Proof/Machine/BusCmd.lean ====
section
/-!
DEFINITION. Machine/BusCmd.lean: the KCB commands: register writes and reads, swap requests, waking accesses, memory reads with
errors, and the accesses of the Cove pairs and of the external host (R34, R60-R69, R88, R320, R510).
-/
namespace Sys2Proof.Machine

/-- R60: a write over the KCB. -/
def execRegisterWrite (who : Initiator) (addr bytes : Nat) (v : Word) (s : State) : Result :=
  let (t, o) := s.busWrite who addr bytes v
  .next (t.answer (o.reply who false))

/-- R68, R12: a read over the KCB; RC fields clear. -/
def execRcRead (who : Initiator) (addr bytes : Nat) (s : State) : Result :=
  let (t, o) := s.busRead who addr bytes
  .next (t.answer (o.reply who true))

/-- R69: a read of a low word latches the high word for its initiator. -/
def execLowWordRead (who : Initiator) (addr bytes : Nat) (s : State) : Result :=
  let (t, o) := s.busRead who addr bytes
  .next (t.answer (o.reply who true))

/-- R66: a swap request. -/
def execSwapReq (who : Initiator) (page : Nat) (s : State) : Result := .next (s.shadowWrite who page 1#32)

/-- R88, R40: an access to a page whose clock was gated completes once the clock has returned; one that has stopped with PLL-A
does not return (R74). -/
def execPageWake (who : Initiator) (addr : Nat) (write : Option Word) (s : State) : Result :=
  match write with
  | some v =>
    let (t, o) := s.busWrite who addr 4 v
    .next (t.answer (o.reply who false))
  | none =>
    let (t, o) := s.busRead who addr 4
    .next (t.answer (o.reply who true))

/-- R88, R93: a page clock has not returned within 10 µs. -/
def execWakeTimeout (who : Initiator) (_page : Nat) (s : State) : Result :=
  .next (((s.setBit pkSys SYS_KCB_STAT_WAKE_TIMEOUT true).raise 0x00F 0x0E 1).answer (.error who))

/-- What an uncorrectable word does to the block that owns the memory and was reading it (R217, R269, R322, R337, R385). -/
def State.eccUser (s : State) (a : Nat) : State :=
  if 0x30000000 ≤ a ∧ a < 0x30400000 then
    let k := (a - 0x30000000) / 0x100000
    if inMirror k a && s.acOn k then s.acFault k 11 0x02 2 else s
  else if 0x31000000 ≤ a ∧ a < 0x31400000 then
    let k := (a - 0x31000000) / 0x100000
    if s.busy (pkCv k) then s.cvEcc k else s
  else if 0x32000000 ≤ a ∧ a < 0x32060000 then
    let k := (a - 0x32000000) / 0x10000
    match s.activeRun k with
    | some (g, _) => s.abandonRun k g .ecc
    | none => s
  else if 0x33000000 ≤ a ∧ a < 0x33018000 then
    let k := (a - 0x33000000) / 0x4000
    match s.activeRun k with
    | some (g, _) => s.abandonRun k g .ecc
    | none => (s.setM32 (a / 4 * 4) 0#32).swRecompute k ((a - 0x33000000) / 0x1000 % 4)
  else s

/-- R34: a memory read: plain, corrected with write-back, or uncorrectable; `who` none is the block the memory belongs to. -/
def execMemoryRead (who : Option Initiator) (addr bytes : Nat) (err : SecErr) (s : State) : Result :=
  .next (
    let ok := inRegion addr && !(isPageAddr addr) && accessOk addr bytes
    let good (s : State) : State := match who with
      | some w => s.answer (.data w (BitVec.ofNat 32 (s.memRead addr bytes)))
      | none => s
    let bad (s : State) : State := match who with
      | some w => s.answer (.error w)
      | none => s
    if !ok then bad s
    else match err with
      | .none => good s
      | .single => good (s.raise memSource 0x01 0)
      | .double =>
        let s := s.raise memSource 0x02 1 0 addr
        match who with
        | some _ => bad s
        | none => s.eccUser addr)

/-- R320: a far access of a Cove pair ends. -/
def execFarDone (pair : Nat) (s : State) : Result :=
  let v := s.cove pair
  .next (match v.far with
    | none => s
    | some (wr, a, d) =>
      let (t, o) := if wr then s.busWrite (.cv pair) a.toNat 4 d else s.busRead (.cv pair) a.toNat 4
      let c := t.cove pair
      match o with
      | .waits => t
      | .err => (t.setCove pair { c with far := none, farErr := true }).cvFlag pair 9
      | .ok w => (t.setCove pair { c with far := none, farErr := false, farRdata := if wr then c.farRdata else w }).cvFlag pair 9)

/-- R509, R510: the external host's access completes. -/
def execHostAccessDone (s : State) : Result :=
  .next (match s.hostPort.access with
    | none => s
    | some (a, wr) =>
      let (t, o) := match wr with
        | some v => s.busWrite .host a.toNat 4 v
        | none => s.busRead .host a.toNat 4
      let h := t.hostPort
      match o with
      | .waits => t
      | .err => { t with hostPort := { h with access := none, err := true } }
      | .ok w => { t with hostPort := { h with access := none, err := false, data := if wr.isSome then h.data else w } })

end Sys2Proof.Machine
end

