-- ==== Sys2Proof/Machine/LoopCmd.lean ====
section
/-!
DEFINITION. Machine/LoopCmd.lean: the commands of the current loops and their coordinators (R236-R262).
-/
namespace Sys2Proof.Machine

/-- The requests of bridge m's loops at this decision, and the state after their predictions. -/
def State.bridgeAsk (s : State) (m : Nat) : State × List Req :=
  (List.range 3).foldl (fun x j =>
    let y := x.1.loopAsk (3 * m + j)
    (y.1, match y.2 with | some r => x.2 ++ [r] | none => x.2)) (s, [])

/-- Bridge m's loops ask and its coordinator issues (R238-R250). -/
def State.bridgeDecide (s : State) (m : Nat) : State :=
  let x := s.bridgeAsk m
  x.1.coordinate m x.2

/-- R236: one decision. Pending bank swaps of BAND and FWIN come first (R255), then page states, coasting, the requests and the
coordinators, then the slopes and what the registers show. -/
def execDecision (s : State) : Result :=
  let s := { s with dec := s.dec + 1 }
  let s := forN 6 (fun m s => s.trySwap (pkHc m)) s
  let s := forN 18 (fun k s => s.trySwap (pkHl k)) s
  let s := forN 6 (fun m s => s.coordState m) s
  let s := forN 18 (fun k s => s.loopState k) s
  let s := forN 18 (fun k s => s.loopCoast k) s
  let s := forN 6 (fun m s => s.bridgeDecide m) s
  .next (forN 18 (fun k s => s.loopAfter k) s)

/-- R250: a bridge has stood in 111 for ZHOLD: its swap edges are issued at the next decision. -/
def execZeroSwap (bridge : Nat) (s : State) : Result :=
  let hc := pkHc bridge
  .next (if decide (bridge < 6) && s.running hc && s.bit hc HC_CFG_ZSWAP && s.fld hc HC_STAT_VEC == 7
    then s.setBit hc HC_STAT_SWAP_BUSY true else s)

end Sys2Proof.Machine
end

