-- ==== Sys2Proof/Machine/Tick.lean ====
section
/-!
DEFINITION. Machine/Tick.lean: the base-tick boundary of the engines, and the commit of a run (R209-R219, R224-R226, R528, R533,
R546).
-/
namespace Sys2Proof.Machine

/-! ### The boundary (R211-R213) -/

/-- The generator follows Tidemark: SYNC = 1 and Tidemark synchronised (R211, R474). -/
def State.tickSync (s : State) : Bool := s.bit (pkCe 0) CE_TICK_CFG_SYNC && decide (2 ≤ s.timeState)

/-- The boundary number that Tidemark gives now (R211). -/
def State.tickOfTm (s : State) : Nat :=
  (s.tmNs.toNat - 200 * s.fld (pkCe 0) CE_TICK_CFG_PHASE) / (1000 * s.fld (pkCe 0) CE_TICK_CFG_PERIOD)

/-- An engine in IDLE with a passed check enters RUN at the boundary (R224). -/
def State.ceReady (s : State) (k : Nat) : Bool := s.st (pkCe k) == .idle && s.fld (pkCe k) CE_STAT_CHECK == 1

/-- The generator is realigned at this boundary (R212). -/
def State.tickRealigns (s : State) : Bool := s.tickOn && s.tickSync && !s.tickAligned

/-- TICKNO of the boundary that falls now (R211, R212); a merged one stands for two ticks. -/
def State.tickNext (s : State) (align : Option Word) (merged : Bool) : Word :=
  let count := s.word (pkCe 0) CE_TICKNO + (if merged then 2#32 else 1#32)
  if s.tickSync then
    match align with
    | some n => n
    | none => if !s.tickOn || s.tickRealigns then BitVec.ofNat 32 s.tickOfTm else count
  else if s.tickOn then count else 0#32

/-- A group is released at tick n (R213). -/
def State.grpDue (s : State) (k g n : Nat) : Bool :=
  s.grpEn k g && n % (max 1 (s.grpN k g)) == s.fld (pkCe k) (CE_GRP_SCHED_PHASE.ix g 8) % (max 1 (s.grpN k g))

/-- A group is due at the boundary, or at the tick merged into it (R211). -/
def State.grpDueAt (s : State) (k g : Nat) (tick : Word) (merged : Bool) : Bool :=
  s.grpDue k g tick.toNat || (merged && s.grpDue k g (tick - 1#32).toNat)

/-- The runs of an engine in RUN that are open at their deadline are abandoned as late (R217, R218). -/
def State.judgeLate (s : State) (k : Nat) (tick : Word) (merged : Bool) : State :=
  if s.running (pkCe k) then
    forL (s.eng k).runs (fun x s => if s.grpDueAt k x.1 tick merged then s.dropRun k x.1 .late else s) s
  else s

/-- A link of an engine as its snapshot takes it (R208, R209). -/
def State.engineLink (s : State) (k n : Nat) : Word × Bool :=
  let w := (s.word (pkCe k) (CE_LINK.ix n)).toNat
  match bitsN w 31 28 with
  | 1 => s.phaseStream (min 17 (bitsN w 4 0))
  | 2 => s.scStream (min 11 (bitsN w 11 8)) (bitsN w 2 0)
  | 3 => s.coveStream (bitsN w 9 8) (bitsN w 3 0)
  | 4 => s.agreedStream (bitsN w 7 0)
  | 6 => s.engineStream (if k % 2 = 0 then k + 1 else k - 1) (bitsN w 4 0)
  | _ => (0#32, true)

/-- The run of a group released at this boundary, with its snapshot (R209, R266, R273). -/
def State.newRun (s : State) (k : Nat) (tick : Word) : Run :=
  let inj := s.ijGen k == 2
  { tick := tick.toNat
    links := (List.range 32).map (fun n => s.engineLink k n)
    speeds := (List.range 12).map (fun c => s.scStream c 2)
    inj := if inj then s.word (pkIj k) IJ_SAMPLE else 0#32
    injPoints := if inj then s.fld (pkIj k) IJ_POINTS_V else 0 }

/-- The groups of an engine due at the boundary are released; the highest-priority open run goes on or starts (R213, R214). -/
def State.releaseGroups (s : State) (k : Nat) (tick : Word) (merged : Bool) : State :=
  if s.running (pkCe k) then
    let due := (List.range 4).filter (fun g => s.grpDueAt k g tick merged)
    let r := s.newRun k tick
    let s := due.foldl (fun s g => s.setRun k g r) s
    (s.setFld (pkCe k) CE_STAT_RELEASED (due.foldl (fun n g => n + 2 ^ g) 0)).startTop k
  else s.setFld (pkCe k) CE_STAT_RELEASED 0

/-- CLEAR of swell tables takes effect at the boundary (R269). -/
def State.clearTables (s : State) : State :=
  forN 24 (fun t s => if (s.swt t).clearReq then s.swClear (t / 4) (t % 4) else s) s

/-- The generator's own registers at a boundary, shown on every CE page (R211, R212). -/
def State.tickCount (s : State) (tick : Word) (merged : Bool) : State :=
  let realign := s.tickRealigns
  let one (k : Nat) (s : State) : State :=
    let s := s.setWord (pkCe k) CE_TICKNO tick
    let s := if realign then s.cntS (pkCe k) CE_TICK_SKIP_RESYNCS else s
    if merged then s.cntS (pkCe k) CE_TICK_SKIP_MERGED else s
  forN 6 one { s with tickOn := true, tickAligned := s.tickSync }

/-- R211-R219, R224, R226: a base-tick boundary. -/
def State.baseTick (s : State) (align : Option Word) (merged : Bool) : State :=
  let tick := s.tickNext align merged
  -- what was open is judged, or given up at a realignment or in DRAIN
  let s := if s.tickRealigns then forN 6 (fun k (s : State) => s.abandonAll k) s
    else forN 6 (fun k (s : State) => s.judgeLate k tick merged) s
  let s := s.tickCount tick merged
  let s := forN 6 (fun k (s : State) => if s.st (pkCe k) == .drain then s.goOff (pkCe k) else s) s
  -- banks, tables and generators change, engines start
  let s := forN 6 (fun k (s : State) => if s.running (pkCe k) then (s.trySwap (pkCe k)) else s) s
  let s := s.clearTables
  let s := forN 6 (fun k (s : State) => if s.ceReady k then s.setSt (pkCe k) .run else s) s
  let s := forN 6 (fun k (s : State) => s.ijTick k tick.toNat) s
  -- records and agreed inputs are latched, then groups are released on them
  let s := forN 12 (fun k (s : State) => s.scLatch k) s
  let s := s.wgPeriod tick.toNat
  let s := forN 6 (fun k (s : State) => s.releaseGroups k tick merged) s
  -- processors are told
  let s := forN 4 (fun k (s : State) => s.cvFlag k 0) s
  forN 4 (fun k (s : State) => s.setApp k { s.appOf k with pulses := (s.appOf k).pulses ||| 0x10000#32 }) s

/-- R211: a base-tick boundary falls, once the generator runs: synchronised to Tidemark, or from an engine's first entry into
RUN. -/
def execBaseTick (align : Option Word) (merged : Bool) (s : State) : Result :=
  .next (if s.tickOn || s.tickSync || (List.range 6).any (fun k => s.ceReady k) then s.baseTick align merged else s)

/-! ### Commit (R216) -/

/-- The staged words of a run become committed. -/
def State.commitWords (s : State) (k : Nat) (r : Run) : State :=
  let s := forL r.stP (fun x (s : State) => s.setM32 (cePAddr k x.1) x.2) s
  let s := forL r.stO (fun x (s : State) => s.setWord (pkCe k) (CE_OUT.ix x.1) x.2) s
  forL r.stR (fun x (s : State) => s.setWord (pkCe k) (CE_REF.ix x.1) x.2) s

/-- Blocks of 256 bytes sent as STATE frames of four (R544, R546). -/
def State.sendBlocks : Nat → State → List Nat → State
  | 0, s, _ => s
  | _, s, [] => s
  | n + 1, s, l =>
    let body := (l.take 4).flatMap (fun a => beBytes a 4 ++ mbytes s.mem a 256)
    let port := if s.mpUp 0 then 0 else 1
    (s.mpSend port 3 s.wgRank (s.word pkWg WG_PERIOD) body).sendBlocks n (l.drop 4)

/-- After the run of a SIG_GRP group the sender of a return sends the engine's P words and the swell bins updated (R546);
beside a standby that has tested the engine, its P words once (R578). -/
def State.stepSend (s : State) (k g : Nat) : State :=
  if s.wg.sending && s.sigGrp g then
    let l := (List.range 4).map (fun i => cePAddr k (64 * i)) ++ s.wg.stepBlocks
    (s.sendBlocks (l.length) l).setWg { (s.sendBlocks (l.length) l).wg with stepBlocks := [] }
  else if s.wg.oneEngine.contains k && s.sigGrp g then
    let t := s.sendBlocks 1 ((List.range 4).map (fun i => cePAddr k (64 * i)))
    t.setWg { t.wg with oneEngine := t.wg.oneEngine.filter (fun j => j != k) }
  else s

/-- R216, R214, R217, R266, R275, R330, R534, R546: the running group commits, all its operations done. -/
def execRunCommit (engine cycles : Nat) (s : State) : Result :=
  .next (match s.activeRun engine with
    | some (g, r) =>
      if s.busy (pkCe engine) && r.started && decide (s.grpEnd engine g < r.pc) then
        let pk := pkCe engine
        let s := s.setEng engine { s.eng engine with runs := tdel (s.eng engine).runs g }
        let s := s.commitWords engine r
        let s := (s.setFld pk (CE_GRP_FLAGS_CONS_LATE.ix g 16) 0).setFld pk (CE_GRP_FLAGS_CONS_ABND.ix g 16) 0
        let s := (s.setFld pk (CE_GRP_TIME_LAST.ix g 16) (min 65535 cycles)).when (decide (65535 ≤ cycles)) (fun s =>
          s.modPage pk (fun p => { p with sat := true }))
        let s := forL r.teach (fun x (s : State) => s.swLearn engine r x.1 x.2.1 x.2.2) s
        let s := s.capRun engine g r false
        let s := if g = 0 then forN 4 (fun c (s : State) => s.cvFlag c (2 + engine)) s else s
        ((s.xchkMark engine g false).stepSend engine g).startTop engine
      else s
    | none => s)

end Sys2Proof.Machine
end

