-- ==== Sys2Proof/Machine/Dispatch.lean ====
section
/-!
DEFINITION. Machine/Dispatch.lean: one arm per command, each one direct call of its meaning.
-/

namespace Sys2Proof.Machine

/-- The effect of a command on everything but the queue. -/
def exec (i : Instr) (s : State) : Host.Outcome State Fault Refusal :=
  match i with
  | .registerWrite who addr bytes v => Sys2Proof.Machine.execRegisterWrite who addr bytes v s
  | .rcRead who addr bytes => Sys2Proof.Machine.execRcRead who addr bytes s
  | .lowWordRead who addr bytes => Sys2Proof.Machine.execLowWordRead who addr bytes s
  | .enableWrite who page mode sel => Sys2Proof.Machine.execEnableWrite who page mode sel s
  | .blockInitialised page => Sys2Proof.Machine.execBlockInitialised page s
  | .disableWrite who page mode sel => Sys2Proof.Machine.execDisableWrite who page mode sel s
  | .drainEnd page => Sys2Proof.Machine.execDrainEnd page s
  | .lockWrite who page => Sys2Proof.Machine.execLockWrite who page s
  | .blockStart page => Sys2Proof.Machine.execBlockStart page s
  | .blockStop page => Sys2Proof.Machine.execBlockStop page s
  | .keyWord who page w => Sys2Proof.Machine.execKeyWord who page w s
  | .keyTimeout page => Sys2Proof.Machine.execKeyTimeout page s
  | .swapReq who page => Sys2Proof.Machine.execSwapReq who page s
  | .swapPoint page => Sys2Proof.Machine.execSwapPoint page s
  | .copy who page => Sys2Proof.Machine.execCopy who page s
  | .copyDone page => Sys2Proof.Machine.execCopyDone page s
  | .pageWake who addr write => Sys2Proof.Machine.execPageWake who addr write s
  | .wakeTimeout who page => Sys2Proof.Machine.execWakeTimeout who page s
  | .ur cause => Sys2Proof.Machine.execUr cause s
  | .por cause => Sys2Proof.Machine.execPor cause s
  | .quayWord cls unit w err => Sys2Proof.Machine.execQuayWord cls unit w err s
  | .gateCommandSilence leg => Sys2Proof.Machine.execGateCommandSilence leg s
  | .memoryRead who addr bytes err => Sys2Proof.Machine.execMemoryRead who addr bytes err s
  | .engineInputWrite who engine slot v => Sys2Proof.Machine.execEngineInputWrite who engine slot v s
  | .xoLoss count => Sys2Proof.Machine.execXoLoss count s
  | .pllALockLoss => Sys2Proof.Machine.execPllALockLoss s
  | .pllBLockLoss => Sys2Proof.Machine.execPllBLockLoss s
  | .delayLineLockLoss => Sys2Proof.Machine.execDelayLineLockLoss s
  | .delayLineRelock locked trim => Sys2Proof.Machine.execDelayLineRelock locked trim s
  | .aonDeviation dev => Sys2Proof.Machine.execAonDeviation dev s
  | .crystalLoss => Sys2Proof.Machine.execCrystalLoss s
  | .swrcDeviation => Sys2Proof.Machine.execSwrcDeviation s
  | .handshakeTransfer sluice w => Sys2Proof.Machine.execHandshakeTransfer sluice w s
  | .streamWord sluice w stopped => Sys2Proof.Machine.execStreamWord sluice w stopped s
  | .doubleSample sluice a b => Sys2Proof.Machine.execDoubleSample sluice a b s
  | .sluiceDisagreement sluice reader => Sys2Proof.Machine.execSluiceDisagreement sluice reader s
  | .srcChange who v xtal => Sys2Proof.Machine.execSrcChange who v xtal s
  | .wake n => Sys2Proof.Machine.execWake n s
  | .canWake n => Sys2Proof.Machine.execCanWake n s
  | .mauloWake channel => Sys2Proof.Machine.execMauloWake channel s
  | .floodComplete => Sys2Proof.Machine.execFloodComplete s
  | .floodTimeout => Sys2Proof.Machine.execFloodTimeout s
  | .floodStepFailure => Sys2Proof.Machine.execFloodStepFailure s
  | .ebb who => Sys2Proof.Machine.execEbb who s
  | .drydockNext who => Sys2Proof.Machine.execDrydockNext who s
  | .ebbSavesComplete asserted => Sys2Proof.Machine.execEbbSavesComplete asserted s
  | .vsupPor => Sys2Proof.Machine.execVsupPor s
  | .vsupPorRelease => Sys2Proof.Machine.execVsupPorRelease s
  | .vsupStart => Sys2Proof.Machine.execVsupStart s
  | .vsupUv => Sys2Proof.Machine.execVsupUv s
  | .vsupOv => Sys2Proof.Machine.execVsupOv s
  | .vpreWarn => Sys2Proof.Machine.execVpreWarn s
  | .vpreWarnRelease => Sys2Proof.Machine.execVpreWarnRelease s
  | .vpreBo => Sys2Proof.Machine.execVpreBo s
  | .vpreBoRelease => Sys2Proof.Machine.execVpreBoRelease s
  | .railLoss rail => Sys2Proof.Machine.execRailLoss rail s
  | .vgdMonitor => Sys2Proof.Machine.execVgdMonitor s
  | .railInLimits rail => Sys2Proof.Machine.execRailInLimits rail s
  | .railStartTimeout rail => Sys2Proof.Machine.execRailStartTimeout rail s
  | .extRstN => Sys2Proof.Machine.execExtRstN s
  | .extRstNRise => Sys2Proof.Machine.execExtRstNRise s
  | .kdResetRelease bootSel => Sys2Proof.Machine.execKdResetRelease bootSel s
  | .imageVerify => Sys2Proof.Machine.execImageVerify s
  | .bootImageLoad sections => Sys2Proof.Machine.execBootImageLoad sections s
  | .tryOther who => Sys2Proof.Machine.execTryOther who s
  | .confirm who => Sys2Proof.Machine.execConfirm who s
  | .updateOpen who v => Sys2Proof.Machine.execUpdateOpen who v s
  | .updData who w => Sys2Proof.Machine.execUpdData who w s
  | .closeVerify who => Sys2Proof.Machine.execCloseVerify who s
  | .verifyDone => Sys2Proof.Machine.execVerifyDone s
  | .fastSample raw => Sys2Proof.Machine.execFastSample raw s
  | .preciseSample raw => Sys2Proof.Machine.execPreciseSample raw s
  | .cmFault channel => Sys2Proof.Machine.execCmFault channel s
  | .gainWrite who channel v => Sys2Proof.Machine.execGainWrite who channel v s
  | .tenderPeriod => Sys2Proof.Machine.execTenderPeriod s
  | .serviceStart => Sys2Proof.Machine.execServiceStart s
  | .tenderRequest who channel => Sys2Proof.Machine.execTenderRequest who channel s
  | .tenderWithdraw who => Sys2Proof.Machine.execTenderWithdraw who s
  | .settleEnd => Sys2Proof.Machine.execSettleEnd s
  | .tenderSwap => Sys2Proof.Machine.execTenderSwap s
  | .calibrationPointDone sum clipped => Sys2Proof.Machine.execCalibrationPointDone sum clipped s
  | .selfcalEnd sum1 sum2 refb => Sys2Proof.Machine.execSelfcalEnd sum1 sum2 refb s
  | .emergencyRelief channel => Sys2Proof.Machine.execEmergencyRelief channel s
  | .holdRelease => Sys2Proof.Machine.execHoldRelease s
  | .glitch channel => Sys2Proof.Machine.execGlitch channel s
  | .acceptedEdge channel a b z ts => Sys2Proof.Machine.execAcceptedEdge channel a b z ts s
  | .absoluteSample channel value ts => Sys2Proof.Machine.execAbsoluteSample channel value ts s
  | .standstill channel => Sys2Proof.Machine.execStandstill channel s
  | .countWindow channel => Sys2Proof.Machine.execCountWindow channel s
  | .ssiFrameStart channel => Sys2Proof.Machine.execSsiFrameStart channel s
  | .ssiFrameEnd channel frame => Sys2Proof.Machine.execSsiFrameEnd channel frame s
  | .spiPoll channel => Sys2Proof.Machine.execSpiPoll channel s
  | .framedTimeout channel => Sys2Proof.Machine.execFramedTimeout channel s
  | .observerUpdate channel sinEnv cosEnv beyond5 => Sys2Proof.Machine.execObserverUpdate channel sinEnv cosEnv beyond5 s
  | .resolverLock channel amplitude => Sys2Proof.Machine.execResolverLock channel amplitude s
  | .excitationPeriod bad0 bad1 freq amplitudes => Sys2Proof.Machine.execExcitationPeriod bad0 bad1 freq amplitudes s
  | .excitationFreqChange => Sys2Proof.Machine.execExcitationFreqChange s
  | .slackPulse channel a b z agreed => Sys2Proof.Machine.execSlackPulse channel a b z agreed s
  | .baseTick align merged => Sys2Proof.Machine.execBaseTick align merged s
  | .runCommit engine cycles => Sys2Proof.Machine.execRunCommit engine cycles s
  | .go who engine => Sys2Proof.Machine.execGo who engine s
  | .checkComplete engine => Sys2Proof.Machine.execCheckComplete engine s
  | .pairTimeout engine => Sys2Proof.Machine.execPairTimeout engine s
  | .capstanNop engine => Sys2Proof.Machine.execCapstanNop engine s
  | .capstanMov engine => Sys2Proof.Machine.execCapstanMov engine s
  | .capstanAdd engine => Sys2Proof.Machine.execCapstanAdd engine s
  | .capstanSub engine => Sys2Proof.Machine.execCapstanSub engine s
  | .capstanMul engine => Sys2Proof.Machine.execCapstanMul engine s
  | .capstanFma engine => Sys2Proof.Machine.execCapstanFma engine s
  | .capstanMin engine => Sys2Proof.Machine.execCapstanMin engine s
  | .capstanMax engine => Sys2Proof.Machine.execCapstanMax engine s
  | .capstanAbs engine => Sys2Proof.Machine.execCapstanAbs engine s
  | .capstanNeg engine => Sys2Proof.Machine.execCapstanNeg engine s
  | .capstanSel engine => Sys2Proof.Machine.execCapstanSel engine s
  | .capstanDiv engine => Sys2Proof.Machine.execCapstanDiv engine s
  | .capstanSqrt engine => Sys2Proof.Machine.execCapstanSqrt engine s
  | .capstanWrap engine => Sys2Proof.Machine.execCapstanWrap engine s
  | .capstanSld engine => Sys2Proof.Machine.execCapstanSld engine s
  | .capstanSst engine => Sys2Proof.Machine.execCapstanSst engine s
  | .capstanRef engine => Sys2Proof.Machine.execCapstanRef engine s
  | .capstanClk engine => Sys2Proof.Machine.execCapstanClk engine s
  | .capstanIclk engine => Sys2Proof.Machine.execCapstanIclk engine s
  | .capstanPark engine => Sys2Proof.Machine.execCapstanPark engine s
  | .capstanIpark engine => Sys2Proof.Machine.execCapstanIpark engine s
  | .capstanPi engine => Sys2Proof.Machine.execCapstanPi engine s
  | .capstanHys engine => Sys2Proof.Machine.execCapstanHys engine s
  | .capstanBiq engine => Sys2Proof.Machine.execCapstanBiq engine s
  | .capstanLim engine => Sys2Proof.Machine.execCapstanLim engine s
  | .capstanSlew engine => Sys2Proof.Machine.execCapstanSlew engine s
  | .capstanSwl engine => Sys2Proof.Machine.execCapstanSwl engine s
  | .capstanInj engine => Sys2Proof.Machine.execCapstanInj engine s
  | .capstanCap engine => Sys2Proof.Machine.execCapstanCap engine s
  | .decision => Sys2Proof.Machine.execDecision s
  | .zeroSwap bridge => Sys2Proof.Machine.execZeroSwap bridge s
  | .clear who engine tables => Sys2Proof.Machine.execClear who engine tables s
  | .resume who engine tables => Sys2Proof.Machine.execResume who engine tables s
  | .injectionArm who engine => Sys2Proof.Machine.execInjectionArm who engine s
  | .injectionStop who engine => Sys2Proof.Machine.execInjectionStop who engine s
  | .captureClaim who engine nseg => Sys2Proof.Machine.execCaptureClaim who engine nseg s
  | .captureArm who engine => Sys2Proof.Machine.execCaptureArm who engine s
  | .captureForce who engine => Sys2Proof.Machine.execCaptureForce who engine s
  | .captureRelease who engine => Sys2Proof.Machine.execCaptureRelease who engine s
  | .segmentCleared => Sys2Proof.Machine.execSegmentCleared s
  | .commandWord leg word => Sys2Proof.Machine.execCommandWord leg word s
  | .switchAction leg => Sys2Proof.Machine.execSwitchAction leg s
  | .seawallEnable bridge => Sys2Proof.Machine.execSeawallEnable bridge s
  | .vgdUvlo bridge => Sys2Proof.Machine.execVgdUvlo bridge s
  | .bootstrapUvlo leg low => Sys2Proof.Machine.execBootstrapUvlo leg low s
  | .bootstrapRefresh leg => Sys2Proof.Machine.execBootstrapRefresh leg s
  | .didtTrip leg high partnerOn => Sys2Proof.Machine.execDidtTrip leg high partnerOn s
  | .vdsTrip leg high partnerOn => Sys2Proof.Machine.execVdsTrip leg high partnerOn s
  | .softSinkHandover leg => Sys2Proof.Machine.execSoftSinkHandover leg s
  | .latchHoldExpiry leg => Sys2Proof.Machine.execLatchHoldExpiry leg s
  | .readbackMismatch leg => Sys2Proof.Machine.execReadbackMismatch leg s
  | .leakageCheck who leg v => Sys2Proof.Machine.execLeakageCheck who leg v s
  | .leakDone leg hs ls => Sys2Proof.Machine.execLeakDone leg hs ls s
  | .isClose who phase => Sys2Proof.Machine.execIsClose who phase s
  | .isOpen who phase => Sys2Proof.Machine.execIsOpen who phase s
  | .permitRise phase => Sys2Proof.Machine.execPermitRise phase s
  | .permitWithdrawn phase => Sys2Proof.Machine.execPermitWithdrawn phase s
  | .isolationClosed phase => Sys2Proof.Machine.execIsolationClosed phase s
  | .isolationOpened phase => Sys2Proof.Machine.execIsolationOpened phase s
  | .closeTimeout phase => Sys2Proof.Machine.execCloseTimeout phase s
  | .openTimeout phase => Sys2Proof.Machine.execOpenTimeout phase s
  | .openTmo phase => Sys2Proof.Machine.execOpenTmo phase s
  | .coveStart who pair => Sys2Proof.Machine.execCoveStart who pair s
  | .swi who pair => Sys2Proof.Machine.execSwi who pair s
  | .timerLoad pair checker v => Sys2Proof.Machine.execTimerLoad pair checker v s
  | .coveTimer pair => Sys2Proof.Machine.execCoveTimer pair s
  | .iflagWrite pair checker v => Sys2Proof.Machine.execIflagWrite pair checker v s
  | .outWrite pair stream v => Sys2Proof.Machine.execOutWrite pair stream v s
  | .farRead pair => Sys2Proof.Machine.execFarRead pair s
  | .farWrite pair => Sys2Proof.Machine.execFarWrite pair s
  | .farDone pair => Sys2Proof.Machine.execFarDone pair s
  | .chkpt pair checker => Sys2Proof.Machine.execChkpt pair checker s
  | .haltreq pair checker => Sys2Proof.Machine.execHaltreq pair checker s
  | .fastInterrupt pair checker => Sys2Proof.Machine.execFastInterrupt pair checker s
  | .normalInterrupt pair checker => Sys2Proof.Machine.execNormalInterrupt pair checker s
  | .coveRelease pair addr v => Sys2Proof.Machine.execCoveRelease pair addr v s
  | .coveWindowClose pair checker => Sys2Proof.Machine.execCoveWindowClose pair checker s
  | .coveSignatureCompare pair => Sys2Proof.Machine.execCoveSignatureCompare pair s
  | .coveCopyDone pair bad => Sys2Proof.Machine.execCoveCopyDone pair bad s
  | .coveDrainTimeout pair => Sys2Proof.Machine.execCoveDrainTimeout pair s
  | .parallelNop pair checker => Sys2Proof.Machine.execParallelNop pair checker s
  | .parallelMac pair checker => Sys2Proof.Machine.execParallelMac pair checker s
  | .parallelMsu pair checker => Sys2Proof.Machine.execParallelMsu pair checker s
  | .parallelMpy pair checker => Sys2Proof.Machine.execParallelMpy pair checker s
  | .parallelAdd pair checker => Sys2Proof.Machine.execParallelAdd pair checker s
  | .parallelSub pair checker => Sys2Proof.Machine.execParallelSub pair checker s
  | .parallelAnd pair checker => Sys2Proof.Machine.execParallelAnd pair checker s
  | .parallelOr pair checker => Sys2Proof.Machine.execParallelOr pair checker s
  | .parallelXor pair checker => Sys2Proof.Machine.execParallelXor pair checker s
  | .parallelFadd pair checker => Sys2Proof.Machine.execParallelFadd pair checker s
  | .parallelFsub pair checker => Sys2Proof.Machine.execParallelFsub pair checker s
  | .parallelFmul pair checker => Sys2Proof.Machine.execParallelFmul pair checker s
  | .parallelFma pair checker => Sys2Proof.Machine.execParallelFma pair checker s
  | .parallelAdda pair checker => Sys2Proof.Machine.execParallelAdda pair checker s
  | .parallelRnd pair checker => Sys2Proof.Machine.execParallelRnd pair checker s
  | .parallelClr pair checker => Sys2Proof.Machine.execParallelClr pair checker s
  | .registerAdd pair checker => Sys2Proof.Machine.execRegisterAdd pair checker s
  | .registerSub pair checker => Sys2Proof.Machine.execRegisterSub pair checker s
  | .registerCmp pair checker => Sys2Proof.Machine.execRegisterCmp pair checker s
  | .registerAnd pair checker => Sys2Proof.Machine.execRegisterAnd pair checker s
  | .registerOr pair checker => Sys2Proof.Machine.execRegisterOr pair checker s
  | .registerXor pair checker => Sys2Proof.Machine.execRegisterXor pair checker s
  | .registerNot pair checker => Sys2Proof.Machine.execRegisterNot pair checker s
  | .registerNeg pair checker => Sys2Proof.Machine.execRegisterNeg pair checker s
  | .registerAbs pair checker => Sys2Proof.Machine.execRegisterAbs pair checker s
  | .registerMin pair checker => Sys2Proof.Machine.execRegisterMin pair checker s
  | .registerMax pair checker => Sys2Proof.Machine.execRegisterMax pair checker s
  | .registerMuli pair checker => Sys2Proof.Machine.execRegisterMuli pair checker s
  | .registerAsr pair checker => Sys2Proof.Machine.execRegisterAsr pair checker s
  | .registerLsr pair checker => Sys2Proof.Machine.execRegisterLsr pair checker s
  | .registerLsl pair checker => Sys2Proof.Machine.execRegisterLsl pair checker s
  | .registerFadd pair checker => Sys2Proof.Machine.execRegisterFadd pair checker s
  | .registerFsub pair checker => Sys2Proof.Machine.execRegisterFsub pair checker s
  | .registerFmul pair checker => Sys2Proof.Machine.execRegisterFmul pair checker s
  | .registerFma pair checker => Sys2Proof.Machine.execRegisterFma pair checker s
  | .registerFmin pair checker => Sys2Proof.Machine.execRegisterFmin pair checker s
  | .registerFmax pair checker => Sys2Proof.Machine.execRegisterFmax pair checker s
  | .registerFabs pair checker => Sys2Proof.Machine.execRegisterFabs pair checker s
  | .registerFneg pair checker => Sys2Proof.Machine.execRegisterFneg pair checker s
  | .registerFrcp pair checker => Sys2Proof.Machine.execRegisterFrcp pair checker s
  | .registerFrsq pair checker => Sys2Proof.Machine.execRegisterFrsq pair checker s
  | .registerFcmp pair checker => Sys2Proof.Machine.execRegisterFcmp pair checker s
  | .registerFlt pair checker => Sys2Proof.Machine.execRegisterFlt pair checker s
  | .registerFix pair checker => Sys2Proof.Machine.execRegisterFix pair checker s
  | .registerFltq pair checker => Sys2Proof.Machine.execRegisterFltq pair checker s
  | .registerFixq pair checker => Sys2Proof.Machine.execRegisterFixq pair checker s
  | .ldl pair checker => Sys2Proof.Machine.execLdl pair checker s
  | .ldh pair checker => Sys2Proof.Machine.execLdh pair checker s
  | .addi pair checker => Sys2Proof.Machine.execAddi pair checker s
  | .cmpi pair checker => Sys2Proof.Machine.execCmpi pair checker s
  | .asri pair checker => Sys2Proof.Machine.execAsri pair checker s
  | .lsri pair checker => Sys2Proof.Machine.execLsri pair checker s
  | .lsli pair checker => Sys2Proof.Machine.execLsli pair checker s
  | .lda pair checker => Sys2Proof.Machine.execLda pair checker s
  | .inca pair checker => Sys2Proof.Machine.execInca pair checker s
  | .ldml pair checker => Sys2Proof.Machine.execLdml pair checker s
  | .ldmh pair checker => Sys2Proof.Machine.execLdmh pair checker s
  | .classMMove pair checker => Sys2Proof.Machine.execClassMMove pair checker s
  | .directLoad pair checker => Sys2Proof.Machine.execDirectLoad pair checker s
  | .directStore pair checker => Sys2Proof.Machine.execDirectStore pair checker s
  | .accumulatorShift pair checker => Sys2Proof.Machine.execAccumulatorShift pair checker s
  | .bra pair checker => Sys2Proof.Machine.execBra pair checker s
  | .call pair checker => Sys2Proof.Machine.execCall pair checker s
  | .ret pair checker => Sys2Proof.Machine.execRet pair checker s
  | .reti pair checker => Sys2Proof.Machine.execReti pair checker s
  | .retf pair checker => Sys2Proof.Machine.execRetf pair checker s
  | .rep pair checker => Sys2Proof.Machine.execRep pair checker s
  | .ftap pair checker => Sys2Proof.Machine.execFtap pair checker s
  | .illegalInstruction pair checker => Sys2Proof.Machine.execIllegalInstruction pair checker s
  | .retiredInstruction pair next act => Sys2Proof.Machine.execRetiredInstruction pair next act s
  | .checkerRetire pair fetch next act path => Sys2Proof.Machine.execCheckerRetire pair fetch next act path s
  | .machineInterrupt pair checker bit => Sys2Proof.Machine.execMachineInterrupt pair checker bit s
  | .quayStore pair next addr size data => Sys2Proof.Machine.execQuayStore pair next addr size data s
  | .quayRelease pair fetch next addr size data path => Sys2Proof.Machine.execQuayRelease pair fetch next addr size data path s
  | .fence pair next predW => Sys2Proof.Machine.execFence pair next predW s
  | .writeError pair => Sys2Proof.Machine.execWriteError pair s
  | .parityFailure pair checker reg => Sys2Proof.Machine.execParityFailure pair checker reg s
  | .appWindowClose pair checker => Sys2Proof.Machine.execAppWindowClose pair checker s
  | .appSignatureCompare pair disagree => Sys2Proof.Machine.execAppSignatureCompare pair disagree s
  | .kzchkpt pair next dst tag => Sys2Proof.Machine.execKzchkpt pair next dst tag s
  | .checkpointCompare pair disagree => Sys2Proof.Machine.execCheckpointCompare pair disagree s
  | .repairEnd pair upset => Sys2Proof.Machine.execRepairEnd pair upset s
  | .restartCopyDone pair bad => Sys2Proof.Machine.execRestartCopyDone pair bad s
  | .appStart who pair => Sys2Proof.Machine.execAppStart who pair s
  | .appDrainTimeout pair => Sys2Proof.Machine.execAppDrainTimeout pair s
  | .debugHalt pair => Sys2Proof.Machine.execDebugHalt pair s
  | .debugRegisterWrite pair reg v => Sys2Proof.Machine.execDebugRegisterWrite pair reg v s
  | .systemBusWrite addr size v => Sys2Proof.Machine.execSystemBusWrite addr size v s
  | .debugResume pair => Sys2Proof.Machine.execDebugResume pair s
  | .singleStep pair next act => Sys2Proof.Machine.execSingleStep pair next act s
  | .debuggerAttach pair => Sys2Proof.Machine.execDebuggerAttach pair s
  | .debuggerDetach pair => Sys2Proof.Machine.execDebuggerDetach pair s
  | .phaseCurrentTrip phase neg => Sys2Proof.Machine.execPhaseCurrentTrip phase neg s
  | .dcLinkWindow bridge => Sys2Proof.Machine.execDcLinkWindow bridge s
  | .commandEdgeRate leg => Sys2Proof.Machine.execCommandEdgeRate leg s
  | .clusterTemperature bridge => Sys2Proof.Machine.execClusterTemperature bridge s
  | .kpTemperature => Sys2Proof.Machine.execKpTemperature s
  | .shootThroughReport leg => Sys2Proof.Machine.execShootThroughReport leg s
  | .softCutEnd bridge => Sys2Proof.Machine.execSoftCutEnd bridge s
  | .seawallSelfTest passed => Sys2Proof.Machine.execSeawallSelfTest passed s
  | .watchdogPeriod => Sys2Proof.Machine.execWatchdogPeriod s
  | .wdAns who v inWindow => Sys2Proof.Machine.execWdAns who v inWindow s
  | .manifestCheck => Sys2Proof.Machine.execManifestCheck s
  | .seawallRstN lowUs => Sys2Proof.Machine.execSeawallRstN lowUs s
  | .commissionEdge lowUs => Sys2Proof.Machine.execCommissionEdge lowUs s
  | .edgeInputStuck commission => Sys2Proof.Machine.execEdgeInputStuck commission s
  | .sealConfirm who v => Sys2Proof.Machine.execSealConfirm who v s
  | .sealKey who v => Sys2Proof.Machine.execSealKey who v s
  | .sealKeyTimeout => Sys2Proof.Machine.execSealKeyTimeout s
  | .keyedTimeout => Sys2Proof.Machine.execKeyedTimeout s
  | .recordReadback equal => Sys2Proof.Machine.execRecordReadback equal s
  | .pennant source word err => Sys2Proof.Machine.execPennant source word err s
  | .errorLine source => Sys2Proof.Machine.execErrorLine source s
  | .lineCheckTimeout source => Sys2Proof.Machine.execLineCheckTimeout source s
  | .eventProcessing => Sys2Proof.Machine.execEventProcessing s
  | .quietExpiry group => Sys2Proof.Machine.execQuietExpiry group s
  | .ack who v => Sys2Proof.Machine.execAck who v s
  | .historyRelease who => Sys2Proof.Machine.execHistoryRelease who s
  | .linkUp port sqi => Sys2Proof.Machine.execLinkUp port sqi s
  | .linkLoss port => Sys2Proof.Machine.execLinkLoss port s
  | .dataFrame port stamp fcs bytes => Sys2Proof.Machine.execDataFrame port stamp fcs bytes s
  | .syncFrame port stamp fcs bytes => Sys2Proof.Machine.execSyncFrame port stamp fcs bytes s
  | .startFrame port stamp fcs bytes => Sys2Proof.Machine.execStartFrame port stamp fcs bytes s
  | .leadFrame port stamp fcs bytes => Sys2Proof.Machine.execLeadFrame port stamp fcs bytes s
  | .leadSlot t => Sys2Proof.Machine.execLeadSlot t s
  | .leadResponse port => Sys2Proof.Machine.execLeadResponse port s
  | .leadNotice port => Sys2Proof.Machine.execLeadNotice port s
  | .slotStart channel entry len t => Sys2Proof.Machine.execSlotStart channel entry len t s
  | .syncWindowClose channel => Sys2Proof.Machine.execSyncWindowClose channel s
  | .cycleBoundary => Sys2Proof.Machine.execCycleBoundary s
  | .slewEnd => Sys2Proof.Machine.execSlewEnd s
  | .return who => Sys2Proof.Machine.execReturn who s
  | .listenTimeout => Sys2Proof.Machine.execListenTimeout s
  | .holdoverEnd => Sys2Proof.Machine.execHoldoverEnd s
  | .pierHeadTakeover => Sys2Proof.Machine.execPierHeadTakeover s
  | .commit who berth => Sys2Proof.Machine.execCommit who berth s
  | .canFrameReceived ctl id flags dlc data filter => Sys2Proof.Machine.execCanFrameReceived ctl id flags dlc data filter s
  | .canTransmit ctl => Sys2Proof.Machine.execCanTransmit ctl s
  | .busOff ctl tec rec => Sys2Proof.Machine.execBusOff ctl tec rec s
  | .busRecovery ctl => Sys2Proof.Machine.execBusRecovery ctl s
  | .recover who ctl => Sys2Proof.Machine.execRecover who ctl s
  | .abortTx who ctl => Sys2Proof.Machine.execAbortTx who ctl s
  | .fifoPop who ctl => Sys2Proof.Machine.execFifoPop who ctl s
  | .spiTransmit who ctl v => Sys2Proof.Machine.execSpiTransmit who ctl v s
  | .spiFrameDone ctl rx => Sys2Proof.Machine.execSpiFrameDone ctl rx s
  | .hostNop => Sys2Proof.Machine.execHostNop s
  | .hostRead addr early => Sys2Proof.Machine.execHostRead addr early s
  | .hostWrite addr data early => Sys2Proof.Machine.execHostWrite addr data early s
  | .hostAccessDone => Sys2Proof.Machine.execHostAccessDone s
  | .sentFrame input status data crc timing ts => Sys2Proof.Machine.execSentFrame input status data crc timing ts s
  | .sentTimeout input => Sys2Proof.Machine.execSentTimeout input s
  | .sarStart who conv => Sys2Proof.Machine.execSarStart who conv s
  | .sarTrigger conv source => Sys2Proof.Machine.execSarTrigger conv source s
  | .sarConversion conv code above => Sys2Proof.Machine.execSarConversion conv code above s
  | .supplyOutOfWindow supply limiting => Sys2Proof.Machine.execSupplyOutOfWindow supply limiting s
  | .thermalShutdown supply => Sys2Proof.Machine.execThermalShutdown supply s
  | .sensorSupplyEnable who v => Sys2Proof.Machine.execSensorSupplyEnable who v s
  | .mooringLinkUp port => Sys2Proof.Machine.execMooringLinkUp port s
  | .mooringLinkLoss port => Sys2Proof.Machine.execMooringLinkLoss port s
  | .peerAbsent peer => Sys2Proof.Machine.execPeerAbsent peer s
  | .rawFrame port crc bytes => Sys2Proof.Machine.execRawFrame port crc bytes s
  | .agreeT => Sys2Proof.Machine.execAgreeT s
  | .xchkFrame port crc bytes => Sys2Proof.Machine.execXchkFrame port crc bytes s
  | .stateFrame port crc bytes phase left => Sys2Proof.Machine.execStateFrame port crc bytes phase left s
  | .healthSend => Sys2Proof.Machine.execHealthSend s
  | .healthFrame port crc bytes => Sys2Proof.Machine.execHealthFrame port crc bytes s
  | .helloFrame port crc bytes => Sys2Proof.Machine.execHelloFrame port crc bytes s
  | .peerLost peer => Sys2Proof.Machine.execPeerLost peer s
  | .beaconSend => Sys2Proof.Machine.execBeaconSend s
  | .beacon port rank => Sys2Proof.Machine.execBeacon port rank s
  | .beaconTimeout port => Sys2Proof.Machine.execBeaconTimeout port s
  | .lineMismatch peer => Sys2Proof.Machine.execLineMismatch peer s
  | .claim => Sys2Proof.Machine.execClaim s
  | .claimWindowEnd => Sys2Proof.Machine.execClaimWindowEnd s
  | .bolInChange line asserted => Sys2Proof.Machine.execBolInChange line asserted s
  | .joiningTimeout => Sys2Proof.Machine.execJoiningTimeout s
  | .snapshotCut => Sys2Proof.Machine.execSnapshotCut s
  | .caughtUp who => Sys2Proof.Machine.execCaughtUp who s
  | .returnTimeout => Sys2Proof.Machine.execReturnTimeout s
  | .xswapMask who v => Sys2Proof.Machine.execXswapMask who v s
  | .leeNoTime => Sys2Proof.Machine.execLeeNoTime s
  | .tokenGrant => Sys2Proof.Machine.execTokenGrant s
  | .testEnd page passed => Sys2Proof.Machine.execTestEnd page passed s
  | .testTimeout page => Sys2Proof.Machine.execTestTimeout page s
  | .abortAll who => Sys2Proof.Machine.execAbortAll who s
  | .sweep who => Sys2Proof.Machine.execSweep who s
  | .sweepTimer => Sys2Proof.Machine.execSweepTimer s
  | .scrubRead err => Sys2Proof.Machine.execScrubRead err s
  | .marchDone passed imageMemory => Sys2Proof.Machine.execMarchDone passed imageMemory s
  | .floodRunDone us => Sys2Proof.Machine.execFloodRunDone us s
  | .buoySample page buoy reading => Sys2Proof.Machine.execBuoySample page buoy reading s
  | .jtagBypass => Sys2Proof.Machine.execJtagBypass s
  | .jtagSamplePreload cells => Sys2Proof.Machine.execJtagSamplePreload cells s
  | .jtagExtest => Sys2Proof.Machine.execJtagExtest s
  | .jtagIdcode => Sys2Proof.Machine.execJtagIdcode s
  | .pllBRelock => Sys2Proof.Machine.execPllBRelock s
  | .vgdUvloRelease bridge => Sys2Proof.Machine.execVgdUvloRelease bridge s
  | .commonModeReturn channel => Sys2Proof.Machine.execCommonModeReturn channel s
  | .cmFaultLasting channel => Sys2Proof.Machine.execCmFaultLasting channel s
  | .aonCounterSample levels10 levels11 => Sys2Proof.Machine.execAonCounterSample levels10 levels11 s
  | .stateFrameSent => Sys2Proof.Machine.execStateFrameSent s

end Sys2Proof.Machine
end

