-- ==== Sys2Proof/Machine/Idle.lean ====
section
/-!
DEFINITION. Machine/Idle.lean: one BUS cycle of 2.5 ns with no command waiting: the model's time advances (R11, R70, R472; log entry 1).
-/
namespace Sys2Proof.Machine

/-- What Tidemark adds in one BUS cycle, in 2^-32 ns: 2.5 ns, RATE and the slew in progress (R472). -/
def State.tmStep (s : State) : Int := 5 * 2 ^ 31 + s.sfld pkMs MS_RATE + s.ma.slew

/-- Tidemark counts; a slew lasts its number of BUS cycles (R472, R482). -/
def State.tmCount (s : State) : State :=
  let left := s.ma.slewLeft - 1
  { s with ma := { s.ma with
      tm := ((s.ma.tm + s.tmStep) % 2 ^ 96).toNat
      slew := if left = 0 then 0 else s.ma.slew
      slewLeft := left } }

/-- SAT of a page sets when an age it shows reaches its maximum: CAL AGE of the current channels and the Tender, AGE of a peer
(R15, R67). -/
def State.agesSat (s : State) : State :=
  let full (t : Option Nat) (n : Nat) : Bool := match t with | some t => s.cyc == t + n | none => false
  let sat (k : Nat) (s : State) : State := s.modPage k (fun p => { p with sat := true })
  let s1 := forN 19 (fun k (x : State) => if full (s.chan k).calAt (65535 * 400000000) then sat (if k < 18 then pkCs k else pkCst) x else x) s
  if [0, 1].any (fun i => full (s.peer i).healthAt (255 * 400000)) then sat pkWg s1 else s1

/-- An idle step: one BUS cycle passes. -/
def State.idle (s : State) : State := { s.tmCount with cyc := s.cyc + 1 }.agesSat

end Sys2Proof.Machine
end

