-- ==== Sys2Proof/WellFormed.lean ====
section
/-!
DEFINITION. WellFormed.lean: which commands name a unit, register or access that the KZ3A has (R5, R28, R35, R39).
-/
namespace Sys2Proof
open Sys2Proof.Machine

/-- The initiators of R30: four application pairs, four Cove pairs, Dredge, the host port and JTAG. -/
def Machine.Initiator.wf : Initiator → Bool
  | .ac k => decide (k < 4)
  | .cv k => decide (k < 4)
  | .dredge => true
  | .host => true
  | .jtag => true

/-- An instruction of an application core: registers x0-x31, f0-f31 and fcsr; accesses of 1, 2 or 4 bytes. -/
def AppAct.wf : AppAct → Bool
  | .plain dst _ _ => decide (dst < 65)
  | .load _ size _ dst => (size == 1 || size == 2 || size == 4) && decide (dst < 65)
  | .store _ size _ => size == 1 || size == 2 || size == 4
  | .lr _ dst => decide (dst < 32)
  | .sc _ _ dst => decide (dst < 32)
  | .amo _ _ _ dst => decide (dst < 32)
  | .csr num dst _ => decide (num < 4096) && decide (dst < 32)
  | .trap _ _ => true
  | .mret => true

/-- A command is well formed. -/
def Instr.wf : Instr → Bool
  | .registerWrite who addr bytes _ => who.wf && decide (addr < 2 ^ 32) && (bytes == 1 || bytes == 2 || bytes == 4)
  | .rcRead who addr bytes => who.wf && decide (addr < 2 ^ 32) && (bytes == 1 || bytes == 2 || bytes == 4)
  | .lowWordRead who addr bytes => who.wf && decide (addr < 2 ^ 32) && (bytes == 1 || bytes == 2 || bytes == 4)
  | .enableWrite who page _ _ => who.wf && (kindOf page).isSome
  | .blockInitialised page => (kindOf page).isSome
  | .disableWrite who page _ _ => who.wf && (kindOf page).isSome
  | .drainEnd page => (kindOf page).isSome
  | .lockWrite who page => who.wf && (kindOf page).isSome
  | .blockStart page => (kindOf page).isSome
  | .blockStop page => (kindOf page).isSome
  | .keyWord who page _ => who.wf && (kindOf page).isSome
  | .keyTimeout page => (kindOf page).isSome
  | .swapReq who page => who.wf && (kindOf page).isSome
  | .swapPoint page => (kindOf page).isSome
  | .copy who page => who.wf && (kindOf page).isSome
  | .copyDone page => (kindOf page).isSome
  | .pageWake who addr _ => who.wf && decide (addr < 2 ^ 32)
  | .wakeTimeout who page => who.wf && (kindOf page).isSome
  | .ur _ => true
  | .por _ => true
  | .quayWord _ unit _ _ => decide (unit < 32)
  | .gateCommandSilence leg => decide (leg < 18)
  | .memoryRead who addr bytes _ => (match who with | some w => w.wf | none => true) && decide (addr < 2 ^ 32) && (bytes == 1 || bytes == 2 || bytes == 4)
  | .engineInputWrite who engine slot _ => who.wf && decide (engine < 6) && decide (slot < 32)
  | .xoLoss _ => true
  | .pllALockLoss => true
  | .pllBLockLoss => true
  | .delayLineLockLoss => true
  | .delayLineRelock _ _ => true
  | .aonDeviation _ => true
  | .crystalLoss => true
  | .swrcDeviation => true
  | .handshakeTransfer sluice _ => decide (sluice < 256)
  | .streamWord sluice _ _ => decide (sluice < 256)
  | .doubleSample sluice _ _ => decide (sluice < 256)
  | .sluiceDisagreement sluice reader => decide (sluice < 256) && (match reader with | some w => w.wf | none => true)
  | .srcChange who _ _ => who.wf
  | .wake n => decide (n < 4)
  | .canWake n => decide (n < 2)
  | .mauloWake channel => decide (channel < 2)
  | .floodComplete => true
  | .floodTimeout => true
  | .floodStepFailure => true
  | .ebb who => who.wf
  | .drydockNext who => who.wf
  | .ebbSavesComplete _ => true
  | .vsupPor => true
  | .vsupPorRelease => true
  | .vsupStart => true
  | .vsupUv => true
  | .vsupOv => true
  | .vpreWarn => true
  | .vpreWarnRelease => true
  | .vpreBo => true
  | .vpreBoRelease => true
  | .railLoss _ => true
  | .vgdMonitor => true
  | .railInLimits _ => true
  | .railStartTimeout _ => true
  | .extRstN => true
  | .extRstNRise => true
  | .kdResetRelease _ => true
  | .imageVerify => true
  | .bootImageLoad _ => true
  | .tryOther who => who.wf
  | .confirm who => who.wf
  | .updateOpen who _ => who.wf
  | .updData who _ => who.wf
  | .closeVerify who => who.wf
  | .verifyDone => true
  | .fastSample raw => raw.length == 19
  | .preciseSample raw => raw.length == 19
  | .cmFault channel => decide (channel < 18)
  | .gainWrite who channel _ => who.wf && decide (channel < 19)
  | .tenderPeriod => true
  | .serviceStart => true
  | .tenderRequest who channel => who.wf && decide (channel < 18)
  | .tenderWithdraw who => who.wf
  | .settleEnd => true
  | .tenderSwap => true
  | .calibrationPointDone _ _ => true
  | .selfcalEnd _ _ _ => true
  | .emergencyRelief channel => decide (channel < 18)
  | .holdRelease => true
  | .glitch channel => decide (channel < 12)
  | .acceptedEdge channel _ _ _ _ => decide (channel < 12)
  | .absoluteSample channel _ _ => decide (channel < 12)
  | .standstill channel => decide (channel < 12)
  | .countWindow channel => decide (channel < 12)
  | .ssiFrameStart channel => decide (channel < 12)
  | .ssiFrameEnd channel _ => decide (channel < 12)
  | .spiPoll channel => decide (channel < 12)
  | .framedTimeout channel => decide (channel < 12)
  | .observerUpdate channel _ _ _ => decide (channel < 4)
  | .resolverLock channel _ => decide (channel < 4)
  | .excitationPeriod _ _ _ _ => true
  | .excitationFreqChange => true
  | .slackPulse channel _ _ _ _ => channel == 10 || channel == 11
  | .baseTick _ _ => true
  | .runCommit engine _ => decide (engine < 6)
  | .go who engine => who.wf && decide (engine < 6)
  | .checkComplete engine => decide (engine < 6)
  | .pairTimeout engine => decide (engine < 6)
  | .capstanNop engine => decide (engine < 6)
  | .capstanMov engine => decide (engine < 6)
  | .capstanAdd engine => decide (engine < 6)
  | .capstanSub engine => decide (engine < 6)
  | .capstanMul engine => decide (engine < 6)
  | .capstanFma engine => decide (engine < 6)
  | .capstanMin engine => decide (engine < 6)
  | .capstanMax engine => decide (engine < 6)
  | .capstanAbs engine => decide (engine < 6)
  | .capstanNeg engine => decide (engine < 6)
  | .capstanSel engine => decide (engine < 6)
  | .capstanDiv engine => decide (engine < 6)
  | .capstanSqrt engine => decide (engine < 6)
  | .capstanWrap engine => decide (engine < 6)
  | .capstanSld engine => decide (engine < 6)
  | .capstanSst engine => decide (engine < 6)
  | .capstanRef engine => decide (engine < 6)
  | .capstanClk engine => decide (engine < 6)
  | .capstanIclk engine => decide (engine < 6)
  | .capstanPark engine => decide (engine < 6)
  | .capstanIpark engine => decide (engine < 6)
  | .capstanPi engine => decide (engine < 6)
  | .capstanHys engine => decide (engine < 6)
  | .capstanBiq engine => decide (engine < 6)
  | .capstanLim engine => decide (engine < 6)
  | .capstanSlew engine => decide (engine < 6)
  | .capstanSwl engine => decide (engine < 6)
  | .capstanInj engine => decide (engine < 6)
  | .capstanCap engine => decide (engine < 6)
  | .decision => true
  | .zeroSwap bridge => decide (bridge < 6)
  | .clear who engine _ => who.wf && decide (engine < 6)
  | .resume who engine _ => who.wf && decide (engine < 6)
  | .injectionArm who engine => who.wf && decide (engine < 6)
  | .injectionStop who engine => who.wf && decide (engine < 6)
  | .captureClaim who engine _ => who.wf && decide (engine < 6)
  | .captureArm who engine => who.wf && decide (engine < 6)
  | .captureForce who engine => who.wf && decide (engine < 6)
  | .captureRelease who engine => who.wf && decide (engine < 6)
  | .segmentCleared => true
  | .commandWord leg _ => decide (leg < 18)
  | .switchAction leg => decide (leg < 18)
  | .seawallEnable bridge => decide (bridge < 6)
  | .vgdUvlo bridge => decide (bridge < 6)
  | .bootstrapUvlo leg _ => decide (leg < 18)
  | .bootstrapRefresh leg => decide (leg < 18)
  | .didtTrip leg _ _ => decide (leg < 18)
  | .vdsTrip leg _ _ => decide (leg < 18)
  | .softSinkHandover leg => decide (leg < 18)
  | .latchHoldExpiry leg => decide (leg < 18)
  | .readbackMismatch leg => decide (leg < 18)
  | .leakageCheck who leg _ => who.wf && decide (leg < 18)
  | .leakDone leg _ _ => decide (leg < 18)
  | .isClose who phase => who.wf && decide (phase < 18)
  | .isOpen who phase => who.wf && decide (phase < 18)
  | .permitRise phase => decide (phase < 18)
  | .permitWithdrawn phase => decide (phase < 18)
  | .isolationClosed phase => decide (phase < 18)
  | .isolationOpened phase => decide (phase < 18)
  | .closeTimeout phase => decide (phase < 18)
  | .openTimeout phase => decide (phase < 18)
  | .openTmo phase => decide (phase < 18)
  | .coveStart who pair => who.wf && decide (pair < 4)
  | .swi who pair => who.wf && decide (pair < 4)
  | .timerLoad pair _ _ => decide (pair < 4)
  | .coveTimer pair => decide (pair < 4)
  | .iflagWrite pair _ _ => decide (pair < 4)
  | .outWrite pair stream _ => decide (pair < 4) && decide (stream < 16)
  | .farRead pair => decide (pair < 4)
  | .farWrite pair => decide (pair < 4)
  | .farDone pair => decide (pair < 4)
  | .chkpt pair _ => decide (pair < 4)
  | .haltreq pair _ => decide (pair < 4)
  | .fastInterrupt pair _ => decide (pair < 4)
  | .normalInterrupt pair _ => decide (pair < 4)
  | .coveRelease pair addr _ => decide (pair < 4) && decide (addr < 2 ^ 32)
  | .coveWindowClose pair _ => decide (pair < 4)
  | .coveSignatureCompare pair => decide (pair < 4)
  | .coveCopyDone pair _ => decide (pair < 4)
  | .coveDrainTimeout pair => decide (pair < 4)
  | .parallelNop pair _ => decide (pair < 4)
  | .parallelMac pair _ => decide (pair < 4)
  | .parallelMsu pair _ => decide (pair < 4)
  | .parallelMpy pair _ => decide (pair < 4)
  | .parallelAdd pair _ => decide (pair < 4)
  | .parallelSub pair _ => decide (pair < 4)
  | .parallelAnd pair _ => decide (pair < 4)
  | .parallelOr pair _ => decide (pair < 4)
  | .parallelXor pair _ => decide (pair < 4)
  | .parallelFadd pair _ => decide (pair < 4)
  | .parallelFsub pair _ => decide (pair < 4)
  | .parallelFmul pair _ => decide (pair < 4)
  | .parallelFma pair _ => decide (pair < 4)
  | .parallelAdda pair _ => decide (pair < 4)
  | .parallelRnd pair _ => decide (pair < 4)
  | .parallelClr pair _ => decide (pair < 4)
  | .registerAdd pair _ => decide (pair < 4)
  | .registerSub pair _ => decide (pair < 4)
  | .registerCmp pair _ => decide (pair < 4)
  | .registerAnd pair _ => decide (pair < 4)
  | .registerOr pair _ => decide (pair < 4)
  | .registerXor pair _ => decide (pair < 4)
  | .registerNot pair _ => decide (pair < 4)
  | .registerNeg pair _ => decide (pair < 4)
  | .registerAbs pair _ => decide (pair < 4)
  | .registerMin pair _ => decide (pair < 4)
  | .registerMax pair _ => decide (pair < 4)
  | .registerMuli pair _ => decide (pair < 4)
  | .registerAsr pair _ => decide (pair < 4)
  | .registerLsr pair _ => decide (pair < 4)
  | .registerLsl pair _ => decide (pair < 4)
  | .registerFadd pair _ => decide (pair < 4)
  | .registerFsub pair _ => decide (pair < 4)
  | .registerFmul pair _ => decide (pair < 4)
  | .registerFma pair _ => decide (pair < 4)
  | .registerFmin pair _ => decide (pair < 4)
  | .registerFmax pair _ => decide (pair < 4)
  | .registerFabs pair _ => decide (pair < 4)
  | .registerFneg pair _ => decide (pair < 4)
  | .registerFrcp pair _ => decide (pair < 4)
  | .registerFrsq pair _ => decide (pair < 4)
  | .registerFcmp pair _ => decide (pair < 4)
  | .registerFlt pair _ => decide (pair < 4)
  | .registerFix pair _ => decide (pair < 4)
  | .registerFltq pair _ => decide (pair < 4)
  | .registerFixq pair _ => decide (pair < 4)
  | .ldl pair _ => decide (pair < 4)
  | .ldh pair _ => decide (pair < 4)
  | .addi pair _ => decide (pair < 4)
  | .cmpi pair _ => decide (pair < 4)
  | .asri pair _ => decide (pair < 4)
  | .lsri pair _ => decide (pair < 4)
  | .lsli pair _ => decide (pair < 4)
  | .lda pair _ => decide (pair < 4)
  | .inca pair _ => decide (pair < 4)
  | .ldml pair _ => decide (pair < 4)
  | .ldmh pair _ => decide (pair < 4)
  | .classMMove pair _ => decide (pair < 4)
  | .directLoad pair _ => decide (pair < 4)
  | .directStore pair _ => decide (pair < 4)
  | .accumulatorShift pair _ => decide (pair < 4)
  | .bra pair _ => decide (pair < 4)
  | .call pair _ => decide (pair < 4)
  | .ret pair _ => decide (pair < 4)
  | .reti pair _ => decide (pair < 4)
  | .retf pair _ => decide (pair < 4)
  | .rep pair _ => decide (pair < 4)
  | .ftap pair _ => decide (pair < 4)
  | .illegalInstruction pair _ => decide (pair < 4)
  | .retiredInstruction pair _ act => decide (pair < 4) && act.wf
  | .checkerRetire pair _ _ act _ => decide (pair < 4) && act.wf
  | .machineInterrupt pair _ bit => decide (pair < 4) && (bit == 7 || bit == 11 || (16 ≤ bit && bit < 19))
  | .quayStore pair _ _ size _ => decide (pair < 4) && (size == 1 || size == 2 || size == 4)
  | .quayRelease pair _ _ _ size _ _ => decide (pair < 4) && (size == 1 || size == 2 || size == 4)
  | .fence pair _ _ => decide (pair < 4)
  | .writeError pair => decide (pair < 4)
  | .parityFailure pair _ reg => decide (pair < 4) && 1 ≤ reg && reg < 65
  | .appWindowClose pair _ => decide (pair < 4)
  | .appSignatureCompare pair _ => decide (pair < 4)
  | .kzchkpt pair _ dst _ => decide (pair < 4) && decide (dst < 65)
  | .checkpointCompare pair _ => decide (pair < 4)
  | .repairEnd pair _ => decide (pair < 4)
  | .restartCopyDone pair _ => decide (pair < 4)
  | .appStart who pair => who.wf && decide (pair < 4)
  | .appDrainTimeout pair => decide (pair < 4)
  | .debugHalt pair => decide (pair < 4)
  | .debugRegisterWrite pair reg _ => decide (pair < 4) && decide (reg < 2 ^ 16)
  | .systemBusWrite addr size _ => decide (addr < 2 ^ 32) && (size == 1 || size == 2 || size == 4)
  | .debugResume pair => decide (pair < 4)
  | .singleStep pair _ act => decide (pair < 4) && act.wf
  | .debuggerAttach pair => decide (pair < 4)
  | .debuggerDetach pair => decide (pair < 4)
  | .phaseCurrentTrip phase _ => decide (phase < 18)
  | .dcLinkWindow bridge => decide (bridge < 6)
  | .commandEdgeRate leg => decide (leg < 18)
  | .clusterTemperature bridge => decide (bridge < 6)
  | .kpTemperature => true
  | .shootThroughReport leg => decide (leg < 18)
  | .softCutEnd bridge => decide (bridge < 6)
  | .seawallSelfTest _ => true
  | .watchdogPeriod => true
  | .wdAns who _ _ => who.wf
  | .manifestCheck => true
  | .seawallRstN _ => true
  | .commissionEdge _ => true
  | .edgeInputStuck _ => true
  | .sealConfirm who _ => who.wf
  | .sealKey who _ => who.wf
  | .sealKeyTimeout => true
  | .keyedTimeout => true
  | .recordReadback _ => true
  | .pennant source _ _ => decide (source < 640)
  | .errorLine source => decide (source < 640)
  | .lineCheckTimeout source => decide (source < 640)
  | .eventProcessing => true
  | .quietExpiry group => decide (group < 32)
  | .ack who _ => who.wf
  | .historyRelease who => who.wf
  | .linkUp port sqi => decide (port < 4) && decide (sqi < 8)
  | .linkLoss port => decide (port < 4)
  | .dataFrame port _ _ _ => decide (port < 4)
  | .syncFrame port _ _ _ => decide (port < 4)
  | .startFrame port _ _ _ => decide (port < 4)
  | .leadFrame port _ _ _ => decide (port < 4)
  | .leadSlot _ => true
  | .leadResponse port => decide (port < 4)
  | .leadNotice port => decide (port < 4)
  | .slotStart channel entry _ _ => decide (channel < 2) && decide (entry < 64)
  | .syncWindowClose channel => decide (channel < 2)
  | .cycleBoundary => true
  | .slewEnd => true
  | .return who => who.wf
  | .listenTimeout => true
  | .holdoverEnd => true
  | .pierHeadTakeover => true
  | .commit who berth => who.wf && decide (berth < 256)
  | .canFrameReceived ctl _ _ dlc _ _ => decide (ctl < 4) && decide (dlc < 16)
  | .canTransmit ctl => decide (ctl < 4)
  | .busOff ctl _ _ => decide (ctl < 4)
  | .busRecovery ctl => decide (ctl < 4)
  | .recover who ctl => who.wf && decide (ctl < 4)
  | .abortTx who ctl => who.wf && decide (ctl < 4)
  | .fifoPop who ctl => who.wf && decide (ctl < 4)
  | .spiTransmit who ctl _ => who.wf && decide (ctl < 6)
  | .spiFrameDone ctl _ => decide (ctl < 6)
  | .hostNop => true
  | .hostRead _ _ => true
  | .hostWrite _ _ _ => true
  | .hostAccessDone => true
  | .sentFrame input _ _ _ _ _ => decide (input < 8)
  | .sentTimeout input => decide (input < 8)
  | .sarStart who conv => who.wf && decide (conv < 2)
  | .sarTrigger conv source => decide (conv < 2) && 1 ≤ source && source < 4
  | .sarConversion conv _ _ => decide (conv < 2)
  | .supplyOutOfWindow supply _ => decide (supply < 4)
  | .thermalShutdown supply => decide (supply < 4)
  | .sensorSupplyEnable who _ => who.wf
  | .mooringLinkUp port => decide (port < 2)
  | .mooringLinkLoss port => decide (port < 2)
  | .peerAbsent peer => decide (peer < 2)
  | .rawFrame port _ _ => decide (port < 2)
  | .agreeT => true
  | .xchkFrame port _ _ => decide (port < 2)
  | .stateFrame port _ _ phase _ => decide (port < 2) && decide (phase < 8)
  | .healthSend => true
  | .healthFrame port _ _ => decide (port < 2)
  | .helloFrame port _ _ => decide (port < 2)
  | .peerLost peer => decide (peer < 2)
  | .beaconSend => true
  | .beacon port rank => decide (port < 2) && decide (rank < 4)
  | .beaconTimeout port => decide (port < 2)
  | .lineMismatch peer => decide (peer < 2)
  | .claim => true
  | .claimWindowEnd => true
  | .bolInChange line _ => decide (line < 2)
  | .joiningTimeout => true
  | .snapshotCut => true
  | .caughtUp who => who.wf
  | .returnTimeout => true
  | .xswapMask who _ => who.wf
  | .leeNoTime => true
  | .tokenGrant => true
  | .testEnd page _ => (kindOf page).isSome
  | .testTimeout page => (kindOf page).isSome
  | .abortAll who => who.wf
  | .sweep who => who.wf
  | .sweepTimer => true
  | .scrubRead _ => true
  | .marchDone _ _ => true
  | .floodRunDone _ => true
  | .buoySample page buoy _ => (kindOf page).isSome && decide (buoy < 16)
  | .jtagBypass => true
  | .jtagSamplePreload _ => true
  | .jtagExtest => true
  | .jtagIdcode => true
  | .pllBRelock => true
  | .vgdUvloRelease bridge => decide (bridge < 6)
  | .commonModeReturn channel => decide (channel < 18)
  | .cmFaultLasting channel => decide (channel < 18)
  | .aonCounterSample _ _ => true
  | .stateFrameSent => true

end Sys2Proof
end

