-- ==== Sys2Proof/Safety.lean ====
section
/-!
DEFINITION. Safety.lean: what the claims speak of: sound states, a command's completion, what a command leaves alone, pennants.
-/
namespace Sys2Proof.Machine

/-- Memory and the checkers' copies are in canonical form: equal memories are equal data. -/
def State.memOk (s : State) : Prop := Memory.wf s.mem = true ∧ Memory.wf s.ckMem = true

/-- Every waiting command is well formed. -/
def State.queueOk (s : State) : Prop := ∀ c ∈ s.pending, Instr.wf c = true

/-- `n` steps lead from one state to another without a stop. -/
def Runs : Nat → State → State → Prop
  | 0, s, t => s = t
  | n + 1, s, t => ∃ u, step s = .next u ∧ Runs n u t

/-- A command completes on a state, and the next state has a property. -/
def Completes (c : Instr) (s : State) (P : State → Prop) : Prop := ∃ t, exec c s = .next t ∧ P t

/-- What a command leaves alone: every page but those named, and every register of those but the ones named. -/
def Kept (pages : List Nat) (regs : List (Nat × Nat)) (s t : State) : Prop :=
  (∀ k, k ∉ pages → t.page k = s.page k) ∧ ∀ k off, (k, off) ∉ regs → t.reg k off = s.reg k off

/-- The state of the unit-wide parts that only commands of their own chapters change: queue, time, memory and the checkers'
copies. -/
def Quiet (s t : State) : Prop :=
  t.pending = s.pending ∧ t.cyc = s.cyc ∧ t.ckMem = s.ckMem ∧ ∀ a, mget t.mem a = mget s.mem a

/-- A source sends a pennant of a kind and proposed level with its own count, unless its group reports by error line alone
(R426, R427, R429). -/
def Sends (s t : State) (src kind lvl : Nat) : Prop :=
  (s.lineMode (srcGroup src) = false → ∃ p ∈ t.wires, p.source = src ∧ p.kind.toNat = kind ∧ p.level = lvl) ∧ src ∈ t.lines

/-- Pages that Dredge never tests and that always answer (R45, R572). -/
def untested : List Nat := [pkSys, pkPla, pkPlb, pkAon, pkSup, pkSea, pkSec]

/-- None of them is in TEST, and no test that waits, is held or runs names one. -/
def State.fixedLive (s : State) : Prop :=
  (∀ k ∈ untested, s.st k ≠ .test) ∧ ∀ x ∈ s.dr.queue ++ s.dr.running ++ s.dr.held, ∀ k ∈ x.pages, k ∉ untested

/-- A page of a kind that answers accesses: powered, with its clock running, outside TEST, and no key sequence open on it. -/
def State.answers (s : State) (k : Nat) : Prop :=
  (s.page k).powered = true ∧ s.clockLost k = false ∧ s.st k ≠ .test ∧ (s.page k).key = .idle

/-- The next operation of engine k's running group g, in run r, is o (R203, R214). -/
def State.atOp (s : State) (k g : Nat) (r : Run) (o : OpF) : Prop :=
  s.activeRun k = some (g, r) ∧ s.busy (pkCe k) = true ∧ r.started = true ∧ r.pc ≤ s.grpEnd k g ∧ opFields (s.ceProg k r.pc) = o

/-- The run of a group. -/
def State.runOf (s : State) (k g : Nat) : Run := tget {} (s.eng k).runs g

/-- An operation of engine k's group g has ended: the run goes on with the next one, its results stand in W or are staged for P, the
exceptions are collected in GRPn_FLAGS, and nothing else changes: no committed word, no other run, engine, page or byte. -/
def OpEnds (s t : State) (k g : Nat) (r : Run) (res : List (Nat × Nat)) (fl : FFlags) : Prop :=
  (t.runOf k g).pc = r.pc + 1 ∧ (t.runOf k g).stO = r.stO ∧ (t.runOf k g).stR = r.stR ∧ (t.runOf k g).stCap = r.stCap ∧
    (t.runOf k g).tick = r.tick ∧ (t.runOf k g).links = r.links ∧ (t.runOf k g).bankB = r.bankB ∧
    (∀ x ∈ res, x.1 < 0x40 → t.m32 (ceWAddr k g x.1) = BitVec.ofNat 32 x.2) ∧
    (∀ x ∈ res, 0x100 ≤ x.1 → tget 0#32 (t.runOf k g).stP (x.1 - 0x100) = BitVec.ofNat 32 x.2) ∧
    (∀ i, (∀ x ∈ res, x.1 ≠ 0x100 + i) → tget 0#32 (t.runOf k g).stP i = tget 0#32 r.stP i) ∧
    (∀ a, (∀ x ∈ res, x.1 < 0x40 → a < ceWAddr k g x.1 ∨ ceWAddr k g x.1 + 4 ≤ a) → mget t.mem a = mget s.mem a) ∧
    (∀ j, j ≠ g → t.runOf k j = s.runOf k j) ∧ (∀ j, j ≠ k → t.eng j = s.eng j) ∧
    t.reg (pkCe k) (0x088 + 16 * g) = s.reg (pkCe k) (0x088 + 16 * g) |||
      BitVec.ofNat 32 (b2n fl.nv + 2 * b2n fl.dz + 4 * b2n fl.of + 8 * b2n fl.uf) ∧
    Kept [pkCe k] [(pkCe k, 0x088 + 16 * g)] s t ∧ t.wires = s.wires ∧ t.pending = s.pending

/-- The instruction that a core of pair k issues next is the legal word w of this code: the pair runs, and neither a window that
has been asked to close nor the other core's exception stands in its way (R327, R358). -/
def State.cvNext (s : State) (k : Nat) (chk : Bool) (code w : Nat) : Prop :=
  k < 4 ∧ s.cvReady k chk = true ∧ s.cvWord k chk = w ∧ cvCode w = code ∧ (s.cvCore k chk).bad w = none ∧
    (s.cvCore k chk).delay = none ∧ (s.cvCore k chk).closeNow = false ∧ (s.cove k).closeReq = false ∧
    (chk = true → (s.cove k).main.exc = none)

/-- A core's instruction has retired: it counts one, the PC goes on unless the instruction repeats, the results stand, the flags
are those given, and no other register changes but those named and those for which an earlier result lands (R327, R328, R356); the
other core, the other pairs and every page stay as they are. -/
def CvRetires (s t : State) (k : Nat) (chk : Bool) (res : List (Nat × Nat)) (fl : CvFlags) (upd : List Nat) : Prop :=
  (t.cvCore k chk).retired = (s.cvCore k chk).retired + 1 ∧ (t.cvCore k chk).win = (s.cvCore k chk).win + 1 ∧
    (t.cvCore k chk).pc = (if 1 < (s.cvCore k chk).rep then (s.cvCore k chk).pc else ((s.cvCore k chk).pc + 1) % 65536) ∧
    (t.cvCore k chk).bank = (s.cvCore k chk).bank ∧ (t.cvCore k chk).halted = false ∧ (t.cvCore k chk).exc = none ∧
    (∀ x ∈ res, tget 0 (t.cvCore k chk).rf ((s.cvCore k chk).key x.1) = x.2) ∧
    ((∀ l ∈ (s.cvCore k chk).land, l.key ≠ cvSR) →
      tget 0 (t.cvCore k chk).rf cvSR = cvSetFlags (tget 0 (s.cvCore k chk).rf cvSR) fl) ∧
    (∀ key, key ≠ cvSR → (∀ n ∈ res.map (fun x => x.1) ++ upd, key ≠ (s.cvCore k chk).key n) →
      (∀ l ∈ (s.cvCore k chk).land, l.key ≠ key) → tget 0 (t.cvCore k chk).rf key = tget 0 (s.cvCore k chk).rf key) ∧
    t.cvCore k (!chk) = s.cvCore k (!chk) ∧ (∀ j, j ≠ k → t.cove j = s.cove j) ∧ t.pages = s.pages ∧ t.wires = s.wires ∧
    t.pending = s.pending ∧ t.cyc = s.cyc

/-- No byte of memory changes, nor of the checkers' copies. -/
def SameMemory (s t : State) : Prop := t.ckMem = s.ckMem ∧ ∀ a, mget t.mem a = mget s.mem a

/-- A load of register n is on its way with a value, two instructions from landing (R328). -/
def CvLoads (s t : State) (k : Nat) (chk : Bool) (n v : Nat) : Prop := (⟨(s.cvCore k chk).key n, v, 2⟩ : CvLand) ∈ (t.cvCore k chk).land

/-- The Z and N flags of a result of w bits (R363). -/
def cvZNOf (w r : Nat) : CvFlags := { z := some (decide (r = 0)), n := some (bitN r (w - 1)) }

/-- The main core of pair k executes `act` next: nothing of R372 holds it, its window is not full and no exception meets the
instruction (R371-R381). -/
def State.acNext (s : State) (k : Nat) (act : AppAct) : Prop :=
  k < 4 ∧ (s.appOf k).halted = false ∧ s.mainReady k = true ∧ (s.appOf k).main.win < 256 ∧ s.acExcept k (s.appOf k).main act = none ∧
    (s.inQuay k (s.appOf k).main.pc = true → (s.appOf k).quay = [])

/-- The main core has retired an instruction: it counts one, its FIFO entry stands behind the others (R373), and the checker, the
quay buffer and every register of a page but AC.STAT stay as they are. -/
def AcRetires (s t : State) (k : Nat) (act : AppAct) (v next : Word) : Prop :=
  (t.appOf k).main.retired = (s.appOf k).main.retired + 1 ∧ (t.appOf k).main.win = (s.appOf k).main.win + 1 ∧
    (t.appOf k).main.pc = next ∧
    (t.appOf k).fifo = (s.appOf k).fifo ++ [{ seq := (s.appOf k).main.retired % 128, fetch := (s.appOf k).main.pc, act := act, val := v }] ∧
    (t.appOf k).chk = (s.appOf k).chk ∧ (t.appOf k).quay = (s.appOf k).quay ∧ (t.appOf k).sigs = (s.appOf k).sigs ∧
    Kept [pkAc k] [(pkAc k, AC_STAT.off)] s t ∧ t.wires = s.wires ∧ t.pending = s.pending ∧ t.cyc = s.cyc

/-- The checker of pair k meets the entry e of the delay FIFO with its own instruction at `fetch`: no window of its own is due, it
is not held, and no exception meets the instruction (R373). -/
def State.ckNext (s : State) (k : Nat) (e : AppEntry) (rest : List AppEntry) (fetch : Word) (act : AppAct) : Prop :=
  k < 4 ∧ s.chkReady k = true ∧ s.acDue k true = false ∧ (s.appOf k).fifo = e :: rest ∧ e.cause = none ∧
    s.acExcept k { (s.appOf k).chk with pc := fetch } act = none

/-- A pair has gone to FAULT: DIVERGE holds the cause, the pennant stands, nothing held has left it (R385). -/
def AcFaulted (s t : State) (k cause kind off : Nat) : Prop :=
  t.st (pkAc k) = .fault ∧ bitsN (t.reg (pkAc k) AC_DIVERGE.off).toNat 31 24 = cause ∧
    bitN (t.page (pkAc k)).irqFlags.toNat 10 = true ∧ Sends s t (0x140 + 16 * k + off) kind 2 ∧ (t.appOf k).quay = [] ∧
    (t.appOf k).fifo = [] ∧ SameMemory s t

/-- The effective level of a queued event before the incident rules (R435 steps 1 to 4). -/
def State.eventLevel (s : State) (p : Pennant) : Nat :=
  let g := srcGroup p.source
  let n := if g = 10 then 3 else s.fld pkHm HM_RECUR_CFG_N
  let w := if g = 10 then secondCycles else s.fld pkHm HM_RECUR_CFG_W * 400000
  let again := p.level = 1 ∧ p.kind ≠ 0#6 ∧ (g = 10 ∨ bitN (s.word pkHm HM_RECUR_EN).toNat g = true) ∧
    n ≤ ((s.srcSt p.source).lvl1.filter (fun t => decide (s.cyc ≤ t + w))).length + 1
  let l := if again then 2 else p.level
  let crit := (14 ≤ g ∧ g ≤ 17 ∧ s.bit (pkCv (g - 14)) CV_CFG_CRIT = true) ∨ (18 ≤ g ∧ g ≤ 21 ∧ s.bit (pkAc (g - 18)) AC_CFG_CRIT = true)
  if l = 2 ∧ (crit ∨ hasLane p.source = false) then 3 else l

/-- A mooring frame of a type from peer i, whole and new, on a port whose link is up (R523, R524). -/
def State.mpGood (s : State) (p typ i : Nat) (l : List Byte) : Prop :=
  p < 2 ∧ s.mpUp p = true ∧ s.rankPeer (beAt l 1 1 % 4) = some i ∧ beAt l 0 1 = typ ∧ beAt l 1 1 / 4 % 32 = 0 ∧ beAt l 2 2 = 0 ∧
    8 ≤ l.length ∧ (typ, beAt l 1 1 % 4, BitVec.ofNat 32 (beAt l 4 4)) ∉ s.wg.frames

end Sys2Proof.Machine
end

