-- ==== Sys2Proof/Certificates/Slice0/Obligations.lean ====
section
/-!
DEFINITION. Certificates/Slice0/Obligations.lean: the statements for the provers, listed in OBLIGATIONS.json.
-/
section

open Sys2Proof Sys2Proof.Machine

/-- A step takes the command at the front of the queue and runs it with the queue's rest (log entry 1). -/
def Obligations.StepRunsFront : Prop :=
  ∀ (c : Instr) (rest : List Instr) (s : State), s.pending = c :: rest → step s = exec c { s with pending := rest }

/-- With no command waiting one BUS cycle passes (log entry 1): Tidemark goes on by 2.5 ns, RATE and slew (R472), and nothing else
that a register shows changes, but for SAT of an age that reaches its maximum. -/
def Obligations.IdleCycle : Prop :=
  ∀ s : State, s.pending = [] → ∃ t, step s = .next t ∧ t.pending = [] ∧ t.cyc = s.cyc + 1 ∧
    (t.ma.tm : Int) = ((s.ma.tm : Int) + 5 * 2 ^ 31 + s.sfld pkMs MS_RATE + s.ma.slew) % 2 ^ 96 ∧
    (∀ k off, t.reg k off = s.reg k off) ∧ (∀ k, t.st k = s.st k) ∧ t.mem = s.mem ∧ t.wires = s.wires ∧ t.lines = s.lines

/-- The machine after a power-on reset (R41, R45, R51, R56, R76, R91, R94, R112). -/
def Obligations.ResetState : Prop :=
  State.reset.pending = [] ∧ State.reset.pw.tide = .flood ∧ State.reset.pw.rstoutLow = true ∧ State.reset.pw.kdUp = false ∧
    State.reset.view pkSys SYS_TIDE_STAT.off = 1#32 ∧ State.reset.view pkAon AON_WAKE_SRC.off = 0x40#32 ∧
    (∀ k off, State.reset.reg k off = regReset k off) ∧
    (∀ k d, kindOf k = some d → fixedEnable d = false → State.reset.st k = .off ∧ (State.reset.page k).en = false) ∧
    State.reset.mem = [] ∧ State.reset.memOk ∧ State.reset.fixedLive

/-- Every step keeps memory and the checkers' copies in canonical form, whatever command runs. -/
def Obligations.MemoryCanonicalStep : Prop := ∀ s t : State, s.memOk → step s = .next t → t.memOk

/-- Every command completes on every state and leaves the queue and the time alone. -/
def Obligations.CommandsKeepQueueAndTime : Prop :=
  ∀ (c : Instr) (s : State), Completes c s (fun t => t.pending = s.pending ∧ t.cyc = s.cyc)

/-- R44, R51: ENABLE_WRITE, BLOCK_INITIALISED, BLOCK_START and BLOCK_STOP on a page that is not fixed-enable. A QG page follows its
AC page (R393); an engine and an application pair have no stop condition (R224, R393). -/
def Obligations.PageEnable : Prop :=
  (∀ (s : State) (who : Initiator) (k : Nat) (d : PKind) (mode : BitVec 2),
    kindOf k = some d → fixedEnable d = false → d ≠ .qg → s.st k = .off → (s.page k).en = false →
    (s.page k).lock = false → (k / 32 ≠ 6 ∧ k / 32 ≠ 7 ∧ (s.page k).key = .idle ∨ (s.page k).key = .opened who) → mode.toNat ≤ 1 →
    Completes (.enableWrite who k mode (s.page k).shadowSel) s (fun t =>
      (t.page k).en = true ∧ (t.page k).drainMode = mode ∧ (t.page k).initPending = true ∧ t.st k = .off ∧
      (t.page k).clampCount = (s.page k).clampCount ∧ Kept [k] [] s t ∧ Quiet s t)) ∧
  (∀ (s : State) (k : Nat) (d : PKind), kindOf k = some d → fixedEnable d = false → d ≠ .qg →
    (s.page k).initPending = true → s.st k = .off →
    Completes (.blockInitialised k) s (fun t => t.st k = .idle ∧ (t.page k).initPending = false ∧ (t.page k).lock = (s.page k).lock)) ∧
  (∀ (s : State) (k : Nat), s.st k = .idle → s.startOk k = true → Completes (.blockStart k) s (fun t => t.st k = .run)) ∧
  (∀ (s : State) (k : Nat) (d : PKind), kindOf k = some d → fixedEnable d = false → d ≠ .ce → d ≠ .ac → d ≠ .qg →
    s.st k = .run → Completes (.blockStop k) s (fun t => t.st k = .idle ∧ Quiet s t))

/-- R46, R51, R52, R54: DISABLE_WRITE and DRAIN_END. -/
def Obligations.PageDisable : Prop :=
  (∀ (s : State) (who : Initiator) (k : Nat) (d : PKind), kindOf k = some d → fixedEnable d = false → d ≠ .qg →
    (s.page k).en = true → (s.page k).lock = false → (s.page k).key = .idle → s.st k = .idle →
    Completes (.disableWrite who k 0#2 (s.page k).shadowSel) s (fun t =>
      t.st k = .off ∧ (t.page k).en = false ∧ (t.page k).initPending = false ∧ bitN (t.page k).irqFlags.toNat 0 = true)) ∧
  (∀ (s : State) (who : Initiator) (k : Nat) (d : PKind), kindOf k = some d → fixedEnable d = false → d ≠ .qg → d ≠ .ac →
    (s.page k).en = true → (s.page k).lock = false → (s.page k).key = .idle → s.st k = .run →
    Completes (.disableWrite who k 0#2 (s.page k).shadowSel) s (fun t => t.st k = .drain ∧ (t.page k).en = false)) ∧
  (∀ (s : State) (k : Nat), s.st k = .drain →
    Completes (.drainEnd k) s (fun t =>
      t.st k = .off ∧ bitN (t.page k).irqFlags.toNat 0 = true ∧ (t.page k).initPending = (t.page k).en))

/-- R63, R64: KEY_WORD and KEY_TIMEOUT. -/
def Obligations.KeySequence : Prop :=
  (∀ k, key1 k = 0xC0A50000#32 + BitVec.ofNat 32 (pageType k) ∧ key2 k = ~~~ (key1 k)) ∧
  (∀ (s : State) (who : Initiator) (k : Nat) (d : PKind) (w : Word), kindOf k = some d →
    Completes (.keyWord who k w) s (fun t =>
      Kept [k] [] s t ∧ Quiet s t ∧ t.st k = s.st k ∧
      ((s.page k).key = .idle → w = key1 k → (t.page k).key = .first who ∧ (t.page k).keyFail = (s.page k).keyFail) ∧
      ((s.page k).key = .idle → w ≠ key1 k →
        (t.page k).key = .idle ∧ (t.page k).keyFail.toNat = min 255 ((s.page k).keyFail.toNat + 1)) ∧
      ((s.page k).key = .first who → w = key2 k → (t.page k).key = .opened who ∧ (t.page k).keyFail = (s.page k).keyFail) ∧
      ((s.page k).key = .first who ∧ w ≠ key2 k ∨ (s.page k).key = .opened who →
        (t.page k).keyFail.toNat = min 255 ((s.page k).keyFail.toNat + 1) ∧
        (t.page k).key = if w = key1 k then .first who else .idle) ∧
      (∀ a, a ≠ who → (s.page k).key = .first a ∨ (s.page k).key = .opened a →
        (t.page k).key = if w = key1 k then .first who else .idle))) ∧
  (∀ (s : State) (k : Nat), (s.page k).key ≠ .idle →
    Completes (.keyTimeout k) s (fun t =>
      (t.page k).key = .idle ∧ (t.page k).keyFail.toNat = min 255 ((s.page k).keyFail.toNat + 1) ∧ Kept [k] [] s t ∧ Quiet s t))

/-- R39, R44, R58, R60-R62, R164: LOCK_WRITE and REGISTER_WRITE. -/
def Obligations.RegisterWrites : Prop :=
  (∀ (s : State) (who : Initiator) (k : Nat) (d : PKind), kindOf k = some d → (s.page k).lock = false → (s.page k).key = .idle →
    (s.page k).drainMode.toNat ≤ 1 →
    Completes (.lockWrite who k) s (fun t =>
      (t.page k).lock = true ∧ (t.page k).en = (s.page k).en ∧ (t.page k).drainMode = (s.page k).drainMode ∧ t.st k = s.st k ∧
      Kept [k] [] s t ∧ Quiet s t)) ∧
  (∀ (s : State) (who : Initiator) (k : Nat) (d : PKind) (v : Word), kindOf k = some d → s.answers k →
    Completes (.registerWrite who (0x40000000 + 0x1000 * k + 0x014) 4 v) s (fun t =>
      t.reply = .done who ∧ Kept [k] [] s t ∧ Quiet s t ∧ t.st k = s.st k ∧
      ((s.page k).lock = false → (t.page k).route = v &&& 0x00010F0F#32 ∧ (t.page k).clampCount = (s.page k).clampCount) ∧
      ((s.page k).lock = true → (t.page k).route = (s.page k).route ∧ (t.page k).clamped = true ∧ (t.page k).clampCause = 2#4 ∧
        (t.page k).clampOff = 0x014#12 ∧ (t.page k).clampCount.toNat = min 255 ((s.page k).clampCount.toNat + 1)))) ∧
  (∀ (s : State) (who : Initiator) (settle period : Nat), s.answers pkCst → (s.page pkCst).lock = false → settle < 256 → period < 65536 →
    Completes (.registerWrite who (0x40000000 + 0x1000 * pkCst + 0x088) 4 (BitVec.ofNat 32 (65536 * settle + period))) s (fun t =>
      t.reply = .done who ∧ t.fld pkCst CST_TD_TIME_SETTLE = max 8 settle ∧ t.fld pkCst CST_TD_TIME_PERIOD = max 100 (min 60000 period) ∧
      Kept [pkCst] [(pkCst, 0x088)] s t ∧ Quiet s t ∧
      ((settle < 8 ∨ period < 100 ∨ 60000 < period) → (t.page pkCst).clamped = true ∧ (t.page pkCst).clampCause = 0#4 ∧
        (t.page pkCst).clampOff = 0x088#12))) ∧
  (∀ (s : State) (who : Initiator) (a n : Nat) (v : Word), 0x40000000 ≤ a → a < 0x402A0000 → n ≠ 4 ∨ a % 4 ≠ 0 →
    Completes (.registerWrite who a n v) s (fun t => t.reply = .error who ∧ t.pages = s.pages ∧ Quiet s t))

/-- R65, R66: SWAP_REQ, SWAP_POINT, COPY and COPY_DONE. MS and BTH swap by their own rules (R461, R464, R502); an engine's swap stays in
progress while a run is bound to the old bank (R219). -/
def Obligations.Banks : Prop :=
  (∀ (s : State) (who : Initiator) (k : Nat) (d : PKind), kindOf k = some d → hasBanks d = true → d ≠ .ms → d ≠ .bth →
    (s.page k).lock = false →
    Completes (.swapReq who k) s (fun t =>
      (s.st k = .run → (s.page k).swapPending = false → (t.page k).swapPending = true ∧ (t.page k).activeB = (s.page k).activeB) ∧
      ((s.page k).swapPending = true → (t.page k).swapIgnored = true ∧ (t.page k).swapPending = true) ∧
      (s.st k = .off ∨ s.st k = .idle → (s.page k).swapPending = false → (s.page k).copyBusy = false →
        (t.page k).activeB = !(s.page k).activeB ∧ (t.page k).swapPending = false ∧
        (t.page k).swapCount = (s.page k).swapCount + 1#16 ∧ bitN (t.page k).irqFlags.toNat 3 = true))) ∧
  (∀ (s : State) (k : Nat), kindOf k ≠ some .ms → s.st k = .run → (s.page k).swapPending = true → (s.page k).copyBusy = false →
    Completes (.swapPoint k) s (fun t =>
      (t.page k).activeB = !(s.page k).activeB ∧ (t.page k).swapPending = false ∧
      (t.page k).swapCount = (s.page k).swapCount + 1#16 ∧ bitN (t.page k).irqFlags.toNat 3 = true)) ∧
  (∀ (s : State) (who : Initiator) (k : Nat) (d : PKind), kindOf k = some d → hasBanks d = true →
    (s.page k).lock = false → (d = .ce → s.bit k CE_STAT_OLDBANK_OPEN = false) →
    Completes (.copy who k) s (fun t =>
      ((s.page k).swapPending = false → (t.page k).copyBusy = true ∧ (t.page k).bankA = (s.page k).bankA ∧
        (t.page k).bankB = (s.page k).bankB) ∧
      ((s.page k).swapPending = true → (t.page k).copyBusy = (s.page k).copyBusy ∧ (t.page k).clampCause = 4#4) ∧
      Kept [k] [] s t ∧ Quiet s t)) ∧
  (∀ (s : State) (k off : Nat), s.st k = .run → (s.page k).copyBusy = true → isBanked k off = true →
    (∀ x ∈ (s.page k).held, x.1 ≠ off) →
    Completes (.copyDone k) s (fun t =>
      (t.page k).copyBusy = false ∧ (t.page k).held = [] ∧ t.reg k off = s.reg k off ∧ t.regInactive k off = s.reg k off))

/-- R42, R68, R69, R88, R93: RC_READ, LOW_WORD_READ, PAGE_WAKE and WAKE_TIMEOUT. -/
def Obligations.Reads : Prop :=
  (∀ (s : State) (who : Initiator) (k : Nat), k < 18 → s.answers (pkCs k) →
    Completes (.rcRead who (0x40000000 + 0x1000 * pkCs k + 0x060) 4) s (fun t =>
      t.reply = .data who (s.reg (pkCs k) 0x060) ∧ t.reg (pkCs k) 0x060 = 0#32 ∧ Kept [pkCs k] [(pkCs k, 0x060)] s t ∧ Quiet s t)) ∧
  (∀ (s : State) (who : Initiator), s.answers pkMs → s.latched who pkMs MS_TM_HI.off = none →
    s.latched who pkMs MS_TM_LO.off = none →
    Completes (.lowWordRead who (0x40000000 + 0x1000 * pkMs + MS_TM_LO.off) 4) s (fun t =>
      t.reply = .data who (BitVec.ofNat 32 (s.ma.tm / 2 ^ 32)) ∧ t.pages = s.pages ∧ Quiet s t ∧
      t.latched who pkMs MS_TM_HI.off = some (BitVec.ofNat 32 (s.ma.tm / 2 ^ 64)))) ∧
  (∀ (s : State) (who : Initiator) (w : Word), s.answers pkMs → s.latched who pkMs MS_TM_HI.off = some w →
    Completes (.rcRead who (0x40000000 + 0x1000 * pkMs + MS_TM_HI.off) 4) s (fun t =>
      t.reply = .data who w ∧ t.pages = s.pages ∧ Quiet s t ∧ t.latched who pkMs MS_TM_HI.off = none)) ∧
  (∀ (s : State) (who : Initiator) (k : Nat) (d : PKind), kindOf k = some d → s.answers k → s.latched who k 0 = none →
    Completes (.pageWake who (0x40000000 + 0x1000 * k) none) s (fun t =>
      t.reply = .data who (pageId k) ∧ t.pages = s.pages ∧ Quiet s t)) ∧
  (∀ (s : State) (who : Initiator) (k : Nat),
    Completes (.wakeTimeout who k) s (fun t =>
      t.reply = .error who ∧ t.bit pkSys SYS_KCB_STAT_WAKE_TIMEOUT = true ∧ Sends s t 0x00F 0x0E 1 ∧
      Kept [pkSys] [(pkSys, SYS_KCB_STAT.off)] s t ∧ Quiet s t))

/-- R9, R20, R24, R34: MEMORY_READ, QUAY_WORD and ENGINE_INPUT_WRITE. -/
def Obligations.MemoryAndQuay : Prop :=
  (∀ (s : State) (who : Initiator) (a : Nat), a % 4 = 0 → 0x10000000 ≤ a ∧ a < 0x11800000 ∨ 0x20000000 ≤ a ∧ a < 0x20800000 →
    Completes (.memoryRead (some who) a 4 .none) s (fun t =>
      t.reply = .data who (mget s.mem (a + 3) ++ mget s.mem (a + 2) ++ mget s.mem (a + 1) ++ mget s.mem a) ∧
      t.pages = s.pages ∧ Quiet s t) ∧
    Completes (.memoryRead (some who) a 4 .single) s (fun t =>
      t.reply = .data who (mget s.mem (a + 3) ++ mget s.mem (a + 2) ++ mget s.mem (a + 1) ++ mget s.mem a) ∧
      t.pages = s.pages ∧ Sends s t memSource 0x01 0 ∧ Quiet s t) ∧
    Completes (.memoryRead (some who) a 4 .double) s (fun t =>
      t.reply = .error who ∧ t.pages = s.pages ∧ Sends s t memSource 0x02 1 ∧ Quiet s t)) ∧
  (∀ (s : State) (cls : QuayClass) (unit : Nat) (w : BitVec 64),
    Completes (.quayWord cls unit w .none) s (fun t => tget 0#64 t.quay (quayKey cls unit) = w ∧ t.pages = s.pages ∧ Quiet s t) ∧
    Completes (.quayWord cls unit w .single) s (fun t =>
      tget 0#64 t.quay (quayKey cls unit) = w ∧ Sends s t (quaySource cls) 0x01 0 ∧ t.pages = s.pages ∧ Quiet s t) ∧
    Completes (.quayWord cls unit w .double) s (fun t =>
      t.quay = s.quay ∧ Sends s t (quaySource cls) 0x02 1 ∧ t.pages = s.pages ∧ Quiet s t)) ∧
  (∀ (s : State) (who : Initiator) (e slot : Nat) (v : Word), e < 6 → slot < 32 → s.st (pkCe e) ≠ .test →
    Completes (.engineInputWrite who e slot v) s (fun t =>
      t.reg (pkCe e) (0x140 + 4 * slot) = v ∧ t.ce = s.ce ∧ Kept [pkCe e] [(pkCe e, 0x140 + 4 * slot)] s t ∧ Quiet s t))

/-- R45, R572: the pages Dredge never tests do not enter TEST. -/
def Obligations.FixedPagesStayLive : Prop := ∀ s t : State, s.fixedLive → step s = .next t → t.fixedLive

/-- R73, R74, R143: the clock-loss commands and the relocks. -/
def Obligations.ClockLosses : Prop :=
  (∀ (s : State) (count : Nat), s.fixedLive → Completes (.xoLoss count) s (fun t =>
    t.fld pkPla PLA_XO_COUNT_N = count % 1024 ∧ t.fld pkPlb PLA_XO_COUNT_N = count % 1024 ∧
    t.bit pkPla PLA_PLL_STAT_REF_OK = false ∧ t.bit pkPlb PLA_PLL_STAT_REF_OK = false ∧
    t.bit pkSea SEAWALL_STAT_UNIT_SOFT = true ∧ t.bit pkSea SEAWALL_UCAUSE_XO = true ∧ t.bit pkSea SEAWALL_STAT_BOL_OUT = false ∧
    Sends s t 0x008 0x0E 3)) ∧
  (∀ s : State, Completes .pllALockLoss s (fun t =>
    t.bit pkPla PLA_PLL_STAT_LOCK = false ∧ t.bit pkPla PLA_PLL_STAT_BYPASS = true ∧ t.pw.pllALost = true ∧
    t.fld pkPla PLA_PLL_STAT_LOSS_COUNT = min 255 (s.fld pkPla PLA_PLL_STAT_LOSS_COUNT + 1) ∧ Sends s t 0x009 0x0E 3 ∧
    Kept [pkPla, pkHm] [(pkPla, PLA_PLL_STAT.off), (pkHm, HM_STAT.off)] s t ∧ Quiet s t)) ∧
  (∀ s : State, s.fixedLive → Completes .pllBLockLoss s (fun t =>
    t.bit pkPlb PLA_PLL_STAT_LOCK = false ∧ t.bit pkSea SEAWALL_STAT_UNIT_SOFT = true ∧ t.bit pkSea SEAWALL_UCAUSE_PLLB = true ∧
    t.fld pkPlb PLA_PLL_STAT_LOSS_COUNT = min 255 (s.fld pkPlb PLA_PLL_STAT_LOSS_COUNT + 1) ∧ Sends s t 0x00A 0x0E 3 ∧
    ∀ k, k < 18 → t.bit (pkCs k) CS_STAT_STALE = true ∧ (s.st (pkCs k) = .run → t.st (pkCs k) ≠ .run))) ∧
  (∀ s : State, Completes .pllBRelock s (fun t =>
    t.bit pkPlb PLA_PLL_STAT_LOCK = true ∧ Kept [pkPlb] [(pkPlb, PLA_PLL_STAT.off)] s t ∧ Quiet s t)) ∧
  (∀ s : State, Completes .delayLineLockLoss s (fun t =>
    t.pw.tapsForced = true ∧ t.bit pkPlb PLA_PLL_STAT_DL_LOCK = false ∧ Sends s t 0x00B 0x0E 1 ∧
    Kept [pkPlb] [(pkPlb, PLA_PLL_STAT.off)] s t ∧ Quiet s t)) ∧
  (∀ (s : State) (trim : BitVec 8), s.pw.tapsForced = true →
    Completes (.delayLineRelock true trim) s (fun t =>
      t.pw.tapsForced = false ∧ t.bit pkPlb PLA_PLL_STAT_DL_LOCK = true ∧ t.fld pkPlb PLA_DL_TRIM_CODE = trim.toNat ∧ Quiet s t) ∧
    Completes (.delayLineRelock false trim) s (fun t => t = s)) ∧
  (∀ (s : State) (dev : BitVec 16), s.pw.tide ≠ .slack → Completes (.aonDeviation dev) s (fun t =>
    t.fld pkAon AON_AON_CAL_DEV = dev.toNat ∧ Sends s t 0x00C 0x0E 1 ∧ Kept [pkAon] [(pkAon, AON_AON_CAL.off)] s t ∧ Quiet s t)) ∧
  (∀ s : State, Completes .crystalLoss s (fun t =>
    t.bit pkAon AON_AON_OSC_SRC = false ∧ t.bit pkAon AON_AON_OSC_XTAL_OK = false ∧
    t.fld pkAon AON_AON_OSC_XTAL_LOSS = min 255 (s.fld pkAon AON_AON_OSC_XTAL_LOSS + 1) ∧
    (s.pw.tide ≠ .slack → Sends s t 0x00D 0x0E 0) ∧ (s.pw.tide = .slack → t.pw.xtalLossNote = true ∧ t.wires = s.wires) ∧
    Kept [pkAon] [(pkAon, AON_AON_OSC.off)] s t ∧ Quiet s t)) ∧
  (∀ s : State, s.fixedLive → Completes .swrcDeviation s (fun t =>
    t.bit pkSea SEAWALL_STAT_HARD = true ∧ t.bit pkSea SEAWALL_STAT_SELFTEST_OK = false ∧
    (s.bit pkSea SEAWALL_STAT_HARD = false → t.fld pkSea SEAWALL_STAT_HCAUSE = 4 ∧ t.sea.aonHard = true)))

/-- R83-R87: HANDSHAKE_TRANSFER, STREAM_WORD, DOUBLE_SAMPLE and SLUICE_DISAGREEMENT. -/
def Obligations.Sluices : Prop :=
  (∀ (s : State) (n : Nat) (w : Word), Completes (.handshakeTransfer n w) s (fun t =>
    (t.sluice n).value = w ∧ (t.sluice n).delivered = (s.sluice n).delivered + 1 ∧ (t.sluice n).waiting = none ∧
    (∀ m, m ≠ n → t.sluice m = s.sluice m) ∧ t.pages = s.pages ∧ Quiet s t)) ∧
  (∀ (s : State) (n : Nat) (w : Word),
    Completes (.streamWord n w true) s (fun t =>
      (t.sluice n).value = (s.sluice n).value ∧ (t.sluice n).delivered = (s.sluice n).delivered ∧
      (t.sluice n).waiting = some ((s.sluice n).waiting.getD w) ∧ t.pages = s.pages ∧ Quiet s t) ∧
    Completes (.streamWord n w false) s (fun t =>
      (t.sluice n).value = w ∧ (t.sluice n).waiting = none ∧ (t.sluice n).stale = false ∧
      (t.sluice n).delivered = (s.sluice n).delivered + (if (s.sluice n).waiting.isSome then 2 else 1) ∧ t.pages = s.pages ∧ Quiet s t)) ∧
  (∀ (s : State) (n : Nat) (a b : Word), Completes (.doubleSample n a b) s (fun t =>
    t.pages = s.pages ∧ Quiet s t ∧
    (a = b → (t.sluice n).value = a ∧ (t.sluice n).disagree = 0 ∧ (t.sluice n).stale = false) ∧
    (a ≠ b → (t.sluice n).value = (s.sluice n).value ∧
      ((s.sluice n).disagree < 8 → (t.sluice n).disagree = (s.sluice n).disagree + 1)))) ∧
  (∀ (s : State) (n : Nat) (reader : Option Initiator), (s.sluice n).disagree = 8 →
    Completes (.sluiceDisagreement n reader) s (fun t =>
      (t.sluice n).stale = true ∧ (t.sluice n).value = (s.sluice n).value ∧ Sends s t (0x018 + n % 8) 0x0D 1 ∧
      (∀ who, reader = some who → t.reply = .error who) ∧ t.pages = s.pages ∧ Quiet s t))

/-- R76-R79, R92, R94-R96: wakes and tides. -/
def Obligations.WakesAndTides : Prop :=
  (∀ (s : State) (who : Initiator) (v : Word), (s.page pkAon).key = .idle →
    Completes (.srcChange who v true) s (fun t =>
      t.bit pkAon AON_AON_OSC_XTAL_OK = true ∧ t.bit pkAon AON_AON_OSC_SRC = bitN v.toNat 0 ∧
      Kept [pkAon] [(pkAon, AON_AON_OSC.off)] s t ∧ Quiet s t) ∧
    Completes (.srcChange who v false) s (fun t =>
      t.bit pkAon AON_AON_OSC_XTAL_OK = false ∧ t.bit pkAon AON_AON_OSC_SRC = false ∧ Quiet s t)) ∧
  (∀ (s : State) (n : Nat), n < 4 → bitN (s.fld pkAon AON_WAKE_CFG_WAKE_EN) n = true →
    Completes (.wake n) s (fun t =>
      bitN (t.fld pkAon AON_WAKE_SRC_WAKE) n = true ∧
      (s.pw.tide = .slack → t.pw.tide = .flood ∧ t.fld pkSys SYS_TIDE_STAT_WAKE_CAUSE = n + 1 ∧ t.pw.floodStart = s.cyc) ∧
      (s.pw.tide = .ebb → t.pw.tide = .ebb ∧ t.pw.wakePending = true) ∧ Quiet s t)) ∧
  (∀ (s : State) (n : Nat), n < 2 → s.bit pkAon AON_WAKE_CFG_CAN_EN = true →
    Completes (.canWake n) s (fun t =>
      t.bit pkAon AON_WAKE_SRC_CAN = true ∧
      (s.pw.tide = .slack → t.pw.tide = .flood ∧ t.fld pkSys SYS_TIDE_STAT_WAKE_CAUSE = 5) ∧ Quiet s t)) ∧
  (∀ (s : State) (n : Nat), n < 2 → s.bit pkAon AON_WAKE_CFG_MAULO_EN = true →
    Completes (.mauloWake n) s (fun t =>
      t.bit pkAon AON_WAKE_SRC_MAULO = true ∧
      (s.pw.tide = .slack → t.pw.tide = .flood ∧ t.fld pkSys SYS_TIDE_STAT_WAKE_CAUSE = 6) ∧ Quiet s t)) ∧
  (∀ s : State, s.pw.tide = .flood → s.pw.imageRun = true → s.pw.floodRunDone = true → s.pw.ebbHeld = false →
    (s.toDryDock = true → Completes .floodComplete s (fun t => t.pw.tide = .dryDock ∧ t.pw.drydockNext = false)) ∧
    (s.toDryDock = false → s.joined = true → Completes .floodComplete s (fun t => t.pw.tide = .high)) ∧
    (s.bit pkSea SEAWALL_STAT_SEAL_OK = false → s.toDryDock = true)) ∧
  (∀ s : State, s.pw.tide = .flood →
    Completes .floodTimeout s (fun t => Sends s t 0x001 0x05 3 ∧ t.pages = s.pages ∧ Quiet s t)) ∧
  (∀ s : State, s.pw.tide = .flood → s.fld pkHm HM_STAT_UNIT_REC < s.sea.mf.hmLimit →
    Completes .floodStepFailure s (fun t => UrCause.floodRestart ∈ t.pw.urReq ∧ t.pages = s.pages ∧ Quiet s t)) ∧
  (∀ (s : State) (who : Initiator), (s.page pkSys).key = .opened who →
    (s.pw.tide = .high ∨ s.pw.tide = .dryDock →
      Completes (.ebb who) s (fun t => t.pw.tide = .ebb ∧ t.bit pkSea SEAWALL_STAT_BOL_OUT = false ∧ (t.page pkSys).key = .idle)) ∧
    (s.pw.tide = .flood → Completes (.ebb who) s (fun t => t.pw.tide = .flood ∧ t.pw.ebbHeld = true)) ∧
    Completes (.drydockNext who) s (fun t => t.pw.drydockNext = true ∧ t.pw.tide = s.pw.tide)) ∧
  (∀ (s : State) (asserted : Bool), s.pw.tide = .ebb →
    Completes (.ebbSavesComplete asserted) s (fun t =>
      (s.pw.wakePending = false → asserted = false → t.pw.tide = .slack ∧ t.pw.kdUp = false) ∧
      (s.pw.wakePending = true ∨ asserted = true → UrCause.ebbWake ∈ t.pw.urReq)))

/-- R99, R103, R104, R107, R109, R125, R126: the supply commands. -/
def Obligations.Supplies : Prop :=
  (∀ s : State, Completes .vsupPor s (fun t => t.pw.vsupLow = true ∧ t.pw.kdUp = false ∧ t.pending = s.pending ∧ t.cyc = s.cyc)) ∧
  (∀ s : State, s.pw.vsupLow = true → Completes .vsupPorRelease s (fun t =>
    t.pw.vsupLow = false ∧ t.pw.vsw = .starting ∧ t.bit pkSup SUP_RST_CAUSE_POR_VSUP = true ∧ Quiet s t)) ∧
  (∀ s : State, s.pw.vsupLow = false → Completes .vsupStart s (fun t =>
    t.pw.vsupStart = true ∧ (s.pw.vsw = .good → s.pw.vpre = .off → t.pw.vpre = .starting) ∧ Quiet s t)) ∧
  (∀ s : State, Completes .vsupUv s (fun t =>
    t.bit pkSup SUP_SUP_STAT_VSUP_UV = true ∧ bitN (t.fld pkSup SUP_SUP_EVT_EV) 0 = true ∧
    t.fld pkSup SUP_BO_COUNT_UV = min 255 (s.fld pkSup SUP_BO_COUNT_UV + 1) ∧ Sends s t 0x000 0x07 0 ∧
    Kept [pkSup] [(pkSup, SUP_SUP_STAT.off), (pkSup, SUP_SUP_EVT.off), (pkSup, SUP_BO_COUNT.off)] s t ∧ Quiet s t)) ∧
  (∀ s : State, Completes .vsupOv s (fun t =>
    t.bit pkSup SUP_SUP_STAT_VSUP_OV = true ∧ bitN (t.fld pkSup SUP_SUP_EVT_EV) 1 = true ∧
    t.fld pkSup SUP_BO_COUNT_OV = min 255 (s.fld pkSup SUP_BO_COUNT_OV + 1) ∧ Sends s t 0x000 0x06 1 ∧
    Kept [pkSup] [(pkSup, SUP_SUP_STAT.off), (pkSup, SUP_SUP_EVT.off), (pkSup, SUP_BO_COUNT.off)] s t ∧ Quiet s t)) ∧
  (∀ s : State, s.fixedLive → Completes .vpreWarn s (fun t =>
    t.dr.warnHold = true ∧ t.bit pkSup SUP_SUP_STAT_VPRE_WARN = true ∧ Sends s t 0x002 0x07 1)) ∧
  (∀ s : State, Completes .vpreWarnRelease s (fun t =>
    t.dr.warnHold = false ∧ t.bit pkSup SUP_SUP_STAT_VPRE_WARN = false ∧
    Kept [pkSup] [(pkSup, SUP_SUP_STAT.off)] s t ∧ Quiet s t)) ∧
  (∀ s : State, s.fixedLive → Completes .vpreBo s (fun t =>
    t.pw.brownOut = true ∧ t.bit pkSup SUP_SUP_STAT_VPRE_BO = true ∧ t.bit pkSea SEAWALL_STAT_UNIT_SOFT = true ∧
    t.bit pkSea SEAWALL_UCAUSE_VPRE_BO = true ∧ t.bit pkSea SEAWALL_STAT_BOL_OUT = false ∧
    t.fld pkSup SUP_BO_COUNT_BO = min 255 (s.fld pkSup SUP_BO_COUNT_BO + 1) ∧ Sends s t 0x002 0x07 3)) ∧
  (∀ s : State, s.pw.brownOut = true → Completes .vpreBoRelease s (fun t =>
    t.pw.brownOut = false ∧ t.bit pkSup SUP_SUP_STAT_VPRE_BO = false ∧
    (s.pw.tide ≠ .ebb → UrCause.brownOut ∈ t.pw.urReq) ∧ (s.pw.tide = .ebb → t.pw.urReq = s.pw.urReq) ∧ Quiet s t)) ∧
  (∀ s : State, s.fixedLive → Completes .vgdMonitor s (fun t =>
    t.bit pkSup SUP_SUP_STAT_VGD_FAIL = true ∧ t.bit pkSea SEAWALL_STAT_UNIT_SOFT = true ∧
    t.bit pkSea SEAWALL_STAT_BOL_OUT = false ∧ Sends s t 0x006 0x07 3)) ∧
  (∀ (s : State) (rail : Rail), railResets rail = true → Completes (.railLoss rail) s (fun t =>
    t.pw.tide = .flood ∧ t.pw.kdUp = false ∧ t.bit pkSup SUP_RST_CAUSE_POR_RAIL = true ∧
    t.fld pkSup SUP_RST_CAUSE_LAST_RAIL = railSource rail ∧ t.pending = s.pending ∧ t.cyc = s.cyc)) ∧
  (∀ s : State,
    (s.pw.vsw = .starting → s.pw.vsupStart = true → s.pw.vpre = .off →
      Completes (.railInLimits .vsw) s (fun t => t.pw.vsw = .good ∧ t.pw.vpre = .starting ∧ t.bit pkSup SUP_SUP_STAT_VSW_OK = true)) ∧
    (s.pw.vpre = .starting → Completes (.railInLimits .vpre) s (fun t => t.pw.vpre = .good ∧ t.pw.vio33 = .starting)) ∧
    (s.pw.vio33 = .starting → Completes (.railInLimits .vio33) s (fun t =>
      t.pw.vio33 = .good ∧ t.pw.vio18 = .starting ∧ t.bit pkSup SUP_SUP_STAT_VIO33_OK = true)) ∧
    (s.pw.vio18 = .starting → Completes (.railInLimits .vio18) s (fun t =>
      t.pw.vio18 = .good ∧ t.pw.vcore = .starting ∧ t.bit pkSup SUP_SUP_STAT_VIO18_OK = true)) ∧
    (s.pw.vcore = .starting → Completes (.railInLimits .vcore) s (fun t =>
      t.pw.vcore = .good ∧ t.bit pkSup SUP_SUP_STAT_VCORE_OK = true)) ∧
    (s.pw.vgd = .starting → Completes (.railInLimits .vgd) s (fun t =>
      t.pw.vgd = .good ∧ t.bit pkSup SUP_SUP_STAT_VGD_FAIL = false))) ∧
  (∀ (s : State) (rail : Rail), s.railStarting rail = true →
    Completes (.railStartTimeout rail) s (fun t => Sends s t (railSource rail) 0x07 3))

/-- R56, R91, R107, R109-R113, R116, R117, R123, R574: resets and start-up. -/
def Obligations.ResetsAndBoot : Prop :=
  (∀ (s : State) (c : UrCause), s.urDue c = true → Completes (.ur c) s (fun t =>
    t.pw.tide = .flood ∧ t.pw.kdUp = false ∧ t.pw.rstoutLow = true ∧ t.pw.urReq = [] ∧ t.pw.floodStart = s.cyc ∧
    t.bit pkSea SEAWALL_STAT_BOL_OUT = false ∧ t.fld pkSys SYS_TIDE_STAT_WAKE_CAUSE = urWakeCause c ∧ t.ma.tm = s.ma.tm ∧
    (∀ a, 0x10000000 ≤ a → a < 0x11800000 → mget t.mem a = mget s.mem a) ∧ t.pending = s.pending ∧ t.cyc = s.cyc)) ∧
  (∀ (s : State) (src : Nat), Completes (.por (.rail src)) s (fun t =>
    t.pw.tide = .flood ∧ t.pw.kdUp = false ∧ t.pw.rstoutLow = true ∧ t.fld pkHm HM_STAT_UNIT_REC = 0 ∧
    t.page pkAon = (s.setBit pkAon AON_WAKE_SRC_POR true).page pkAon ∧
    (∀ a, 0x10000000 ≤ a → a < 0x11800000 → mget t.mem a = mget s.mem a) ∧ t.pending = s.pending ∧ t.cyc = s.cyc)) ∧
  (∀ s : State, s.pw.tide ≠ .slack → s.pw.tide ≠ .ebb → s.pw.vsupLow = false → Completes .extRstN s (fun t =>
    t.pw.extLow = true ∧ UrCause.external ∈ t.pw.urReq ∧ t.pages = s.pages ∧ Quiet s t)) ∧
  (∀ s : State, Completes .extRstNRise s (fun t => t = { s with pw := { s.pw with extLow := false } })) ∧
  (∀ (s : State) (b : BitVec 2), s.pw.tide = .flood → s.kdRails = true → s.pw.kdUp = false → s.pw.extLow = false →
    Completes (.kdResetRelease b) s (fun t =>
      t.pw.kdUp = true ∧ t.pw.rstoutLow = false ∧ t.pw.bootSel = (if b = 3#2 then 0#2 else b) ∧
      t.bit pkPla PLA_PLL_STAT_LOCK = true ∧ t.bit pkPlb PLA_PLL_STAT_LOCK = true ∧ t.sea.wdRun = true ∧ Quiet s t)) ∧
  (∀ (s : State) (b : Nat) (rest : List Nat), s.fixedLive → s.pw.kdUp = true → s.pw.tide = .flood → s.boot.runBank = none → s.pw.noImage = false →
    s.boot.toTry = b :: rest → b < 2 → Completes .imageVerify s (fun t =>
      (s.imageValid b = true →
        t.boot.runBank = some b ∧ t.fld pkSec SEC_BOOT_STAT_BANK = b ∧ t.bit pkSec SEC_BOOT_STAT_FALLBACK = rest.isEmpty) ∧
      (s.imageValid b = false → t.boot.runBank = none ∧
        t.bit pkSec (if b = 0 then SEC_BOOT_STAT_FAIL_A else SEC_BOOT_STAT_FAIL_B) = true ∧ Sends s t 0x1FC 0x10 1 ∧
        (rest ≠ [] → t.boot.toTry = rest ∧ t.pw.noImage = false) ∧
        (rest = [] → t.pw.tide = .dryDock ∧ t.pw.noImage = true ∧ t.bit pkSec SEC_BOOT_STAT_NO_IMAGE = true ∧ Sends s t 0x1FC 0x10 3)))) ∧
  (∀ (s : State) (b : Nat), s.boot.runBank = some b → s.pw.tide = .flood → s.dr.marchDone = true → s.pw.imageRun = false →
    s.pw.noImage = false → s.pw.vgd = .off → Completes (.bootImageLoad []) s (fun t =>
      t.pw.imageRun = true ∧ t.pw.vgd = .starting ∧ (t.page (pkAc 0)).en = true)) ∧
  (∀ (s : State) (us : Nat), s.dr.phase = .floodRun → Completes (.floodRunDone us) s (fun t =>
    t.fld pkDr DR_FLOOD_US_N = min us 65535 ∧ t.pw.floodRunDone = true ∧ bitN (t.page pkDr).irqFlags.toNat 8 = true))

/-- R116, R118, R119, R121, R122, R129-R131: BANK_CTRL and the update port. -/
def Obligations.BootRecordsAndUpdate : Prop :=
  (∀ (s : State) (who : Initiator), (s.page pkSec).key = .opened who → s.memOk → s.recState < 8 →
    Completes (.tryOther who) s (fun t => t.recState = s.recState % 2 + 2 + 4 * (s.recState / 4 % 2) ∧ t.memOk)) ∧
  (∀ (s : State) (who : Initiator) (b : Nat), (s.page pkSec).key = .opened who → s.memOk → s.boot.runBank = some b → b < 2 →
    s.bit pkSec SEC_BOOT_STAT_TRIAL = true → s.recState < 8 →
    Completes (.confirm who) s (fun t =>
      t.recState = b + 2 * (s.recState / 2 % 2) ∧ t.bit pkSec SEC_BOOT_STAT_TRIAL = false ∧
      t.fld pkSec SEC_ROLLBACK_COUNT = max (s.fld pkSec SEC_ROLLBACK_COUNT) (s.imgWord b 0x010 % 64))) ∧
  (∀ (s : State) (who : Initiator), (s.page pkSec).key = .opened who → s.boot.portOpen = false → s.boot.verifying = false →
    Completes (.updateOpen who 1#32) s (fun t =>
      t.boot.portOpen = true ∧ t.boot.portTarget = false ∧ t.boot.nonce = s.boot.nonceIn ∧ t.boot.portWord = 0 ∧
      t.reg pkSec SEC_UPD_STAT.off = 1#32 ∧ Quiet s t)) ∧
  (∀ (s : State) (who : Initiator) (w : Word), (s.page pkSec).key = .idle → s.memOk → s.boot.portOpen = true →
    (s.boot.portWord < regionWords s.boot.portTarget → Completes (.updData who w) s (fun t =>
      t.boot.portWord = s.boot.portWord + 1 ∧
      t.m32 (bankBase s.inactiveBank + regionBase s.boot.portTarget + 4 * s.boot.portWord) =
        w ^^^ Config.updKey s.boot.nonce (s.boot.portWord / 4) (s.boot.portWord % 4) ∧
      ∀ a, a < bankBase s.inactiveBank + regionBase s.boot.portTarget + 4 * s.boot.portWord ∨
        bankBase s.inactiveBank + regionBase s.boot.portTarget + 4 * s.boot.portWord + 4 ≤ a → mget t.mem a = mget s.mem a)) ∧
    (regionWords s.boot.portTarget ≤ s.boot.portWord → Completes (.updData who w) s (fun t =>
      t.bit pkSec SEC_UPD_STAT_OVERRUN = true ∧ t.boot.overrun = true ∧ Quiet s t))) ∧
  (∀ (s : State) (who : Initiator), (s.page pkSec).key = .opened who → s.boot.portOpen = true →
    Completes (.closeVerify who) s (fun t =>
      t.boot.portOpen = false ∧ t.boot.verifying = true ∧ t.bit pkSec SEC_UPD_STAT_OPEN = false ∧
      t.bit pkSec SEC_UPD_STAT_BUSY = true ∧ Quiet s t)) ∧
  (∀ s : State, s.boot.verifying = true → Completes .verifyDone s (fun t =>
    t.boot.verifying = false ∧ t.bit pkSec SEC_UPD_STAT_BUSY = false ∧
    (s.imageValid s.inactiveBank = true → s.boot.overrun = false → t.bit pkSec SEC_UPD_STAT_VERIFY_OK = true) ∧
    (s.imageValid s.inactiveBank = false ∨ s.boot.overrun = true → t.bit pkSec SEC_UPD_STAT_VERIFY_FAIL = true)))

/-- R133, R137, R139-R142, R158, R162: FAST_SAMPLE, PRECISE_SAMPLE, CM_FAULT, COMMON_MODE_RETURN, CM_FAULT_LASTING, GAIN_WRITE. -/
def Obligations.CurrentSamples : Prop :=
  (∀ (s : State) (raw : List Word) (k : Nat), k < 18 → s.td.relieved ≠ some k → s.converts k = true → (s.chan k).fillF ≤ 1 →
    Completes (.fastSample raw) s (fun t =>
      t.reg (pkCs k) CS_FAST.off = sampleWord 16 (s.fastOf k (raw.getD k 0#32)).1
        ((s.fastOf k (raw.getD k 0#32)).2 || s.bit (pkCs k) CS_STAT_CM_FAULT) false false ∧ Quiet s t)) ∧
  (∀ (s : State) (k : Nat) (raw : Word),
    let x := rneDivI ((sgn 16 raw.toNat - rneDivI (sgn 24 (s.reg (pkCs k) CS_OFFSET.off).toNat) 256) * s.fld (pkCs k) CS_GAIN_V) (2 ^ 22)
    s.bit (pkCs k) CS_CFG_INVERT = false → (s.fastOf k raw).1 = max (-32768) (min x 32767)) ∧
  (∀ (s : State) (raw : List Word) (k : Nat), k < 18 → s.td.relieved ≠ some k → s.pllB = true → s.busy (pkCs k) = true →
    (s.chan k).fillP ≤ 1 →
    Completes (.preciseSample raw) s (fun t =>
      t.reg (pkCs k) CS_PRECISE.off = sampleWord 24 (s.preciseOf k (raw.getD k 0#32)).1
        ((s.preciseOf k (raw.getD k 0#32)).2 || s.bit (pkCs k) CS_STAT_CM_FAULT) false false ∧
      t.reg (pkCs k) CS_AMPS.off = amperes (s.preciseOf k (raw.getD k 0#32)).1 (s.reg (pkCs k) CS_SCALE.off) ∧
      t.bit (pkCs k) CS_STAT_STALE = false ∧ Quiet s t)) ∧
  (∀ (s : State) (k : Nat), k < 18 →
    Completes (.cmFault k) s (fun t => t.bit (pkCs k) CS_STAT_CM_FAULT = true ∧ bitN (t.page (pkCs k)).irqFlags.toNat 13 = true ∧
      Kept [pkCs k] [(pkCs k, CS_STAT.off)] s t ∧ Quiet s t) ∧
    Completes (.commonModeReturn k) s (fun t => t.bit (pkCs k) CS_STAT_CM_FAULT = false ∧
      Kept [pkCs k] [(pkCs k, CS_STAT.off)] s t ∧ Quiet s t) ∧
    (s.bit (pkCs k) CS_STAT_CM_FAULT = true → Completes (.cmFaultLasting k) s (fun t =>
      Sends s t (0x020 + k) 0x06 1 ∧ t.pages = s.pages ∧ Quiet s t))) ∧
  (∀ (s : State) (who : Initiator) (k g : Nat), k < 18 → g < 4 → s.st (pkCs k) = .off ∨ s.st (pkCs k) = .idle →
    (s.page (pkCs k)).lock = false → g ≠ (s.chan k).coefGain →
    Completes (.gainWrite who k (BitVec.ofNat 32 g)) s (fun t =>
      t.fld (pkCs k) CS_CFG_GAIN = g ∧ t.reg (pkCs k) CS_OFFSET.off = (Config.trimOffset k g).signExtend 32 ∧
      t.reg (pkCs k) CS_GAIN.off = (Config.trimGain k g).setWidth 32 ∧ (t.chan k).coefGain = g ∧ (t.chan k).calAt = none ∧
      t.calAge k = 65535 ∧ Quiet s t))

/-- R145: TENDER_REQUEST, TENDER_WITHDRAW and writes of TD.REQ on a CST page that is not in TEST, and the service of the request. -/
def Obligations.TenderRequests : Prop :=
  let taken (s : State) (k : Nat) (t : State) : Prop :=
    (s.td.req = none → t.td = { s.td with req := some k } ∧ t.bit pkCst CST_TD_STAT_REQ_PENDING = true ∧
      t.bit pkCst CST_TD_STAT_REQ_IGNORED = s.bit pkCst CST_TD_STAT_REQ_IGNORED) ∧
    (s.td.req ≠ none → t.td = s.td ∧ t.bit pkCst CST_TD_STAT_REQ_IGNORED = true ∧
      t.bit pkCst CST_TD_STAT_REQ_PENDING = s.bit pkCst CST_TD_STAT_REQ_PENDING) ∧
    Kept [pkCst] [(pkCst, CST_TD_STAT.off)] s t ∧ Quiet s t
  let gone (s t : State) : Prop :=
    t.td = { s.td with req := none } ∧ t.bit pkCst CST_TD_STAT_REQ_PENDING = false ∧
      t.bit pkCst CST_TD_STAT_REQ_IGNORED = s.bit pkCst CST_TD_STAT_REQ_IGNORED ∧
      Kept [pkCst] [(pkCst, CST_TD_STAT.off)] s t ∧ Quiet s t
  (∀ (s : State) (who : Initiator) (k : Nat), k < 18 →
    (s.st pkCst ≠ .test → Completes (.tenderRequest who k) s (taken s k)) ∧
    (s.answers pkCst → Completes (.registerWrite who (0x40000000 + 0x1000 * pkCst + 0x084) 4 (BitVec.ofNat 32 (256 + k))) s (fun t =>
      t.reply = .done who ∧ taken s k t))) ∧
  (∀ (s : State) (who : Initiator),
    (s.st pkCst ≠ .test → Completes (.tenderWithdraw who) s (gone s)) ∧
    (∀ ch, ch < 32 → s.answers pkCst →
      Completes (.registerWrite who (0x40000000 + 0x1000 * pkCst + 0x084) 4 (BitVec.ofNat 32 ch)) s (fun t =>
        t.reply = .done who ∧ gone s t))) ∧
  (∀ (s : State) (k : Nat), s.tdPhase = tdIdle → s.st pkCst = .run → s.td.req = some k → k < 18 → s.st (pkCs k) = .run →
    Completes .serviceStart s (fun t => t.td.req = none ∧ t.bit pkCst CST_TD_STAT_REQ_PENDING = false ∧
      (t.tdPhase = tdConnect ∧ t.tdCh = k ∨ t.tdPhase = tdSelfcal ∧ t.td.next = some k)))

/-- R144, R146, R148, R149, R152, R154: the Tender's phases. -/
def Obligations.TenderService : Prop :=
  (∀ s : State, Completes .tenderPeriod s (fun t => t = { s with td := { s.td with due := true } })) ∧
  (∀ (s : State) (k : Nat), s.tdPhase = tdIdle → s.st pkCst = .run → s.td.req = some k → k < 18 → s.st (pkCs k) = .run →
    Completes .serviceStart s (fun t =>
      t.td.req = none ∧ t.td.due = false ∧ t.bit pkCst CST_TD_STAT_REQ_PENDING = false ∧ t.td.rot = s.td.rot ∧
      (s.td.selfGain = some (s.fld (pkCs k) CS_CFG_GAIN) → t.tdPhase = tdConnect ∧ t.tdCh = k) ∧
      (s.td.selfGain ≠ some (s.fld (pkCs k) CS_CFG_GAIN) → t.tdPhase = tdSelfcal ∧ t.tdCh = 31 ∧ t.td.next = some k) ∧ Quiet s t)) ∧
  (∀ s : State, s.tdPhase = tdConnect → Completes .settleEnd s (fun t =>
    t.tdPhase = tdAgree ∧ t.tdCh = s.tdCh ∧ Kept [pkCst] [(pkCst, CST_TD_STAT.off)] s t ∧ Quiet s t)) ∧
  (∀ s : State, s.tdCh < 18 → 64 ≤ s.td.run →
    (s.tdPhase = tdAgree → Completes .tenderSwap s (fun t =>
      t.tdPhase = tdRelief ∧ t.tdCh = s.tdCh ∧ t.td.relieved = some s.tdCh ∧ t.bit (pkCs s.tdCh) CS_STAT_RELIEVED = true ∧
      t.bit (pkCs s.tdCh) CS_STAT_CALIBRATING = true ∧ bitN (t.page (pkCs s.tdCh)).irqFlags.toNat 12 = true ∧ Quiet s t)) ∧
    (s.tdPhase = tdVerify → s.td.relieved = some s.tdCh → Completes .tenderSwap s (fun t =>
      t.tdPhase = tdSelfcal ∧ t.td.relieved = none ∧ t.bit (pkCs s.tdCh) CS_STAT_RELIEVED = false ∧
      t.fld pkCst CST_TD_CNT_SWAPS = (s.fld pkCst CST_TD_CNT_SWAPS + 1) % 65536 ∧ Quiet s t))) ∧
  (∀ (s : State) (sum : Int) (clipped : Bool), s.tdPhase = tdRelief → s.tdCh < 18 → s.st (pkCs s.tdCh) = .run →
    (s.td.point = 1 → Completes (.calibrationPointDone sum clipped) s (fun t =>
      t = { s with td := { s.td with point := 2, sum1 := sum, calClip := clipped } })) ∧
    (s.td.point = 2 → clipped = true → (s.chan s.tdCh).refused < 2 → (s.dr.queue ++ s.dr.held).any (fun x => x.page == pkCs s.tdCh) = false →
      Completes (.calibrationPointDone sum clipped) s (fun t =>
        t.tdPhase = tdVerify ∧ t.reg (pkCs s.tdCh) CS_OFFSET.off = s.reg (pkCs s.tdCh) CS_OFFSET.off ∧
        t.reg (pkCs s.tdCh) CS_GAIN.off = s.reg (pkCs s.tdCh) CS_GAIN.off ∧ Sends s t (0x020 + s.tdCh) 0x06 0 ∧
        t.fld (pkCs s.tdCh) CS_CNT_REJECT = min 255 (s.fld (pkCs s.tdCh) CS_CNT_REJECT + 1)))) ∧
  (∀ (s : State) (sum1 sum2 refb : Int), s.tdPhase = tdSelfcal → s.td.next = none →
    Completes (.selfcalEnd sum1 sum2 refb) s (fun t => t.tdPhase = tdIdle ∧ t.tdCh = 31 ∧ t.td.selfGain = some s.td.calGain ∧ Quiet s t)) ∧
  (∀ (s : State) (k : Nat), k < 18 → s.st (pkCs k) = .fault → s.bit pkCst CST_TD_CTRL_EMERG_EN = true → s.st pkCst = .run →
    s.tdPhase = tdIdle ∨ s.tdPhase = tdSelfcal →
    Completes (.emergencyRelief k) s (fun t =>
      t.tdPhase = tdHold ∧ t.tdCh = k ∧ t.td.relieved = some k ∧ t.bit pkCst CST_TD_STAT_EMERG = true ∧
      t.bit (pkCs k) CS_STAT_RELIEVED = true ∧ t.bit (pkCs k) CS_STAT_STALE = true ∧ Quiet s t)) ∧
  (∀ s : State, s.tdPhase = tdHold → s.tdCh < 18 → s.st (pkCs s.tdCh) = .idle ∨ s.st (pkCs s.tdCh) = .run →
    (s.td.calDone = true → Completes .holdRelease s (fun t => t.tdPhase = tdVerify ∧ t.tdCh = s.tdCh ∧ Quiet s t)) ∧
    (s.td.calDone = false → Completes .holdRelease s (fun t =>
      t.tdPhase = tdRelief ∧ t.td.point = 1 ∧ t.bit (pkCs s.tdCh) CS_STAT_CALIBRATING = true ∧ Quiet s t)))

/-- R169, R172, R173, R175, R178, R179: GLITCH, ACCEPTED_EDGE, STANDSTILL, COUNT_WINDOW. That A leads B in the positive sense is the
model's choice (log entry 25). -/
def Obligations.SoundingEdges : Prop :=
  (∀ (s : State) (k : Nat), k < 12 → s.scAlive k = true →
    Completes (.glitch k) s (fun t =>
      t.fld (pkSc k) SC_ERRCNT_GLITCH = min 255 (s.fld (pkSc k) SC_ERRCNT_GLITCH + 1) ∧ t.sc = s.sc ∧
      Kept [pkSc k] [(pkSc k, SC_ERRCNT.off)] s t ∧ Quiet s t)) ∧
  (∀ (s : State) (k : Nat) (a b z : Bool) (ts : Word), k < 12 → s.scAlive k = true → (s.snd k).stopped = false → s.scMode k = 0 →
    Completes (.acceptedEdge k a b z ts) s (fun t =>
      let x := s.snd k
      let y := t.snd k
      let q := (quadIndex a b + 4 - quadIndex x.a x.b) % 4
      (y.a = a ∧ y.b = b ∧ y.z = z) ∧
      (q = 0 → t = s.setSnd k { x with a := a, b := b, z := z }) ∧
      (q = 1 → s.scInv k = false → y.pos = x.pos + 1 ∧ y.valid = x.valid ∧ y.edgeTs = ts ∧ y.dirNeg = false ∧ y.still = false ∧
        t.pages = s.pages ∧ (x.angle + 1 < s.cpr k → y.angle = x.angle + 1 ∧ y.rev = x.rev) ∧
        (x.angle + 1 = s.cpr k → y.angle = 0 ∧ y.rev = x.rev + 1)) ∧
      (q = 3 → s.scInv k = false → y.pos = x.pos - 1 ∧ y.valid = x.valid ∧ y.edgeTs = ts ∧ y.dirNeg = true ∧ y.still = false ∧
        t.pages = s.pages ∧ (0 < x.angle → y.angle = x.angle - 1 ∧ y.rev = x.rev) ∧
        (x.angle = 0 → y.angle = s.cpr k - 1 ∧ y.rev = x.rev - 1)) ∧
      (q = 2 → y.pos = x.pos ∧ y.angle = x.angle ∧ y.rev = x.rev ∧ y.valid = false ∧ y.discard = true ∧
        t.fld (pkSc k) SC_ERRCNT_DERR = min 65535 (s.fld (pkSc k) SC_ERRCNT_DERR + 1) ∧
        bitN (t.page (pkSc k)).irqFlags.toNat 9 = true ∧ Sends s t (0x060 + k) 0x06 0) ∧
      (∀ j, j ≠ k → t.snd j = s.snd j) ∧ Kept [pkSc k] [(pkSc k, SC_ERRCNT.off)] s t ∧ Quiet s t)) ∧
  (∀ (s : State) (k : Nat) (ts : Word), k < 12 → s.scAlive k = true → (s.snd k).stopped = false → s.scMode k = 1 → (s.snd k).z = false →
    s.zGate k (s.snd k).a (s.snd k).b = true → s.fld (pkSc k) SC_ZCFG_Z_OFS < s.cpr k →
    ((s.snd k).valid = false → s.fld (pkSc k) SC_ZCFG_ZMODE = 1 ∨ s.fld (pkSc k) SC_ZCFG_ZMODE = 2 →
      Completes (.acceptedEdge k (s.snd k).a (s.snd k).b true ts) s (fun t =>
        (t.snd k).angle = s.fld (pkSc k) SC_ZCFG_Z_OFS ∧ (t.snd k).rev = (s.snd k).rev ∧ (t.snd k).valid = true ∧
        (t.snd k).pos = (s.snd k).pos + BitVec.ofInt 32 (shorter (s.cpr k) (s.snd k).angle (s.fld (pkSc k) SC_ZCFG_Z_OFS)) ∧
        t.pages = s.pages ∧ Quiet s t)) ∧
    ((s.snd k).valid = true → s.fld (pkSc k) SC_ZCFG_ZMODE = 2 →
      s.fld (pkSc k) SC_ZCFG_ZTOL < (shorter (s.cpr k) (s.snd k).angle (s.fld (pkSc k) SC_ZCFG_Z_OFS)).natAbs →
      Completes (.acceptedEdge k (s.snd k).a (s.snd k).b true ts) s (fun t =>
        (t.snd k).angle = (s.snd k).angle ∧ (t.snd k).pos = (s.snd k).pos ∧ (t.snd k).valid = true ∧
        t.fld (pkSc k) SC_ERRCNT_ZERR = min 255 (s.fld (pkSc k) SC_ERRCNT_ZERR + 1) ∧ Sends s t (0x060 + k) 0x06 1 ∧
        Kept [pkSc k] [(pkSc k, SC_ERRCNT.off)] s t ∧ Quiet s t))) ∧
  (∀ (s : State) (k : Nat), k < 12 → s.scAlive k = true → s.scMode k ≤ 2 → (s.snd k).still = false →
    Completes (.standstill k) s (fun t =>
      (t.snd k).still = true ∧ (t.snd k).hist = [] ∧ (t.snd k).wc = 0 ∧ (t.snd k).pos = (s.snd k).pos ∧
      bitN (t.page (pkSc k)).irqFlags.toNat 12 = true ∧ Kept [pkSc k] [] s t ∧ Quiet s t)) ∧
  (∀ (s : State) (k : Nat) (p : Word), k < 12 → s.st (pkSc k) = .run → (s.snd k).winPos = some p → (s.snd k).still = false →
    Completes (.countWindow k) s (fun t =>
      (t.snd k).wc = (fdiv f32 (fofInt f32 ((s.snd k).pos - p).toInt).1
        (fofRat f32 (s.fld (pkSc k) SC_SPDCFG_TWIN * 20) 1000000).1).1 ∧
      (t.snd k).winPos = some (s.snd k).pos ∧ t.pages = s.pages ∧ Quiet s t))

/-- R176, R182, R185-R188, R191-R193, R199: the absolute modes, SX and the AON counters of SC10 and SC11. -/
def Obligations.SoundingAbsolute : Prop :=
  (∀ (s : State) (k value : Nat) (ts : Word), k < 12 → s.scAlive k = true → 3 ≤ s.scMode k → (s.snd k).stopped = false →
    s.scInv k = false → value < s.cpr k →
    Completes (.absoluteSample k value ts) s (fun t =>
      ((s.snd k).first = true → (t.snd k).angle = value ∧ (t.snd k).valid = true ∧ (t.snd k).first = false ∧ (t.snd k).edgeTs = ts) ∧
      ((s.snd k).first = false → 4 * (shorter (s.cpr k) (s.snd k).angle value).natAbs < s.cpr k →
        (t.snd k).pos = (s.snd k).pos + BitVec.ofInt 32 (shorter (s.cpr k) (s.snd k).angle value) ∧
        (t.snd k).valid = (s.snd k).valid ∧ (t.snd k).edgeTs = ts ∧ (t.snd k).jumps = 0) ∧
      ((s.snd k).first = false → s.cpr k ≤ 4 * (shorter (s.cpr k) (s.snd k).angle value).natAbs → (s.snd k).jumps < 3 →
        (t.snd k).pos = (s.snd k).pos ∧ (t.snd k).angle = (s.snd k).angle ∧ (t.snd k).jumps = (s.snd k).jumps + 1 ∧
        t.fld (pkSc k) SC_ERRCNT_DERR = min 65535 (s.fld (pkSc k) SC_ERRCNT_DERR + 1) ∧ Sends s t (0x060 + k) 0x06 1) ∧
      Kept [pkSc k] [(pkSc k, SC_ERRCNT.off)] s t ∧ Quiet s t)) ∧
  (∀ (s : State) (k : Nat), k < 12 → s.scMode k = 3 → s.st (pkSc k) = .run →
    Completes (.ssiFrameStart k) s (fun t => (t.snd k).frameTs = some s.stb ∧ t.pages = s.pages ∧ Quiet s t)) ∧
  (∀ (s : State) (k : Nat) (frame : BitVec 40) (ts : Word), k < 12 → s.scMode k = 3 → s.scAlive k = true → (s.snd k).frameTs = some ts →
    s.bit (pkSc k) SC_FRAME_PAR = true → parityOdd (s.fld (pkSc k) SC_FRAME_FLEN) frame.toNat = true →
    Completes (.ssiFrameEnd k frame) s (fun t =>
      (t.snd k).frameTs = none ∧ (t.snd k).angle = (s.snd k).angle ∧ (t.snd k).pos = (s.snd k).pos ∧
      t.fld (pkSc k) SC_ERRCNT_DERR = min 65535 (s.fld (pkSc k) SC_ERRCNT_DERR + 1) ∧ Sends s t (0x060 + k) 0x06 0 ∧
      Kept [pkSc k] [(pkSc k, SC_ERRCNT.off)] s t ∧ Quiet s t)) ∧
  (∀ (s : State) (k : Nat), k < 12 → s.st (pkSc k) = .run → 3 ≤ s.scMode k → s.scMode k ≤ 5 →
    s.fld (pkSc k) SC_TIMING_FTO ≤ (s.snd k).missed →
    Completes (.framedTimeout k) s (fun t =>
      t.st (pkSc k) = .idle ∧ t.bit (pkSc k) SC_STAT_STALE = true ∧ bitN (t.page (pkSc k)).irqFlags.toNat 13 = true ∧
      Sends s t (0x060 + k) 0x05 1 ∧ Kept [pkSc k] [(pkSc k, SC_STAT.off)] s t ∧ Quiet s t)) ∧
  (∀ (s : State) (k amp : Nat), k < 4 → s.scMode k = 6 → s.st (pkSc k) = .idle →
    Completes (.resolverLock k amp) s (fun t =>
      t.st (pkSc k) = .run ∧ (t.snd k).nominal = amp ∧ t.bit (pkSc k) SC_STAT_LOS = false ∧ Quiet s t)) ∧
  (∀ (s : State) (k : Nat) (se ce : Word), k < 4 → s.scMode k = 6 → s.st (pkSc k) = .run → s.bit (pkSc k) SC_STAT_LOT = false →
    Completes (.observerUpdate k se ce true) s (fun t =>
      t.bit (pkSc k) SC_STAT_LOT = true ∧ Sends s t (0x060 + k) 0x06 1 ∧
      (t.snd k).w = ((s.snd k).observe (s.fld (pkSc k) SC_RSLV_BW) se ce).w ∧ Quiet s t)) ∧
  (∀ (s : State) (freq : BitVec 16) (amps : List Nat), s.st pkSx = .run →
    Completes (.excitationPeriod true false freq amps) s (fun t =>
      t.fld pkSx SX_EXC_STAT_FREQ_MEAS = freq.toNat ∧ t.sx.bad1 = 0 ∧
      (s.sx.bad0 = 3 → t.bit pkSx SX_EXC_STAT_FAIL0 = true ∧ Sends s t 0x06C 0x10 2) ∧ Quiet s t)) ∧
  (∀ (s : State) (k : Nat), k < 4 → s.scMode k = 6 → s.st (pkSc k) = .run →
    Completes .excitationFreqChange s (fun t => t.st (pkSc k) = .idle ∧ t.bit (pkSc k) SC_STAT_STALE = true ∧ Quiet s t)) ∧
  (∀ (s : State) (k : Nat) (a b z : Bool), k = 10 ∨ k = 11 → s.pw.tide = .slack → (s.aon k).active = true → (s.aon k).lost = false →
    Completes (.slackPulse k a b z false) s (fun t =>
      (t.aon k).missed = min 255 ((s.aon k).missed + 1) ∧ (t.aon k).pos = (s.aon k).pos ∧ t.pages = s.pages ∧ Quiet s t) ∧
    Completes (.slackPulse k a b z true) s (fun t =>
      let n := BitVec.ofNat 3 (b2n a + 2 * b2n b + 4 * b2n z)
      let m := fget SC_MODE_MODE (s.aon k).mode
      (∀ d, aonSteps m (s.aon k).st n = some d → bitN (s.aon k).mode.toNat 8 = false →
        (t.aon k).pos = (s.aon k).pos + BitVec.ofInt 32 d ∧ (t.aon k).st = n ∧ (t.aon k).lost = false) ∧
      (aonSteps m (s.aon k).st n = none → (t.aon k).lost = true ∧ (t.aon k).pos = (s.aon k).pos) ∧ t.pages = s.pages ∧ Quiet s t)) ∧
  (∀ (s : State) (l10 l11 : BitVec 3), s.pw.tide = .ebb ∨ s.pw.tide = .flood →
    Completes (.aonCounterSample l10 l11) s (fun t =>
      t.aon 10 = (s.aon 10).sample l10 ∧ t.aon 11 = (s.aon 11).sample l11 ∧ t.pages = s.pages ∧ Quiet s t))

/-- R204, R205, R215, R616-R618: the operations 0x00 to 0x0D. -/
def Obligations.CapstanArithmetic : Prop :=
  ∀ (s : State) (k g : Nat) (r : Run) (o : OpF), k < 6 → g < 4 → s.memOk → s.atOp k g r o → o.dst < 0x40 ∨ 0x100 ≤ o.dst →
    let rd := s.opnd k g r
    let one (c : Instr) (x : FRes) : Prop := Completes c s (fun t => OpEnds s t k g r [(o.dst, x.1)] x.2)
    (o.op = 0x00 → Completes (.capstanNop k) s (fun t => OpEnds s t k g r [] {})) ∧
    (o.op = 0x01 → one (.capstanMov k) (rd o.a, {})) ∧
    (o.op = 0x02 → one (.capstanAdd k) (fadd f32 (rd o.a) (rd o.b))) ∧
    (o.op = 0x03 → one (.capstanSub k) (fsub f32 (rd o.a) (rd o.b))) ∧
    (o.op = 0x04 → one (.capstanMul k) (fmul f32 (rd o.a) (rd o.b))) ∧
    (o.op = 0x05 → one (.capstanFma k) (ffma f32 (rd o.a) (rd o.b) (rd o.c))) ∧
    (o.op = 0x06 → one (.capstanMin k) (fminmax false (rd o.a) (rd o.b))) ∧
    (o.op = 0x07 → one (.capstanMax k) (fminmax true (rd o.a) (rd o.b))) ∧
    (o.op = 0x08 → one (.capstanAbs k) (rd o.a % 2 ^ 31, {})) ∧
    (o.op = 0x09 → one (.capstanNeg k) (fnegP f32 (rd o.a), {})) ∧
    (o.op = 0x0A → one (.capstanSel k) (if bitN (rd o.c) 31 then rd o.b else rd o.a, {})) ∧
    (o.op = 0x0B → one (.capstanDiv k) (fdiv f32 (rd o.a) (rd o.b))) ∧
    (o.op = 0x0C → one (.capstanSqrt k) (fsqrt f32 (rd o.a))) ∧
    (o.op = 0x0D → one (.capstanWrap k) (fwrap (rd o.a) (bitN o.aux 0)))

/-- R204, R206, R616: the operations 0x18 to 0x24. -/
def Obligations.CapstanBlocks : Prop :=
  ∀ (s : State) (k g : Nat) (r : Run) (o : OpF), k < 6 → g < 4 → s.memOk → s.atOp k g r o →
    let rd := s.opnd k g r
    let c := s.coefs k g r o
    let p := s.slotP k g r o
    let ps := 0x100 + o.s
    let m (a b : Nat) : FRes := fmul f32 a b
    let tr := trig (rd o.c)
    let third := if bitN o.aux 0 then (fsub f32 (fnegP f32 (rd o.a)) (rd o.b)).1 else rd o.c
    (o.dst + 2 ≤ 0x40 ∨ 0x100 ≤ o.dst →
      (o.op = 0x18 → Completes (.capstanClk k) s (fun t => ∃ fl, OpEnds s t k g r
        [(o.dst, (fdiv f32 (fsub f32 (fsub f32 (m 0x40000000 (rd o.a)).1 (rd o.b)).1 third).1 0x40400000).1),
         (o.dst + 1, (m (fsub f32 (rd o.b) third).1 0x3F13CD3A).1)] fl)) ∧
      (o.op = 0x1A → Completes (.capstanPark k) s (fun t => ∃ fl, OpEnds s t k g r
        [(o.dst, (fadd f32 (m (rd o.a) tr.2.1).1 (m (rd o.b) tr.1).1).1),
         (o.dst + 1, (fsub f32 (m (rd o.b) tr.2.1).1 (m (rd o.a) tr.1).1).1)] fl)) ∧
      (o.op = 0x1B → Completes (.capstanIpark k) s (fun t => ∃ fl, OpEnds s t k g r
        [(o.dst, (fsub f32 (m (rd o.a) tr.2.1).1 (m (rd o.b) tr.1).1).1),
         (o.dst + 1, (fadd f32 (m (rd o.a) tr.1).1 (m (rd o.b) tr.2.1).1).1)] fl))) ∧
    (o.dst + 3 ≤ 0x40 ∨ 0x100 ≤ o.dst → o.op = 0x19 →
      Completes (.capstanIclk k) s (fun t => ∃ fl, OpEnds s t k g r
        [(o.dst, if fIsNan f32 (rd o.a) then 0x7FC00000 else rd o.a),
         (o.dst + 1, (fadd f32 (fdiv f32 (fnegP f32 (rd o.a)) 0x40000000).1 (m (rd o.b) 0x3F5DB3D7).1).1),
         (o.dst + 2, (fsub f32 (fdiv f32 (fnegP f32 (rd o.a)) 0x40000000).1 (m (rd o.b) 0x3F5DB3D7).1).1)] fl)) ∧
    (o.dst < 0x40 ∨ 0x100 ≤ o.dst →
      (o.op = 0x20 → Completes (.capstanPi k) s (fun t =>
        let u := (ffma f32 (c 0) (rd o.a) (p 0)).1
        let n := if fgt u (c 3) && fgt (rd o.a) 0 || fgt (c 2) u && fgt 0 (rd o.a) then p 0
          else (clamp2 (ffma f32 (c 1) (rd o.a) (p 0)).1 (c 2) (c 3)).1
        ∃ fl, OpEnds s t k g r [(o.dst, if o.dst = ps then n else (clamp2 u (c 2) (c 3)).1), (ps, n)] fl)) ∧
      (o.op = 0x21 → Completes (.capstanHys k) s (fun t =>
        let h := if fgt (rd o.a) (c 0) then 0x3F800000 else if fgt (c 1) (rd o.a) then 0 else p 0
        OpEnds s t k g r [(o.dst, if o.dst = ps then h else if h = 0x3F800000 then c 2 else c 3), (ps, h)] {})) ∧
      (o.op = 0x22 → Completes (.capstanBiq k) s (fun t =>
        let y := (ffma f32 (c 0) (rd o.a) (p 0)).1
        ∃ fl, OpEnds s t k g r [(o.dst, y),
          (ps, if o.dst = ps then y else (ffma f32 (fnegP f32 (c 3)) y (ffma f32 (c 1) (rd o.a) (p 1)).1).1),
          (ps + 1, if o.dst = ps + 1 then y else (ffma f32 (fnegP f32 (c 4)) y (m (c 2) (rd o.a)).1).1)] fl)) ∧
      (o.op = 0x24 → Completes (.capstanSlew k) s (fun t =>
        let z := (fadd f32 (p 0) (clamp2 (fsub f32 (rd o.a) (p 0)).1 (fnegP f32 (c 1)) (c 0)).1).1
        ∃ fl, OpEnds s t k g r [(o.dst, z), (ps, z)] fl))) ∧
    (o.dst < 0x40 ∨ 0x100 ≤ o.dst → o.op = 0x23 → Completes (.capstanLim k) s (fun t =>
      let lo := if bitN o.aux 0 then fnegP f32 (rd o.b % 2 ^ 31) else c 0
      let hi := if bitN o.aux 0 then rd o.b % 2 ^ 31 else c 1
      ∃ fl, OpEnds s t k g r [(o.dst, if fIsNan f32 (rd o.a) then 0x7FC00000 else (clamp2 (rd o.a) lo hi).1)] fl))

/-- R204, R207, R209, R210, R217, R225, R273, R275: the operations 0x10 to 0x12 and 0x28 to 0x2A. -/
def Obligations.CapstanStreams : Prop :=
  ∀ (s : State) (k g : Nat) (r : Run) (o : OpF), k < 6 → g < 4 → s.memOk → s.atOp k g r o →
    let rd := s.opnd k g r
    let lk := r.links.getD (o.aux % 32) (0#32, true)
    let partner := s.fld (pkCe k) (CE_LINK_TYPE.ix (o.aux % 32)) = 5
    let n := s.fld (pkCe k) (CE_GRP_CNT_ABANDON.ix g 16)
    let third := s.fld (pkCe k) (CE_GRP_FLAGS_CONS_ABND.ix g 16) = 2
    let takes : Prop := s.fld (pkSw k) (SW_TBL_CFG_TEACH.ix (o.aux % 4) 0x40) = g ∧ tmem r.teach (o.aux % 4) = false
    let gone (t : State) : Prop := (∀ x ∈ (t.eng k).runs, x.1 ≠ g) ∧
      t.fld (pkCe k) (CE_GRP_CNT_ABANDON.ix g 16) = min 65535 (n + 1) ∧ bitN (t.page (pkCe k)).irqFlags.toNat 9 = true ∧
      (∀ i, t.ceP k i = s.ceP k i) ∧ (∀ i, i < 32 → t.word (pkCe k) (CE_OUT.ix i) = s.word (pkCe k) (CE_OUT.ix i))
    (o.dst < 0x40 ∨ 0x100 ≤ o.dst →
      (o.op = 0x10 → ¬ partner → lk.2 = false → Completes (.capstanSld k) s (fun t =>
        OpEnds s t k g r [(o.dst, lk.1.toNat)] {})) ∧
      (o.op = 0x10 → ¬ partner → lk.2 = true → bitN o.aux 5 = false → Completes (.capstanSld k) s (fun t =>
        (t.runOf k g).pc = r.pc + 1 ∧ (o.dst < 0x40 → t.m32 (ceWAddr k g o.dst) = lk.1) ∧
        t.bit (pkCe k) (CE_GRP_FLAGS_STALE_SEEN.ix g 16) = true ∧ bitN (t.page (pkCe k)).irqFlags.toNat 12 = true)) ∧
      (o.op = 0x10 → partner → s.partnerAngle k r = none → bitN o.aux 5 = false →
        Completes (.capstanSld k) s (fun t => t = s) ∧
        (∀ (n : Nat) (w : Word) (rest : List (Nat × Word)), (s.eng (k - 1)).pubs = (n, w) :: rest →
          Completes (.pairTimeout k) s (fun t =>
            (t.runOf k g).pc = r.pc + 1 ∧ (o.dst < 0x40 → t.m32 (ceWAddr k g o.dst) = w) ∧
            t.bit (pkCe k) (CE_GRP_FLAGS_STALE_SEEN.ix g 16) = true ∧ bitN (t.page (pkCe k)).irqFlags.toNat 13 = true ∧
            Sends s t (0x080 + k) 0x05 1))) ∧
      (∀ w, o.op = 0x10 → partner → s.partnerAngle k r = some (w, false) → Completes (.capstanSld k) s (fun t =>
        OpEnds s t k g r [(o.dst, w.toNat)] {})) ∧
      (o.op = 0x28 → bitN o.aux 2 = false ∨ takes → Completes (.capstanSwl k) s (fun t => ∃ fl,
        OpEnds s t k g r [(o.dst, (s.swLookup k (o.aux % 4) (fwrap (rd o.a) false).1).1)] fl ∧
        (bitN o.aux 2 = true → (o.aux % 4, BitVec.ofNat 32 (rd o.a), BitVec.ofNat 32 (rd o.b)) ∈ (t.runOf k g).teach))) ∧
      (o.op = 0x28 → bitN o.aux 2 = true → ¬ takes → Completes (.capstanSwl k) s (fun t =>
        (o.dst < 0x40 → t.m32 (ceWAddr k g o.dst) = BitVec.ofNat 32 (s.swLookup k (o.aux % 4) (fwrap (rd o.a) false).1).1) ∧
        (t.runOf k g).teach = r.teach ∧ (t.runOf k g).pc = r.pc + 1 ∧
        t.fld (pkSw k) (SW_TBL_CNT_IGNORED.ix (o.aux % 4) 0x40) =
          min 255 (s.fld (pkSw k) (SW_TBL_CNT_IGNORED.ix (o.aux % 4) 0x40) + 1))) ∧
      (o.op = 0x29 → Completes (.capstanInj k) s (fun t => ∃ fl,
        OpEnds s t k g r [(o.dst, if bitN r.injPoints (o.aux % 16) then (fadd f32 (rd o.a) r.inj.toNat).1 else rd o.a)] fl))) ∧
    (o.op = 0x10 → ¬ partner → lk.2 = true → bitN o.aux 5 = true → Completes (.capstanSld k) s gone) ∧
    (o.op = 0x11 → fIsFinite f32 (rd o.a) = true → s.pairLower k = false → Completes (.capstanSst k) s (fun t =>
      tget 0#32 (t.runOf k g).stO (o.aux % 32) = BitVec.ofNat 32 (rd o.a) ∧ (t.runOf k g).pc = r.pc + 1 ∧
      t.pages = s.pages ∧ t.mem = s.mem ∧ ∀ j, j ≠ k → t.eng j = s.eng j)) ∧
    (o.op = 0x11 → fIsFinite f32 (rd o.a) = false → Completes (.capstanSst k) s (fun t =>
      gone t ∧ t.bit (pkCe k) (CE_GRP_FLAGS_NF.ix g 16) = true ∧ (third → Sends s t (0x080 + k) 0x06 2) ∧
      (s.fld (pkCe k) (CE_GRP_FLAGS_CONS_ABND.ix g 16) < 2 → Sends s t (0x080 + k) 0x06 1))) ∧
    (o.op = 0x12 → fIsFinite f32 (rd o.a) = true → Completes (.capstanRef k) s (fun t =>
      tget 0#32 (t.runOf k g).stR (o.aux % 4) = BitVec.ofNat 32 (rd o.a) ∧ (t.runOf k g).pc = r.pc + 1 ∧
      t.pages = s.pages ∧ t.mem = s.mem ∧ ∀ j, j ≠ k → t.eng j = s.eng j)) ∧
    (o.op = 0x12 → fIsFinite f32 (rd o.a) = false → Completes (.capstanRef k) s (fun t =>
      gone t ∧ t.bit (pkCe k) (CE_GRP_FLAGS_NF.ix g 16) = true)) ∧
    (o.op = 0x2A → Completes (.capstanCap k) s (fun t =>
      tget 0#32 (t.runOf k g).stCap (o.aux % 8) = BitVec.ofNat 32 (rd o.a) ∧ (t.runOf k g).pc = r.pc + 1 ∧
      t.pages = s.pages ∧ t.mem = s.mem))

/-- R200, R201, R211, R216, R221, R222, R224, R226: GO, CHECK_COMPLETE, BASE_TICK, RUN_COMMIT and writes to engine memory. -/
def Obligations.EngineRuns : Prop :=
  (∀ (s : State) (who : Initiator) (k : Nat), k < 6 →
    (s.st (pkCe k) = .off ∨ s.st (pkCe k) = .idle → Completes (.go who k) s (fun t =>
      (t.eng k).checking = true ∧ (t.page (pkCe k)).clampCount = (s.page (pkCe k)).clampCount ∧ Kept [pkCe k] [] s t ∧ Quiet s t)) ∧
    (s.st (pkCe k) = .run ∨ s.st (pkCe k) = .drain → Completes (.go who k) s (fun t =>
      t.ce = s.ce ∧ (t.page (pkCe k)).clampCause = 5#4 ∧ (t.page (pkCe k)).clampOff = 0x044#12 ∧ Kept [pkCe k] [] s t ∧ Quiet s t))) ∧
  (∀ (s : State) (k : Nat), k < 6 → (s.eng k).checking = true → s.memOk →
    (s.enabledGroups k = [] → (∀ i, i < 32 → s.fld (pkCe k) (CE_LINK_TYPE.ix i) ≠ 5) → s.pairLower k = false →
      Completes (.checkComplete k) s (fun t =>
        t.fld (pkCe k) CE_STAT_CHECK = 1 ∧ (t.eng k).checking = false ∧ bitN (t.page (pkCe k)).irqFlags.toNat 11 = true ∧
        ∀ i, i < 256 → t.m32 (ceImgAddr k i) = s.ceP k i ∧ t.ceP k i = s.ceP k i)) ∧
    (∀ g, g < 4 → s.enabledGroups k = [g] → s.grpEnd k g < s.grpStart k g → Completes (.checkComplete k) s (fun t =>
      t.fld (pkCe k) CE_STAT_CHECK = 6 ∧ t.fld (pkCe k) CE_STAT_CHECK_OP = s.grpStart k g ∧
      bitN (t.page (pkCe k)).irqFlags.toNat 10 = true ∧ Quiet s t))) ∧
  (∀ s : State, s.tickOn = true → s.bit (pkCe 0) CE_TICK_CFG_SYNC = false → s.fixedLive →
    Completes (.baseTick none false) s (fun t =>
      t.word (pkCe 0) CE_TICKNO = s.word (pkCe 0) CE_TICKNO + 1#32 ∧ t.pending = s.pending ∧
      ∀ k, k < 6 → (s.st (pkCe k) = .idle → s.fld (pkCe k) CE_STAT_CHECK = 1 → t.st (pkCe k) = .run) ∧
        (s.st (pkCe k) = .drain → t.st (pkCe k) = .off ∧ ∀ j, j < 3 → t.word (pkCe k) (CE_REF.ix j) = 0#32))) ∧
  (∀ (s : State) (k g cycles : Nat) (r : Run), k < 6 → s.activeRun k = some (g, r) → s.busy (pkCe k) = true → r.started = true →
    s.grpEnd k g < r.pc → s.memOk → r.teach = [] → (∀ x ∈ r.stP, x.1 < 256) → (∀ x ∈ r.stO, x.1 < 32) → g < 4 →
    (∀ x ∈ r.stR, x.1 < 3) → (r.stP.map (fun x => x.1)).Nodup → (r.stO.map (fun x => x.1)).Nodup → (r.stR.map (fun x => x.1)).Nodup →
    s.wg.sending = false →
    Completes (.runCommit k cycles) s (fun t =>
      (∀ x ∈ r.stP, t.ceP k x.1 = x.2) ∧ (∀ i, i < 256 → (∀ x ∈ r.stP, x.1 ≠ i) → t.ceP k i = s.ceP k i) ∧
      (∀ x ∈ r.stO, t.word (pkCe k) (CE_OUT.ix x.1) = x.2) ∧ (∀ x ∈ r.stR, t.word (pkCe k) (CE_REF.ix x.1) = x.2) ∧
      t.fld (pkCe k) (CE_GRP_TIME_LAST.ix g 16) = min 65535 cycles ∧ t.fld (pkCe k) (CE_GRP_FLAGS_CONS_LATE.ix g 16) = 0 ∧
      t.pending = s.pending)) ∧
  (∀ (s : State) (who : Initiator) (k o : Nat) (v : Word), k < 6 → o % 4 = 0 →
    (0xC00 ≤ o ∧ o < 0x1400 ∨ o < 0xC00 ∧ s.st (pkCe k) ≠ .off ∧ s.st (pkCe k) ≠ .idle) →
    Completes (.registerWrite who (ceBase k + o) 4 v) s (fun t => t = s.answer (.error who)))

/-- R236, R250, R252-R254: DECISION and ZERO_SWAP. -/
def Obligations.LoopDecisions : Prop :=
  (∀ (s : State) (k : Nat), k < 18 → Completes .decision s (fun t =>
    t.dec = s.dec + 1 ∧ Quiet s t ∧
    (s.st (pkHl k) = .run → s.loopMay k = false → t.st (pkHl k) = .idle ∧ (t.loop k).sig = none ∧ (t.loop k).lastEdge = none) ∧
    (s.st (pkHl k) = .idle → s.loopMay k = true → (s.fastUse k).2 = false → (s.page (pkHl k)).swapPending = false →
      t.st (pkHl k) = .run ∧ (t.loop k).sHigh = 0 ∧ (t.loop k).sLow = 0 ∧
      (t.loop k).h = if (s.loop k).brSince then 256 * s.fld (pkHl k) HL_HINIT_V else (s.loop k).h) ∧
    (s.st (pkHl k) = .run → s.loopMay k = true → (s.fastUse k).2 = true → s.fld (pkHl k) HL_COAST_LIMIT ≤ (s.loop k).age →
      t.st (pkHl k) = .idle ∧ bitN (t.page (pkHl k)).irqFlags.toNat 11 = true ∧ Sends s t (0x040 + k) 0x05 1))) ∧
  (∀ (s : State) (m : Nat), m < 6 → s.st (pkHc m) = .run → s.bit (pkHc m) HC_CFG_ZSWAP = true → s.fld (pkHc m) HC_STAT_VEC = 7 →
    Completes (.zeroSwap m) s (fun t => t.bit (pkHc m) HC_STAT_SWAP_BUSY = true ∧ t.loops = s.loops ∧
      Kept [pkHc m] [(pkHc m, HC_STAT.off)] s t ∧ Quiet s t)) ∧
  (∀ (s : State) (m : Nat), m < 6 → s.st (pkHc m) = .run → s.bit (pkHc m) HC_STAT_SWAP_BUSY = true →
    (∀ j, j < 3 → s.st (pkHl (3 * m + j)) = .run ∧ s.loopMay (3 * m + j) = true ∧ (s.loop (3 * m + j)).sig = some true ∧
      (s.fastUse (3 * m + j)).2 = false) →
    Completes .decision s (fun t =>
      (∀ j, j < 3 → (t.loop (3 * m + j)).sig = some false ∧ (t.loop (3 * m + j)).subst = true) ∧
      t.reg (pkHc m) HC_ZSWAPS_N.off = s.reg (pkHc m) HC_ZSWAPS_N.off + 1#32 ∧ t.bit (pkHc m) HC_STAT_SWAP_BUSY = false))

/-- R243, R245, R249: the frequency ceiling holds for loop edges and substitutions (swap edges are exempt, R250). -/
def Obligations.EdgesKeepTmin : Prop :=
  ∀ (s : State) (k : Nat) (t0 : Int), k < 18 → s.st (pkHl k) = .run → (s.loop k).sig ≠ none → (s.loop k).lastEdge = some t0 →
    s.bit (pkHc (bridgeOf k)) HC_STAT_SWAP_BUSY = false →
    Completes .decision s (fun t =>
      ∀ t1, (t.loop k).lastEdge = some t1 → t1 = t0 ∨ t0 + t.legTmin k ≤ t1)

/-- R268, R269, R272, R274, R276, R282: CLEAR, RESUME, INJECTION_ARM, INJECTION_STOP, CAPTURE_CLAIM, CAPTURE_ARM, CAPTURE_FORCE,
CAPTURE_RELEASE, SEGMENT_CLEARED. -/
def Obligations.SwellInjectionCapture : Prop :=
  (∀ (s : State) (who : Initiator) (k j : Nat), k < 6 → j < 4 → s.st (pkSw k) ≠ .test →
    Completes (.clear who k (BitVec.ofNat 4 (2 ^ j))) s (fun t =>
      (t.swt (swKey k j)).clearReq = true ∧ (t.swt (swKey k j)).ef = (s.swt (swKey k j)).ef ∧ Kept [pkSw k] [] s t ∧ Quiet s t) ∧
    Completes (.resume who k (BitVec.ofNat 4 (2 ^ j))) s (fun t =>
      let rms := rmsOf (s.swSum k j)
      let lim := (s.word (pkSw k) (SW_TBL_RMSLIM.ix j 0x40)).toNat
      t.word (pkSw k) (SW_TBL_RMS.ix j 0x40) = BitVec.ofNat 32 rms ∧
      (fIsNan f32 rms = false → flt f32 lim rms = false → t.swGuard k j = false) ∧
      (flt f32 lim rms = true → t.swGuard k j = s.swGuard k j) ∧
      Kept [pkSw k] [(pkSw k, (SW_TBL_RMS.ix j 0x40).off), (pkSw k, (SW_TBL_STAT_GUARD.ix j 0x40).off)] s t ∧ Quiet s t)) ∧
  (∀ (s : State) (who : Initiator) (k : Nat), k < 6 → s.st (pkIj k) = .idle →
    let start := s.word (pkIj k) IJ_START_TICK
    let passed := decide ((s.word (pkCe 0) CE_TICKNO - start).toNat < 2 ^ 31)
    (s.ijGen k = 0 → s.fld (pkIj k) IJ_CFG_WAVE ≠ 0 → flt f32 0 (s.word (pkIj k) IJ_LIMIT).toNat = true →
      Completes (.injectionArm who k) s (fun t =>
        t.ijGen k = 1 ∧ (t.inj k).late = passed ∧ (passed = true → t.bit (pkIj k) IJ_STAT_LATE_START = true) ∧
        Kept [pkIj k] [(pkIj k, IJ_STAT.off)] s t ∧ Quiet s t)) ∧
    (s.fld (pkIj k) IJ_CFG_WAVE = 0 → Completes (.injectionArm who k) s (fun t => t.ij = s.ij ∧ Kept [pkIj k] [] s t ∧ Quiet s t)) ∧
    (s.ijGen k = 1 → Completes (.injectionStop who k) s (fun t => t.ijGen k = 0 ∧ Kept [pkIj k] [(pkIj k, IJ_STAT.off)] s t ∧ Quiet s t)) ∧
    (s.ijGen k = 2 → Completes (.injectionStop who k) s (fun t => t.ijGen k = 2 ∧ (t.inj k).stopReq = true ∧ Quiet s t))) ∧
  (∀ (s : State) (who : Initiator) (k n : Nat), k < 6 → 1 ≤ n → n ≤ 64 → s.st pkCp ≠ .test →
    let free := (List.range 64).filter (fun g => s.segCode g == 0)
    (s.capState k = 0 → n ≤ free.length → Completes (.captureClaim who k n) s (fun t =>
      t.capState k = 1 ∧ (t.capt k).segs = free.take n ∧ (∀ g ∈ free.take n, t.segCode g = k + 1) ∧
      (∀ g, g < 64 → g ∉ free.take n → t.segCode g = s.segCode g) ∧ t.fld pkCp CP_POOL_FREE = free.length - n ∧
      t.fld pkCp (CP_CAP_STAT_NSEG.ix k 0x40) = n ∧ (∀ j, j ≠ k → t.capt j = s.capt j) ∧ Quiet s t)) ∧
    (s.capState k ≠ 0 ∨ free.length < n → Completes (.captureClaim who k n) s (fun t =>
      t.capt k = s.capt k ∧ t.capState k = s.capState k ∧ t.fld pkCp CP_REFUSED_N = min 65535 (s.fld pkCp CP_REFUSED_N + 1) ∧
      t.bit pkCp (CP_CAP_STAT_REFUSED.ix k 0x40) = true ∧ (∀ g, g < 64 → t.segCode g = s.segCode g) ∧ Quiet s t))) ∧
  (∀ (s : State) (who : Initiator) (k : Nat), k < 6 → s.st pkCp ≠ .test →
    (s.capState k = 1 ∨ s.capState k = 4 → Completes (.captureArm who k) s (fun t =>
      t.capState k = 2 ∧ (t.capt k).written = 0 ∧ (t.capt k).segs = (s.capt k).segs ∧ t.fld pkCp (CP_CAP_COUNT_N.ix k 0x40) = 0 ∧ Quiet s t)) ∧
    (s.capState k = 2 → Completes (.captureForce who k) s (fun t =>
      (t.capt k).force = true ∧ Kept [pkCp] [] s t ∧ Quiet s t)) ∧
    (s.capState k ≠ 0 → (∀ g ∈ (s.capt k).segs, g < 64) → Completes (.captureRelease who k) s (fun t =>
      t.capState k = 0 ∧ (t.capt k).segs = [] ∧ t.clearing = s.clearing ++ (s.capt k).segs ∧
      (∀ g ∈ (s.capt k).segs, t.segCode g = 8) ∧ Quiet s t))) ∧
  (∀ (s : State) (g : Nat) (rest : List Nat), s.clearing = g :: rest → g < 64 →
    Completes .segmentCleared s (fun t =>
      t.clearing = rest ∧ t.segCode g = 0 ∧ (∀ a, 0x34000000 + 0x2000 * g ≤ a → a < 0x34002000 + 0x2000 * g → mget t.mem a = 0#8) ∧
      ∀ a, (a < 0x34000000 + 0x2000 * g ∨ 0x34002000 + 0x2000 * g ≤ a) → mget t.mem a = mget s.mem a))

/-- R286-R288, R293, R304: COMMAND_WORD and SWITCH_ACTION. -/
def Obligations.GateWords : Prop :=
  (∀ (s : State) (k : Nat) (w : BitVec 16), k < 18 → s.legLive k = true → (s.leg k).latch = .none → (s.leg k).word ≠ some w →
    s.bit (pkGl k) GL_STAT_REFRESH = false → wordCmd w ≠ 3 →
    Completes (.commandWord k w) s (fun t =>
      let ta := s.placed (s.tapNow + wordPlace w)
      let dt := s.dtTaps k
      let o := s.fld (pkGl k) GL_STAT_OUT
      t.fld (pkGl k) GL_STAT_CMD = wordCmd w ∧ t.fld (pkGl k) GL_STAT_OUT = o ∧
      ((s.leg k).acts = [] → wordCmd w = o → (t.leg k).acts = []) ∧
      ((s.leg k).acts = [] → o = 2 → wordCmd w = 1 → (t.leg k).acts = [⟨ta, true, false⟩, ⟨ta + dt, false, true⟩]) ∧
      ((s.leg k).acts = [] → o = 1 → wordCmd w = 2 → (t.leg k).acts = [⟨ta, false, false⟩, ⟨ta + dt, true, true⟩]) ∧
      ((s.leg k).acts = [] → o = 2 → wordCmd w = 0 → (t.leg k).acts = [⟨ta, true, false⟩]) ∧
      ((s.leg k).acts = [] → o = 1 → wordCmd w = 0 → (t.leg k).acts = [⟨ta, false, false⟩]) ∧
      ((s.leg k).acts = [] → o = 0 → wordCmd w = 1 → 
        (t.leg k).acts = [⟨match (s.leg k).tHoff with | some h => max ta (h + dt) | none => ta, false, true⟩]) ∧
      ((s.leg k).acts = [] → o = 0 → wordCmd w = 2 → 
        (t.leg k).acts = [⟨match (s.leg k).tLoff with | some l => max ta (l + dt) | none => ta, true, true⟩]) ∧
      (∀ a ∈ (t.leg k).acts, a.on = true →
        (o = (if a.high then 1 else 2) → ta + dt ≤ a.time ∧ (⟨ta, !a.high, false⟩ : SwitchAct) ∈ (t.leg k).acts) ∧
        (o = 0 → ∀ x, (if a.high then (s.leg k).tLoff else (s.leg k).tHoff) = some x → x + dt ≤ a.time)) ∧
      Kept [pkGl k] [(pkGl k, GL_STAT.off)] s t ∧ t.wires = s.wires ∧ Quiet s t)) ∧
  (∀ (s : State) (k : Nat) (a : SwitchAct) (r : List SwitchAct), k < 18 → (s.leg k).acts = a :: r →
    Completes (.switchAction k) s (fun t =>
      (t.leg k).acts = r ∧
      t.fld (pkGl k) GL_STAT_OUT = (if a.on then (if a.high then 2 else 1)
        else if s.fld (pkGl k) GL_STAT_OUT = (if a.high then 2 else 1) then 0 else s.fld (pkGl k) GL_STAT_OUT) ∧
      (a.on = false → a.high = true → (t.leg k).tHoff = some a.time) ∧
      (a.on = false → a.high = false → (t.leg k).tLoff = some a.time) ∧
      t.bit (pkGl k) GL_STAT_DT_OPEN = !r.isEmpty ∧
      Kept [pkGl k] [(pkGl k, GL_STAT.off)] s t ∧ t.wires = s.wires ∧ Quiet s t)) ∧
  (∀ (s : State) (k : Nat) (w : BitVec 16), k < 18 → s.legLive k = true → (s.leg k).latch ≠ .latch → wordCmd w = 3 →
    Completes (.commandWord k w) s (fun t =>
      t.fld (pkGl k) GL_STAT_OUT = 0 ∧ (t.leg k).acts = [] ∧ (t.leg k).latch = (s.leg k).latch ∧
      (s.fld (pkGl k) GL_STAT_OUT = 2 → (t.leg k).tHoff = some s.tapNow) ∧
      (s.fld (pkGl k) GL_STAT_OUT = 1 → (t.leg k).tLoff = some s.tapNow) ∧
      t.fld (pkGl k) GL_CNT_CROSS = min 255 (s.fld (pkGl k) GL_CNT_CROSS + 1) ∧
      t.bit (pkGl k) GL_FLT_CROSS = true ∧ bitN (t.page (pkGl k)).irqFlags.toNat 10 = true ∧
      ((s.leg k).crossRun = 0 → Sends s t (0x0A0 + k) 0x09 1) ∧ ((s.leg k).crossRun = 49 → Sends s t (0x0A0 + k) 0x09 2) ∧
      Kept [pkGl k] [(pkGl k, GL_STAT.off), (pkGl k, GL_CNT.off), (pkGl k, GL_FLT.off)] s t ∧ Quiet s t)) ∧
  (∀ (s : State) (k : Nat) (w : BitVec 16), k < 18 → s.busy (pkGl k) = true → s.bit (pkGb (bridgeOf k)) GB_STAT_CUT = true →
    Completes (.commandWord k w) s (fun t => t.legs = s.legs ∧ t.fld (pkGl k) GL_STAT_OUT = s.fld (pkGl k) GL_STAT_OUT ∧
      t.wires = s.wires ∧ Kept [pkGl k] [(pkGl k, GL_STAT.off)] s t ∧ Quiet s t))

/-- R291-R293, R295-R297, R310, R400: SEAWALL_ENABLE, VGD_UVLO, VGD_UVLO_RELEASE, BOOTSTRAP_UVLO, BOOTSTRAP_REFRESH. -/
def Obligations.BridgeSupplies : Prop :=
  (∀ (s : State) (m : Nat), m < 6 → s.enable m = true → s.st (pkGb m) = .idle → s.bit (pkGb m) GB_STAT_VGD_UV = false →
    Completes (.seawallEnable m) s (fun t =>
      t.st (pkGb m) = .run ∧ t.bit (pkGb m) GB_STAT_EN_SW = true ∧ t.bit (pkGb m) GB_STAT_CUT = false ∧
      (∀ j, j < 3 → t.bit (pkGl (3 * m + j)) GL_STAT_EN_SW = true ∧
        (s.st (pkGl (3 * m + j)) = .idle → t.st (pkGl (3 * m + j)) = .run) ∧
        (s.bit (pkGl (3 * m + j)) GL_STAT_LEAK_BUSY = true → t.bit (pkGl (3 * m + j)) GL_STAT_LEAK_BUSY = false ∧
          t.bit (pkGl (3 * m + j)) GL_LEAK_HS_VALID = false ∧ t.bit (pkGl (3 * m + j)) GL_LEAK_LS_VALID = false)) ∧ Quiet s t)) ∧
  (∀ (s : State) (m : Nat), m < 6 → s.enable m = false → s.bit (pkGb m) GB_STAT_EN_SW = true → s.bit (pkGb m) GB_STAT_CUT = false →
    Completes (.seawallEnable m) s (fun t =>
      t.running (pkGb m) = false ∧ t.bit (pkGb m) GB_STAT_EN_SW = false ∧ t.bit (pkGb m) GB_STAT_CUT = true ∧
      t.bit (pkGb m) GB_STAT_CUT_FORM = false ∧ t.fld (pkGb m) GB_CNT_CUTS = min 255 (s.fld (pkGb m) GB_CNT_CUTS + 1) ∧
      (∀ j, j < 3 → t.fld (pkGl (3 * m + j)) GL_STAT_OUT = 0 ∧ (t.leg (3 * m + j)).acts = [] ∧ t.running (pkGl (3 * m + j)) = false ∧
        t.bit (pkIs (3 * m + j)) IS_STAT_PERMIT = false ∧
        (s.sw (3 * m + j) = 1 ∨ s.sw (3 * m + j) = 2 ∨ s.sw (3 * m + j) = 3 → t.sw (3 * m + j) = 4)) ∧ Quiet s t)) ∧
  (∀ (s : State) (m : Nat), m < 6 → s.running (pkGb m) = true →
    Completes (.vgdUvlo m) s (fun t =>
      t.st (pkGb m) = .idle ∧ t.bit (pkGb m) GB_STAT_VGD_UV = true ∧ (∀ j, j < 3 → t.fld (pkGl (3 * m + j)) GL_STAT_OUT = 0 ∧
        (t.leg (3 * m + j)).acts = []) ∧
      t.fld (pkGb m) GB_CNT_VGD_UV = min 255 (s.fld (pkGb m) GB_CNT_VGD_UV + 1) ∧ bitN (t.page (pkGb m)).irqFlags.toNat 8 = true ∧
      Sends s t (0x0B2 + m) 0x07 2 ∧ Quiet s t)) ∧
  (∀ (s : State) (m : Nat), m < 6 → s.running (pkGb m) = false →
    Completes (.vgdUvlo m) s (fun t => t.bit (pkGb m) GB_STAT_VGD_UV = true ∧ t.wires = s.wires ∧ t.legs = s.legs ∧
      Kept [pkGb m] [(pkGb m, GB_STAT.off)] s t ∧ Quiet s t)) ∧
  (∀ (s : State) (m : Nat), m < 6 → s.st (pkGb m) = .idle →
    Completes (.vgdUvloRelease m) s (fun t => t.bit (pkGb m) GB_STAT_VGD_UV = false ∧
      (s.bit (pkGb m) GB_STAT_EN_SW = true → t.st (pkGb m) = .run) ∧
      (s.bit (pkGb m) GB_STAT_EN_SW = false → t.st (pkGb m) = .idle) ∧ Quiet s t)) ∧
  (∀ (s : State) (k : Nat), k < 18 → s.running (pkGl k) = true →
    Completes (.bootstrapUvlo k true) s (fun t =>
      (t.leg k).latch = .latch ∧ (t.leg k).acts = [] ∧ t.fld (pkGl k) GL_STAT_OUT = 0 ∧ t.bit (pkGl k) GL_STAT_LATCHED = true ∧
      t.bit (pkGl k) GL_STAT_BST_UV = true ∧ t.bit (pkGl k) GL_FLT_BST_UV = true ∧
      t.fld (pkGl k) GL_CNT_BST_UV = min 255 (s.fld (pkGl k) GL_CNT_BST_UV + 1) ∧ Sends s t (0x0A0 + k) 0x07 1 ∧
      Kept [pkGl k] [(pkGl k, GL_STAT.off), (pkGl k, GL_CNT.off), (pkGl k, GL_FLT.off)] s t ∧ Quiet s t)) ∧
  (∀ (s : State) (k : Nat) (low : Bool), k < 18 → low = false ∨ s.running (pkGl k) = false →
    Completes (.bootstrapUvlo k low) s (fun t => t.bit (pkGl k) GL_STAT_BST_UV = low ∧ t.legs = s.legs ∧ t.wires = s.wires ∧
      Kept [pkGl k] [(pkGl k, GL_STAT.off)] s t ∧ Quiet s t)) ∧
  (∀ (s : State) (k : Nat), k < 18 → s.running (pkGl k) = true → s.fld (pkGl k) GL_STAT_OUT = 2 → (s.leg k).latch = .none →
    (s.leg k).acts = [] → fget GL_BOOT_KEEP_EN (s.leg k).cfgH.2.2 = 0 →
    Completes (.bootstrapRefresh k) s (fun t =>
      let n := s.tapNow
      let dt := s.dtTaps k
      let rfw := 64 * fget GL_BOOT_RFW (s.leg k).cfgH.2.2
      t.fld (pkGl k) GL_STAT_OUT = 0 ∧ (t.leg k).tHoff = some n ∧ t.bit (pkGl k) GL_STAT_REFRESH = true ∧
      (t.leg k).acts = [⟨n + dt, false, true⟩, ⟨n + dt + rfw, false, false⟩, ⟨n + 2 * dt + rfw, true, true⟩] ∧
      t.reg (pkGl k) GL_REFRESHES.off = s.reg (pkGl k) GL_REFRESHES.off + 1#32 ∧
      Kept [pkGl k] [(pkGl k, GL_STAT.off), (pkGl k, GL_REFRESHES.off)] s t ∧ Quiet s t))

/-- R298-R302, R305, R306, R316: DIDT_TRIP, VDS_TRIP, SOFT_SINK_HANDOVER, LATCH_HOLD_EXPIRY, READBACK_MISMATCH, LEAKAGE_CHECK,
LEAK_DONE, and COMMAND_WORD in WAIT_EDGE. -/
def Obligations.GateProtection : Prop :=
  (∀ (s : State) (k : Nat) (high partner didt : Bool), k < 18 → s.switchOn k high = true →
    (didt = true → fget (if high then GL_DIDT_HS_EN else GL_DIDT_LS_EN) (s.switchCfg k high).1 = 1) →
    (didt = false → fget GL_VDS_EN (s.switchCfg k high).2.1 = 1) →
    Completes (if didt then .didtTrip k high partner else .vdsTrip k high partner) s (fun t =>
      (t.leg k).latch = .latch ∧ (t.leg k).soft = some high ∧ (t.leg k).acts = [] ∧ t.fld (pkGl k) GL_STAT_OUT = 0 ∧
      t.bit (pkGl k) GL_STAT_LATCHED = true ∧ t.bit (pkGl k) GL_FLT_SHOOT = s.isShoot k high partner ∧
      t.bit (pkGl k) (if didt then (if high then GL_FLT_DIDT_HS else GL_FLT_DIDT_LS)
        else (if high then GL_FLT_VDS_HS else GL_FLT_VDS_LS)) = true ∧
      t.fld (pkGl k) GL_CNT_SC = min 255 (s.fld (pkGl k) GL_CNT_SC + 1) ∧ bitN (t.page (pkGl k)).irqFlags.toNat 8 = true ∧
      Sends s t (0x0A0 + k) 0x08 1 ∧
      Kept [pkGl k] [(pkGl k, GL_STAT.off), (pkGl k, GL_CNT.off), (pkGl k, GL_FLT.off)] s t ∧ Quiet s t)) ∧
  (∀ (s : State) (k : Nat) (high partner : Bool), k < 18 → s.switchOn k high = false →
    Completes (.didtTrip k high partner) s (fun t => t = s) ∧ Completes (.vdsTrip k high partner) s (fun t => t = s)) ∧
  (∀ (s : State) (k : Nat), k < 18 → Completes (.softSinkHandover k) s (fun t =>
    (t.leg k).soft = none ∧ t.pages = s.pages ∧ t.wires = s.wires ∧ Quiet s t)) ∧
  (∀ (s : State) (k : Nat), k < 18 → (s.leg k).latch = .latch → Completes (.latchHoldExpiry k) s (fun t =>
    (t.leg k).latch = .waitEdge ∧ t.bit (pkGl k) GL_STAT_LATCHED = false ∧ t.bit (pkGl k) GL_STAT_WAIT_EDGE = true ∧
    t.fld (pkGl k) GL_STAT_OUT = s.fld (pkGl k) GL_STAT_OUT ∧ Kept [pkGl k] [(pkGl k, GL_STAT.off)] s t ∧ Quiet s t)) ∧
  (∀ (s : State) (k : Nat) (w : BitVec 16), k < 18 → s.legLive k = true → (s.leg k).latch = .waitEdge → s.fld (pkGl k) GL_STAT_OUT = 0 →
    (s.leg k).acts = [] → wordCmd w ≠ 3 →
    Completes (.commandWord k w) s (fun t =>
      (wordEdge w = true → wordCmd w ≠ 0 → (t.leg k).latch = .none ∧ t.bit (pkGl k) GL_STAT_WAIT_EDGE = false ∧
        (t.leg k).acts = [⟨match (if wordCmd w = 2 then (s.leg k).tLoff else (s.leg k).tHoff) with
          | some x => max (s.placed (s.tapNow + wordPlace w)) (x + s.dtTaps k)
          | none => s.placed (s.tapNow + wordPlace w), wordCmd w == 2, true⟩]) ∧
      (wordEdge w = false ∨ wordCmd w = 0 → (t.leg k).latch = .waitEdge ∧ (t.leg k).acts = [] ∧
        t.bit (pkGl k) GL_STAT_WAIT_EDGE = s.bit (pkGl k) GL_STAT_WAIT_EDGE) ∧
      t.fld (pkGl k) GL_STAT_OUT = 0 ∧ Kept [pkGl k] [(pkGl k, GL_STAT.off)] s t ∧ Quiet s t)) ∧
  (∀ (s : State) (k : Nat), k < 18 → s.bit (pkGb (bridgeOf k)) GB_STAT_CUT = false → s.bit (pkGl k) GL_STAT_LEAK_BUSY = false →
    Completes (.readbackMismatch k) s (fun t =>
      (t.leg k).latch = .latch ∧ t.fld (pkGl k) GL_STAT_OUT = 0 ∧ t.bit (pkGl k) GL_FLT_MISMATCH = true ∧
      t.fld (pkGl k) GL_CNT_MISMATCH = min 255 (s.fld (pkGl k) GL_CNT_MISMATCH + 1) ∧ Sends s t (0x0A0 + k) 0x06 1 ∧
      Kept [pkGl k] [(pkGl k, GL_STAT.off), (pkGl k, GL_CNT.off), (pkGl k, GL_FLT.off)] s t ∧ Quiet s t)) ∧
  (∀ (s : State) (k : Nat), k < 18 → s.bit (pkGb (bridgeOf k)) GB_STAT_CUT = true ∨ s.bit (pkGl k) GL_STAT_LEAK_BUSY = true →
    Completes (.readbackMismatch k) s (fun t => t = s)) ∧
  (∀ (s : State) (who : Initiator) (k : Nat) (v : Word), k < 18 → s.st (pkGl k) ≠ .test →
    Completes (.leakageCheck who k v) s (fun t =>
      (s.busy (pkGl k) = true → (t.page (pkGl k)).clampCause = 5#4 ∧
        t.bit (pkGl k) GL_STAT_LEAK_BUSY = s.bit (pkGl k) GL_STAT_LEAK_BUSY ∧ Kept [pkGl k] [] s t) ∧
      (s.busy (pkGl k) = false → bitN v.toNat 0 = true → t.bit (pkGl k) GL_STAT_LEAK_BUSY = true ∧ t.reg (pkGl k) GL_LEAK_LS.off = 0#32 ∧
        t.reg (pkGl k) GL_LEAK_HS.off = (if s.bit (pkGl k) GL_STAT_BST_UV then 8#32 else 0#32) ∧
        Kept [pkGl k] [(pkGl k, GL_STAT.off), (pkGl k, GL_LEAK_HS.off), (pkGl k, GL_LEAK_LS.off)] s t) ∧
      t.legs = s.legs ∧ Quiet s t)) ∧
  (∀ (s : State) (k : Nat) (hs ls : GateTest), k < 18 → s.bit (pkGl k) GL_STAT_LEAK_BUSY = true →
    ls.tchg < 4096 → ls.droop < 1024 → s.bit (pkGl k) GL_LEAK_HS_BST_LOW = false →
    Completes (.leakDone k hs ls) s (fun t =>
      t.bit (pkGl k) GL_STAT_LEAK_BUSY = false ∧ t.fld (pkGl k) GL_LEAK_LS_TCHG = ls.tchg ∧ t.fld (pkGl k) GL_LEAK_LS_DROOP = ls.droop ∧
      t.bit (pkGl k) GL_LEAK_LS_TIMEOUT = ls.timeout ∧ t.bit (pkGl k) GL_LEAK_LS_VALID = true ∧ t.bit (pkGl k) GL_LEAK_HS_VALID = true ∧
      t.bit (pkGl k) GL_LEAK_LS_FAIL = (!ls.timeout && decide (s.fld (pkGl k) GL_LEAK_LIM < ls.droop)) ∧
      bitN (t.page (pkGl k)).irqFlags.toNat 12 = true ∧
      (ls.timeout = true ∨ s.fld (pkGl k) GL_LEAK_LIM < ls.droop ∨ hs.timeout = true → Sends s t (0x0A0 + k) 0x0A 2) ∧
      (ls.timeout = false → hs.timeout = false → ls.droop ≤ s.fld (pkGl k) GL_LEAK_LIM → hs.droop ≤ s.fld (pkGl k) GL_LEAK_LIM →
        t.wires = s.wires) ∧
      Kept [pkGl k] [(pkGl k, GL_STAT.off), (pkGl k, GL_LEAK_HS.off), (pkGl k, GL_LEAK_LS.off)] s t ∧ Quiet s t))

/-- R308: the switch's table, for IS0 to IS17. -/
def Obligations.IsolationSwitches : Prop :=
  ∀ (s : State) (k : Nat) (who : Initiator), k < 18 →
    (s.sw k = 0 → s.st (pkIs k) = .idle → s.keyOk (pkIs k) who = true → s.bit (pkIs k) IS_STAT_PERMIT = true →
      Completes (.isClose who k) s (fun t => t.sw k = 1 ∧ t.st (pkIs k) = .run ∧ Kept [pkIs k] [(pkIs k, IS_STAT.off)] s t ∧ Quiet s t)) ∧
    (s.sw k = 0 → s.st (pkIs k) = .idle → s.keyOk (pkIs k) who = true → s.bit (pkIs k) IS_STAT_PERMIT = false →
      Completes (.isClose who k) s (fun t => t.sw k = 0 ∧ t.st (pkIs k) = .idle ∧ bitN (t.page (pkIs k)).irqFlags.toNat 9 = true ∧
        t.fld (pkIs k) IS_CNT_DENIED = min 255 (s.fld (pkIs k) IS_CNT_DENIED + 1) ∧ Kept [pkIs k] [(pkIs k, IS_CNT.off)] s t ∧ Quiet s t)) ∧
    (s.st (pkIs k) ≠ .test → s.keyOk (pkIs k) who = false →
      Completes (.isClose who k) s (fun t => t.sw k = s.sw k ∧ (t.page (pkIs k)).clampCause = 3#4 ∧ (t.page (pkIs k)).clampOff = 0x044#12 ∧
        Kept [pkIs k] [] s t ∧ Quiet s t)) ∧
    (s.st (pkIs k) ≠ .test →
      Completes (.isOpen who k) s (fun t => t.sw k = (if s.sw k = 2 then 3 else if s.sw k = 1 then 4 else s.sw k) ∧
        Kept [pkIs k] [(pkIs k, IS_STAT.off)] s t ∧ Quiet s t)) ∧
    (s.enable (bridgeOf k) = true → s.bit (pkIs k) IS_STAT_PERMIT = false → s.sw k = 0 → s.st (pkIs k) = .idle →
      Completes (.permitRise k) s (fun t => t.bit (pkIs k) IS_STAT_PERMIT = true ∧
        t.sw k = (if s.bit (pkIs k) IS_CFG_AUTO then 1 else 0) ∧ Kept [pkIs k] [(pkIs k, IS_STAT.off)] s t ∧ Quiet s t)) ∧
    Completes (.permitWithdrawn k) s (fun t => t.bit (pkIs k) IS_STAT_PERMIT = false ∧
      t.sw k = (if s.sw k = 1 ∨ s.sw k = 2 ∨ s.sw k = 3 then 4 else s.sw k) ∧ Kept [pkIs k] [(pkIs k, IS_STAT.off)] s t ∧ Quiet s t) ∧
    (s.sw k = 1 → Completes (.isolationClosed k) s (fun t => t.sw k = 2 ∧ bitN (t.page (pkIs k)).irqFlags.toNat 8 = true ∧
      Kept [pkIs k] [(pkIs k, IS_STAT.off)] s t ∧ Quiet s t)) ∧
    (s.sw k = 1 → Completes (.closeTimeout k) s (fun t => t.sw k = 4 ∧ Sends s t (0x0C0 + k) 0x05 2 ∧
      t.fld (pkIs k) IS_CNT_FAILS = min 255 (s.fld (pkIs k) IS_CNT_FAILS + 1) ∧
      Kept [pkIs k] [(pkIs k, IS_STAT.off), (pkIs k, IS_CNT.off)] s t ∧ Quiet s t)) ∧
    (s.sw k = 3 → Completes (.openTmo k) s (fun t => t.sw k = 4 ∧ bitN (t.page (pkIs k)).irqFlags.toNat 10 = true ∧
      t.fld (pkIs k) IS_CNT_FORCED = min 65535 (s.fld (pkIs k) IS_CNT_FORCED + 1) ∧
      Kept [pkIs k] [(pkIs k, IS_STAT.off), (pkIs k, IS_CNT.off)] s t ∧ Quiet s t)) ∧
    (s.sw k = 4 → s.st (pkIs k) = .run → Completes (.isolationOpened k) s (fun t => t.sw k = 0 ∧ t.st (pkIs k) = .idle ∧
      Kept [pkIs k] [(pkIs k, IS_STAT.off)] s t ∧ Quiet s t)) ∧
    (s.sw k = 4 → Completes (.openTimeout k) s (fun t => t.sw k = 4 ∧ t.pages = s.pages ∧ Sends s t (0x0C0 + k) 0x05 3 ∧ Quiet s t))

/-- R349, R350, R361, R363: ADD, SUB, CMP, NEG, ABS (its C is the model's reading, log entry 45), MULI, AND, OR, XOR, NOT, MIN, MAX,
LDL, LDH, ADDI, CMPI. -/
def Obligations.CoveIntegers : Prop :=
  ∀ (s : State) (k : Nat) (chk : Bool) (w : Nat),
    let d := bitsN w 20 17
    let a := (s.cvCore k chk).get (bitsN w 16 13)
    let b := (s.cvCore k chk).get (bitsN w 12 9)
    let di := bitsN w 23 20
    let x := (s.cvCore k chk).get di
    let im : Int := sgn 16 (bitsN w 15 0)
    let flags (e : Int) (c : Bool) : CvFlags :=
      { cvZNOf 32 (unsgn 32 e) with c := some c, v := some (decide (e < -2147483648 ∨ 2147483647 < e)) }
    let plain (r : Nat) : CvFlags := { cvZNOf 32 r with c := some false, v := some false }
    (∀ p ∈ ([(Instr.registerAdd, 0x40, sgn 32 a + sgn 32 b, decide (4294967296 ≤ a + b)),
        (.registerSub, 0x41, sgn 32 a - sgn 32 b, decide (b ≤ a)),
        (.registerNeg, 0x47, -(sgn 32 a), decide (a = 0)),
        (.registerAbs, 0x48, ((sgn 32 a).natAbs : Int), false),
        (.registerMuli, 0x4B, sgn 32 a * sgn 32 b, false)] : List ((Nat → Bool → Instr) × Nat × Int × Bool)),
      s.cvNext k chk p.2.1 w →
      Completes (p.1 k chk) s (fun t => CvRetires s t k chk [(d, unsgn 32 p.2.2.1)] (flags p.2.2.1 p.2.2.2) [] ∧ SameMemory s t)) ∧
    (s.cvNext k chk 0x42 w → Completes (.registerCmp k chk) s (fun t =>
      CvRetires s t k chk [] (flags (sgn 32 a - sgn 32 b) (decide (b ≤ a))) [] ∧ SameMemory s t)) ∧
    (∀ p ∈ ([(Instr.registerAnd, 0x43, a &&& b), (.registerOr, 0x44, a ||| b), (.registerXor, 0x45, a ^^^ b),
        (.registerNot, 0x46, 4294967295 - a), (.registerMin, 0x49, unsgn 32 (min (sgn 32 a) (sgn 32 b))),
        (.registerMax, 0x4A, unsgn 32 (max (sgn 32 a) (sgn 32 b)))] : List ((Nat → Bool → Instr) × Nat × Nat)),
      s.cvNext k chk p.2.1 w →
      Completes (p.1 k chk) s (fun t => CvRetires s t k chk [(d, p.2.2)] (plain p.2.2) [] ∧ SameMemory s t)) ∧
    (s.cvNext k chk 0x82 w → Completes (.addi k chk) s (fun t =>
      CvRetires s t k chk [(di, unsgn 32 (sgn 32 x + im))] (flags (sgn 32 x + im) (decide (4294967296 ≤ x + unsgn 32 im))) [] ∧
      SameMemory s t)) ∧
    (s.cvNext k chk 0x83 w → Completes (.cmpi k chk) s (fun t =>
      CvRetires s t k chk [] (flags (sgn 32 x - im) (decide (unsgn 32 im ≤ x))) [] ∧ SameMemory s t)) ∧
    (s.cvNext k chk 0x80 w → Completes (.ldl k chk) s (fun t => CvRetires s t k chk [(di, unsgn 32 im)] {} [] ∧ SameMemory s t)) ∧
    (s.cvNext k chk 0x81 w → Completes (.ldh k chk) s (fun t =>
      CvRetires s t k chk [(di, bitsN w 15 0 * 65536 + x % 65536)] {} [] ∧ SameMemory s t))

/-- R353 (Z, N and C by R363). -/
def Obligations.CoveAccumulatorShift : Prop :=
  ∀ (s : State) (k : Nat) (chk : Bool) (w : Nat), s.cvNext k chk 0xA3 w →
    let d := bitsN w 26 24
    let q := sgn 72 ((s.cvCore k chk).get (cvAC + bitsN w 23 21))
    let n := sgn 7 (bitsN w 20 14)
    let r := if n < 0 then unsgn 72 (q / (2 ^ n.natAbs : Nat)) else unsgn 72 (q * (2 ^ n.natAbs : Nat))
    let exact := if n < 0 then sgn 72 r * (2 ^ n.natAbs : Nat) = q else sgn 72 r = q * (2 ^ n.natAbs : Nat)
    Completes (.accumulatorShift k chk) s (fun t =>
      CvRetires s t k chk [(cvAC + d, r), (cvFwd + d, r)] { cvZNOf 72 r with v := some (decide (¬ exact)) } [] ∧ SameMemory s t ∧
      -64 ≤ n ∧ n ≤ 63)

/-- R349, R350, R361, R363: ASR, LSR, LSL, ASRI, LSRI, LSLI. -/
def Obligations.CoveShifts : Prop :=
  ∀ (s : State) (k : Nat) (chk : Bool) (w : Nat) (imm : Bool),
    let d := if imm then bitsN w 23 20 else bitsN w 20 17
    let a := (s.cvCore k chk).get (if imm then d else bitsN w 16 13)
    let n := if imm then bitsN w 4 0 else (s.cvCore k chk).get (bitsN w 12 9) % 64
    let done (t : State) (r : Nat) (c : Bool) : Prop :=
      CvRetires s t k chk [(d, r)] { cvZNOf 32 r with c := some c, v := some false } [] ∧ SameMemory s t
    (s.cvNext k chk (if imm then 0x84 else 0x4C) w → Completes (if imm then .asri k chk else .registerAsr k chk) s (fun t =>
      done t (unsgn 32 (sgn 32 a / (2 ^ n : Nat))) (decide (n ≠ 0 ∧ sgn 32 a / (2 ^ (n - 1) : Nat) % 2 = 1)))) ∧
    (s.cvNext k chk (if imm then 0x85 else 0x4D) w → Completes (if imm then .lsri k chk else .registerLsr k chk) s (fun t =>
      done t (a / 2 ^ n) (decide (n ≠ 0 ∧ a / 2 ^ (n - 1) % 2 = 1)))) ∧
    (s.cvNext k chk (if imm then 0x86 else 0x4E) w → Completes (if imm then .lsli k chk else .registerLsl k chk) s (fun t =>
      done t (a * 2 ^ n % 4294967296) (decide (n ≠ 0 ∧ a * 2 ^ n / 4294967296 % 2 = 1))))

/-- R349, R362, R363: the binary32 rows of class R. The finite results of FRCP and FRSQ are estimates the spec does not give (log
entry 29). -/
def Obligations.CoveFloats : Prop :=
  ∀ (s : State) (k : Nat) (chk : Bool) (w : Nat),
    let d := bitsN w 20 17
    let a := (s.cvCore k chk).get (bitsN w 16 13)
    let b := (s.cvCore k chk).get (bitsN w 12 9)
    let x := (s.cvCore k chk).get d
    (∀ p ∈ ([(Instr.registerFadd, 0x50, (fadd f32 a b).1), (.registerFsub, 0x51, (fsub f32 a b).1), (.registerFmul, 0x52, (fmul f32 a b).1),
        (.registerFma, 0x53, (ffma f32 a b x).1), (.registerFmin, 0x54, (fminmax false a b).1), (.registerFmax, 0x55, (fminmax true a b).1),
        (.registerFabs, 0x56, a % 2147483648), (.registerFneg, 0x57, (a + 2147483648) % 4294967296),
        (.registerFlt, 0x5B, (fofInt f32 (sgn 32 a)).1), (.registerFltq, 0x5D, (fofRat f32 (sgn 32 a) 2147483648).1)] :
          List ((Nat → Bool → Instr) × Nat × Nat)),
      s.cvNext k chk p.2.1 w → Completes (p.1 k chk) s (fun t => CvRetires s t k chk [(d, p.2.2)] {} [] ∧ SameMemory s t)) ∧
    (s.cvNext k chk 0x5A w → Completes (.registerFcmp k chk) s (fun t =>
      CvRetires s t k chk [] { c := some false, v := some (fIsNan f32 a || fIsNan f32 b)
                               z := some (!fIsNan f32 a && !fIsNan f32 b && !flt f32 a b && !flt f32 b a)
                               n := some (!fIsNan f32 a && !fIsNan f32 b && flt f32 a b) } [] ∧ SameMemory s t)) ∧
    (s.cvNext k chk 0x58 w → Completes (.registerFrcp k chk) s (fun t => ∃ r, CvRetires s t k chk [(d, r)] {} [] ∧ SameMemory s t ∧
      (a = 0 → r = 0x7F800000) ∧ (a = 0x80000000 → r = 0xFF800000) ∧ (a = 0x7F800000 → r = 0) ∧ (a = 0xFF800000 → r = 0x80000000) ∧
      (fIsNan f32 a = true → r = 0x7FC00000))) ∧
    (s.cvNext k chk 0x59 w → Completes (.registerFrsq k chk) s (fun t => ∃ r, CvRetires s t k chk [(d, r)] {} [] ∧ SameMemory s t ∧
      (a = 0 → r = 0x7F800000) ∧ (a = 0x80000000 → r = 0xFF800000) ∧ (a = 0x7F800000 → r = 0) ∧
      (fIsNan f32 a = true ∨ 0x80000000 < a → r = 0x7FC00000))) ∧
    (∀ p ∈ ([(Instr.registerFix, 0x5C, (0 : Int)), (.registerFixq, 0x5E, 31)] : List ((Nat → Bool → Instr) × Nat × Int)),
      s.cvNext k chk p.2.1 w → Completes (p.1 k chk) s (fun t => ∃ r, CvRetires s t k chk [(d, r)] {} [] ∧ SameMemory s t ∧
        (fIsNan f32 a = true → r = 0) ∧ (a = 0x7F800000 → r = 0x7FFFFFFF) ∧ (a = 0xFF800000 → r = 0x80000000) ∧
        (fIsFinite f32 a = true → r = unsgn 32 (max (-2147483648) (min (ftoIntScaled f32 a p.2.2) 2147483647)))))

/-- R345-R347, R357, R359, R360, R363, R365: the sixteen POPs, with moves in memory (R319). -/
def Obligations.CoveParallel : Prop :=
  ∀ (s : State) (k : Nat) (chk : Bool) (w pop : Nat), s.memOk → s.cvNext k chk pop w →
    let c := s.cvCore k chk
    let f1 := cvF1 w
    let a := c.get (cvF2 w)
    let b := c.get (cvF3 w)
    let ax := c.get (cvA + (cvX w).a)
    let ay := c.get (cvA + (cvY w).a)
    let upd := (if (cvX w).op ≠ 0 ∧ (cvX w).step = true then [cvA + (cvX w).a] else []) ++
      (if (cvY w).op ≠ 0 ∧ (cvY w).step = true then [cvA + (cvY w).a] else [])
    let moves (t : State) : Prop :=
      ((cvX w).op = 1 → CvLoads s t k chk (cvX w).d (s.cvPeek k chk false ax).toNat) ∧
      ((cvY w).op = 1 → CvLoads s t k chk (cvY w).d (s.cvPeek k chk true ay).toNat) ∧
      ((cvX w).op = 2 → mgetN (t.cvMem chk) (cvXAddr k ax) 4 = c.get (cvX w).d) ∧
      ((cvY w).op = 2 → mgetN (t.cvMem chk) (cvYAddr k ay) 4 = c.get (cvY w).d) ∧
      (∀ m, ((cvX w).op = 2 → m < cvXAddr k ax ∨ cvXAddr k ax + 4 ≤ m) → ((cvY w).op = 2 → m < cvYAddr k ay ∨ cvYAddr k ay + 4 ≤ m) →
        mget (t.cvMem chk) m = mget (s.cvMem chk) m) ∧ t.cvMem (!chk) = s.cvMem (!chk) ∧
      (c.land = [] → (cvX w).op ≠ 0 → (cvX w).step = true → (t.cvCore k chk).get (cvA + (cvX w).a) =
        cvUpdate ax (c.get (cvBase + (cvX w).a)) (c.get (cvM + (cvX w).a)) (cvStep (c.get (cvM + (cvX w).a))))
    let acc (e : Int) (t : State) : Prop := CvRetires s t k chk [(cvFwd + f1, unsgn 72 e)]
      { cvZNOf 72 (unsgn 72 e) with v := some (decide (sgn 72 (unsgn 72 e) ≠ e)) } upd ∧
      CvLoads s t k chk (cvAC + f1) (unsgn 72 e) ∧ moves t
    let f : Int := sgn 72 (c.get (cvFwd + f1))
    let prod : Int := 2 * (sgn 32 a * sgn 32 b)
    let val (r : Nat) (t : State) : Prop := CvRetires s t k chk [(f1, r)] {} upd ∧ moves t
    let int (e : Int) (cc : Bool) (t : State) : Prop := CvRetires s t k chk [(f1, unsgn 32 e)]
      { cvZNOf 32 (unsgn 32 e) with c := some cc, v := some (decide (e < -2147483648 ∨ 2147483647 < e)) } upd ∧ moves t
    let lgc (r : Nat) (t : State) : Prop :=
      CvRetires s t k chk [(f1, r)] { cvZNOf 32 r with c := some false, v := some false } upd ∧ moves t
    let atOnce (e : Int) (t : State) : Prop := CvRetires s t k chk [(cvAC + f1, unsgn 72 e), (cvFwd + f1, unsgn 72 e)]
      { cvZNOf 72 (unsgn 72 e) with v := some (decide (sgn 72 (unsgn 72 e) ≠ e)) } upd ∧ moves t
    let v : Int := sgn 72 (c.get (cvAC + cvF2 w))
    let q : Int := if cvF3 w % 2 = 1 then v / 4294967296 else rneDivI v 4294967296
    let out := decide (q < -2147483648 ∨ 2147483647 < q)
    ((cvX w).op ≠ 0 → ax < 0x8000) → ((cvY w).op ≠ 0 → ay < 0x8000) →
    (pop = 0 → Completes (.parallelNop k chk) s (fun t => CvRetires s t k chk [] {} upd ∧ moves t)) ∧
    (pop = 1 → Completes (.parallelMac k chk) s (acc (f + prod))) ∧ (pop = 2 → Completes (.parallelMsu k chk) s (acc (f - prod))) ∧
    (pop = 3 → Completes (.parallelMpy k chk) s (acc prod)) ∧
    (pop = 4 → Completes (.parallelAdd k chk) s (int (sgn 32 a + sgn 32 b) (decide (4294967296 ≤ a + b)))) ∧
    (pop = 5 → Completes (.parallelSub k chk) s (int (sgn 32 a - sgn 32 b) (decide (b ≤ a)))) ∧
    (pop = 6 → Completes (.parallelAnd k chk) s (lgc (a &&& b))) ∧ (pop = 7 → Completes (.parallelOr k chk) s (lgc (a ||| b))) ∧
    (pop = 8 → Completes (.parallelXor k chk) s (lgc (a ^^^ b))) ∧
    (pop = 9 → Completes (.parallelFadd k chk) s (val (fadd f32 a b).1)) ∧
    (pop = 10 → Completes (.parallelFsub k chk) s (val (fsub f32 a b).1)) ∧
    (pop = 11 → Completes (.parallelFmul k chk) s (val (fmul f32 a b).1)) ∧
    (pop = 12 → Completes (.parallelFma k chk) s (val (ffma f32 a b (c.get f1)).1)) ∧
    (pop = 13 → Completes (.parallelAdda k chk) s (atOnce (if cvF3 w = 1 then sgn 72 (c.get (cvAC + f1)) - v else sgn 72 (c.get (cvAC + f1)) + v))) ∧
    (pop = 14 → Completes (.parallelRnd k chk) s (fun t =>
      let r := if out = true ∧ cvF3 w / 2 % 2 = 0 then (if q < 0 then 0x80000000 else 0x7FFFFFFF) else unsgn 32 q
      CvRetires s t k chk [(f1, r)] { cvZNOf 32 r with v := some out, sl := out && decide (cvF3 w / 2 % 2 = 0) } upd ∧ moves t)) ∧
    (pop = 15 → Completes (.parallelClr k chk) s (atOnce 0))

/-- R325, R328, R329, R350-R352, R354-R358. -/
def Obligations.CoveMovesAndFlow : Prop :=
  (∀ (s : State) (k : Nat) (chk : Bool) (w : Nat),
    let c := s.cvCore k chk
    let n := bitsN w 23 21
    let im := bitsN w 15 0
    let flow (tg : Nat) (act : CvAct) (t : State) : Prop := CvRetires s t k chk [] {} [] ∧ SameMemory s t ∧
      (t.cvCore k chk).delay = some ⟨2, tg, if cvCond (c.get cvSR) (bitsN w 23 20) then act else .none⟩
    (s.cvNext k chk 0x90 w → Completes (.lda k chk) s (fun t => CvRetires s t k chk [] {} [] ∧ SameMemory s t ∧
      CvLoads s t k chk (cvA + n) im ∧ CvLoads s t k chk (cvBase + n) im)) ∧
    (s.cvNext k chk 0x91 w → c.land = [] → Completes (.inca k chk) s (fun t => CvRetires s t k chk [] {} [] ∧ SameMemory s t ∧
      CvLoads s t k chk (cvA + n) ((c.get (cvA + n) + im) % 65536))) ∧
    (s.cvNext k chk 0x92 w → c.land = [] → Completes (.ldml k chk) s (fun t => CvRetires s t k chk [] {} [] ∧ SameMemory s t ∧
      CvLoads s t k chk (cvM + n) (c.get (cvM + n) / 65536 * 65536 + im))) ∧
    (s.cvNext k chk 0x93 w → c.land = [] → Completes (.ldmh k chk) s (fun t => CvRetires s t k chk [] {} [] ∧ SameMemory s t ∧
      CvLoads s t k chk (cvM + n) (im * 65536 + c.get (cvM + n) % 65536))) ∧
    (s.cvNext k chk 0xA0 w → Completes (.classMMove k chk) s (fun t =>
      let dst := bitsN w 26 21
      let src := bitsN w 20 15
      SameMemory s t ∧
      (dst < 16 → src < 16 → CvRetires s t k chk [(dst, c.get src)] {} []) ∧
      (dst < 16 → cvAC ≤ src → src < cvA → CvRetires s t k chk [(dst, c.get src / 4294967296 % 4294967296)] {} []) ∧
      (cvAC ≤ dst → dst < cvA → src < 16 → CvRetires s t k chk [(dst, unsgn 72 (sgn 32 (c.get src) * 4294967296)),
        (dst - cvAC + cvFwd, unsgn 72 (sgn 32 (c.get src) * 4294967296))] {} []) ∧
      (cvAC ≤ dst → dst < cvA → cvAC ≤ src → src < cvA → CvRetires s t k chk [(dst, c.get src), (dst - cvAC + cvFwd, c.get src)] {} []) ∧
      (cvA ≤ dst → dst < cvM → src < 16 → CvRetires s t k chk [] {} [] ∧ CvLoads s t k chk dst (c.get src % 65536) ∧
        CvLoads s t k chk (dst - cvA + cvBase) (c.get src % 65536)) ∧
      (cvM ≤ dst → dst < cvSR → src < 16 → CvRetires s t k chk [] {} [] ∧ CvLoads s t k chk dst (c.get src)))) ∧
    (s.cvNext k chk 0xA1 w → im < 0x8000 → Completes (.directLoad k chk) s (fun t => CvRetires s t k chk [] {} [] ∧ SameMemory s t ∧
      CvLoads s t k chk (bitsN w 23 20) (s.cvPeek k chk (bitN w 26) im).toNat)) ∧
    (s.memOk → s.cvNext k chk 0xA2 w → im < 0x8000 → Completes (.directStore k chk) s (fun t => CvRetires s t k chk [] {} [] ∧
      mgetN (t.cvMem chk) (cvAddr k (bitN w 26) im) 4 = c.get (bitsN w 23 20) ∧ t.cvMem (!chk) = s.cvMem (!chk) ∧
      (∀ m, m < cvAddr k (bitN w 26) im ∨ cvAddr k (bitN w 26) im + 4 ≤ m → mget (t.cvMem chk) m = mget (s.cvMem chk) m))) ∧
    (s.cvNext k chk 0xB0 w → Completes (.bra k chk) s (flow im .jump)) ∧
    (s.cvNext k chk 0xB1 w → Completes (.call k chk) s (flow im (.call ((c.pc + 3) % 65536)))) ∧
    (s.cvNext k chk 0xB2 w → Completes (.ret k chk) s (flow (c.get cvLR) .jump)) ∧
    (s.cvNext k chk 0xB3 w → Completes (.reti k chk) s (fun t => CvRetires s t k chk [] {} [] ∧ SameMemory s t ∧
      (t.cvCore k chk).delay = some ⟨2, c.get cvILR, .reti (c.get cvISR)⟩)) ∧
    (s.cvNext k chk 0xB4 w → Completes (.retf k chk) s (fun t => CvRetires s t k chk [] {} [] ∧ SameMemory s t ∧
      (t.cvCore k chk).delay = some ⟨2, c.get cvFLR, .retf (c.get cvFSR)⟩)) ∧
    (s.cvNext k chk 0xB8 w → Completes (.rep k chk) s (fun t => CvRetires s t k chk [] {} [] ∧ SameMemory s t ∧
      (t.cvCore k chk).rep = bitsN w 9 0 + 1))) ∧
  (∀ (s : State) (k : Nat) (chk : Bool) (w tg : Nat) (act : CvAct), (s.cvCore k chk).delay = some ⟨1, tg, act⟩ →
    { s with cv := tput s.cv k (if chk then { s.cove k with chk := { s.cvCore k chk with delay := none } }
      else { s.cove k with main := { s.cvCore k chk with delay := none } }) }.cvNext k chk 0 w →
    w = 0 → (s.cvCore k chk).land = [] → (s.cvCore k chk).rep ≤ 1 →
    Completes (.parallelNop k chk) s (fun t => SameMemory s t ∧ (t.cvCore k chk).delay = none ∧
      (act = .none → (t.cvCore k chk).pc = ((s.cvCore k chk).pc + 1) % 65536) ∧ (act ≠ .none → (t.cvCore k chk).pc = tg) ∧
      (∀ lr, act = .call lr → (t.cvCore k chk).get cvLR = lr % 65536) ∧
      (∀ sr, act = .reti sr → (t.cvCore k chk).get cvSR = (sr &&& 0x231F)) ∧
      (∀ sr, act = .retf sr → (t.cvCore k chk).get cvSR = (sr &&& 0x131F) ∧ (t.cvCore k chk).bank = false))) ∧
  (∀ (s : State) (k : Nat) (chk : Bool) (w : Nat), s.memOk → s.cvNext k chk 0xB9 w →
    let c := s.cvCore k chk
    let xa := bitsN w 22 20
    let ya := bitsN w 19 17
    let a := c.get (cvA + xa)
    let b := c.get (cvA + ya)
    let nx := cvUpdate a (c.get (cvBase + xa)) (c.get (cvM + xa)) 1
    let x := s.cvPeek k chk false a
    let p : Int := 2 * (sgn 32 x.toNat * sgn 32 (s.cvPeek k chk true b).toNat)
    let f : Int := sgn 72 (c.get (cvFwd + bitsN w 26 24))
    let r := unsgn 72 (if bitN w 23 then f - p else f + p)
    a < 0x8000 → b < 0x8000 → nx < 0x8000 →
    Completes (.ftap k chk) s (fun t =>
      CvRetires s t k chk [(cvFwd + bitsN w 26 24, r)] {} [cvA + xa, cvA + ya] ∧ CvLoads s t k chk (cvAC + bitsN w 26 24) r ∧
      mgetN (t.cvMem chk) (cvXAddr k nx) 4 = x.toNat ∧
      (∀ m, m < cvXAddr k nx ∨ cvXAddr k nx + 4 ≤ m → mget (t.cvMem chk) m = mget (s.cvMem chk) m) ∧ t.cvMem (!chk) = s.cvMem (!chk) ∧
      (c.land = [] → (t.cvCore k chk).get (cvA + xa) = cvUpdate a (c.get (cvBase + xa)) (c.get (cvM + xa)) (-1)) ∧
      (c.land = [] → bitsN w 16 15 = 0 → (t.cvCore k chk).get (cvA + ya) = b) ∧
      (c.land = [] → bitsN w 16 15 = 3 → (t.cvCore k chk).get (cvA + ya) =
        cvUpdate b (c.get (cvBase + ya)) (c.get (cvM + ya)) (cvStep (c.get (cvM + ya)))))) ∧
  (∀ (s : State) (k : Nat), k < 4 → s.cvReady k false = true → cvLegal (s.cvWord k false) = false →
    Completes (.illegalInstruction k false) s (fun t =>
      t.cvCore k false = { s.cvCore k false with exc := some (1, (s.cvCore k false).pc) } ∧ t.pages = s.pages ∧ SameMemory s t)) ∧
  (∀ (s : State) (k : Nat) (cause pc : Nat), k < 4 → s.cvReady k true = true → cvLegal (s.cvWord k true) = false →
    (s.cove k).main.exc = some (cause, pc) → (s.cvCore k true).retired = (s.cove k).main.retired →
    Completes (.illegalInstruction k true) s (fun t =>
      t.st (pkCv k) = .fault ∧ t.reg (pkCv k) CV_EXC.off = BitVec.ofNat 32 (cause * 16777216 + pc) ∧
      bitN (t.page (pkCv k)).irqFlags.toNat 9 = true ∧ Sends s t (0x100 + 16 * k) 0x06 2 ∧ SameMemory s t))

/-- R319, R320, R323, R330, R331, R334-R337, R339. -/
def Obligations.CovePairs : Prop :=
  (∀ (s : State) (who : Initiator) (k : Nat), k < 4 →
    (s.st (pkCv k) = .idle → Completes (.coveStart who k) s (fun t => t.st (pkCv k) = .run ∧
      (∀ chk n, (t.cvCore k chk).get n = 0 ∧ (t.cvCore k chk).pc = s.fld (pkCv k) CV_CFG_ENTRY ∧ (t.cvCore k chk).retired = 0) ∧
      Kept [pkCv k] [] s t ∧ SameMemory s t)) ∧
    (s.st (pkCv k) ≠ .idle → Completes (.coveStart who k) s (fun t => t.st (pkCv k) = s.st (pkCv k) ∧ t.cv = s.cv ∧
      Kept [pkCv k] [] s t ∧ SameMemory s t)) ∧
    (s.st (pkCv k) ≠ .test → Completes (.swi who k) s (fun t => (t.cove k).iflag = (s.cove k).iflag ||| 0x400#32 ∧
      (t.cove k).main = (s.cove k).main ∧ (t.cove k).chk = (s.cove k).chk ∧ Kept [pkCv k] [] s t ∧ SameMemory s t))) ∧
  (∀ (s : State) (k : Nat) (v : Word), k < 4 → s.busy (pkCv k) = true → (s.cove k).main.closeNow = false → (s.cove k).closeReq = false →
    Completes (.timerLoad k false v) s (fun t => (t.cove k).timerLoad = v ∧ (t.cove k).timerCnt = v.toNat ∧
      (t.cove k).ioq = (s.cove k).ioq ++ [(0x8023, v)] ∧ (t.cove k).chk = (s.cove k).chk ∧ t.pages = s.pages ∧ SameMemory s t) ∧
    Completes (.iflagWrite k false v) s (fun t => (t.cove k).iflag = ((s.cove k).iflag &&& ~~~ v) ∧
      (t.cove k).ioq = (s.cove k).ioq ++ [(0x8030, v)] ∧ (t.cove k).chk = (s.cove k).chk ∧ t.pages = s.pages ∧ SameMemory s t) ∧
    (∀ n, n < 16 → Completes (.outWrite k n v) s (fun t => (t.cove k).hold = (s.cove k).hold ++ [(0x8040 + n, v)] ∧
      (t.cove k).chk = (s.cove k).chk ∧ t.pages = s.pages ∧ SameMemory s t)) ∧
    Completes (.chkpt k false) s (fun t => (t.cove k).sigs.length = (s.cove k).sigs.length + 1 ∧ (t.cove k).main.win = 0 ∧
      (t.cove k).main.sig = 0xFFFFFFFF#32 ∧ (t.cove k).main.halted = ((s.cove k).haltReq || s.st (pkCv k) == .drain) ∧
      t.pages = s.pages ∧ SameMemory s t) ∧
    Completes (.haltreq k false) s (fun t => (t.cove k).sigs.length = (s.cove k).sigs.length + 1 ∧ (t.cove k).main.halted = true ∧
      (t.cove k).haltReq = true ∧ t.pages = s.pages ∧ SameMemory s t)) ∧
  (∀ (s : State) (k : Nat), k < 4 → s.busy (pkCv k) = true → (s.cove k).timerLoad ≠ 0#32 →
    Completes (.coveTimer k) s (fun t => (t.cove k).timerCnt = (s.cove k).timerLoad.toNat ∧
      (t.cove k).iflag = (s.cove k).iflag ||| 0x100#32 ∧ t.pages = s.pages ∧ SameMemory s t)) ∧
  (∀ (s : State) (k a : Nat) (v x : Word) (r : List (Nat × Word)), k < 4 → s.busy (pkCv k) = true → (s.cove k).hold = (a, x) :: r →
    (s.cove k).chk.closeNow = false → cvHeld a = true →
    (x = v → 0x8040 ≤ a → a ≤ 0x804F → Completes (.coveRelease k a v) s (fun t => (t.cove k).hold = r ∧
      t.reg (pkCv k) (0x100 + 4 * (a - 0x8040)) = v ∧ (t.cove k).main = (s.cove k).main ∧ t.st (pkCv k) = s.st (pkCv k) ∧
      Kept [pkCv k] [(pkCv k, 0x100 + 4 * (a - 0x8040))] s t ∧ SameMemory s t)) ∧
    (x ≠ v → Completes (.coveRelease k a v) s (fun t => (t.cove k).hold = [] ∧ t.st (pkCv k) = .fault ∧
      bitsN (t.reg (pkCv k) CV_DIVERGE.off).toNat 31 24 = 1 ∧ bitN (t.page (pkCv k)).irqFlags.toNat 10 = true ∧
      Sends s t (0x101 + 16 * k) 0x03 2 ∧ SameMemory s t)) ∧
    (∀ wr : Bool, a = 0x8052 → x = (if wr then 2#32 else 1#32) →
      Completes (if wr then .farWrite k else .farRead k) s (fun t => (t.cove k).hold = r ∧
        ((s.cove k).far = none → (t.cove k).far = some (wr, (s.cove k).farAddr, (s.cove k).farWdata) ∧ (t.cove k).farErr = (s.cove k).farErr) ∧
        ((s.cove k).far ≠ none → (t.cove k).far = (s.cove k).far ∧ (t.cove k).farErr = true) ∧ t.pages = s.pages ∧ SameMemory s t))) ∧
  (∀ (s : State) (k : Nat) (a d w : Word), k < 4 → (s.cove k).far = some (false, a, d) →
    ((s.busRead (.cv k) a.toNat 4).2 = .ok w → Completes (.farDone k) s (fun t => (t.cove k).far = none ∧ (t.cove k).farRdata = w ∧
      (t.cove k).farErr = false ∧ bitN (t.cove k).iflag.toNat 9 = true ∧ SameMemory s t)) ∧
    ((s.busRead (.cv k) a.toNat 4).2 = .err → Completes (.farDone k) s (fun t => (t.cove k).far = none ∧
      (t.cove k).farErr = true ∧ bitN (t.cove k).iflag.toNat 9 = true ∧ SameMemory s t))) ∧
  (∀ (s : State) (k : Nat), k < 4 → s.busy (pkCv k) = true →
    (s.fld (pkCv k) CV_CHK_WIN ≤ (s.cove k).main.win → Completes (.coveWindowClose k false) s (fun t =>
      (t.cove k).sigs = (s.cove k).sigs ++ [((s.cove k).main.retired, (s.cove k).main.sig ^^^ 0xFFFFFFFF#32)] ∧ (t.cove k).main.win = 0 ∧
      t.pages = s.pages ∧ SameMemory s t)) ∧
    (∀ (x y : Nat × Word) (q r : List (Nat × Word)), (s.cove k).sigs = x :: q → (s.cove k).ckSigs = y :: r →
      (x.2 = y.2 → (s.cove k).main.halted = false → Completes (.coveSignatureCompare k) s (fun t => (t.cove k).sigs = q ∧ (t.cove k).ckSigs = r ∧
        t.reg (pkCv k) CV_WINDOWS.off = s.reg (pkCv k) CV_WINDOWS.off + 1#32 ∧ t.st (pkCv k) = s.st (pkCv k) ∧
        Kept [pkCv k] [(pkCv k, CV_WINDOWS.off)] s t ∧ SameMemory s t)) ∧
      (x.2 = y.2 → (s.cove k).main.halted = true → q = [] → s.st (pkCv k) = .run → Completes (.coveSignatureCompare k) s (fun t =>
        t.st (pkCv k) = .idle ∧ t.bit (pkCv k) CV_STAT_HALTED = true ∧ bitN (t.page (pkCv k)).irqFlags.toNat 8 = true ∧ SameMemory s t)) ∧
      (x.2 ≠ y.2 → Completes (.coveSignatureCompare k) s (fun t => t.st (pkCv k) = .fault ∧ Sends s t (0x102 + 16 * k) 0x04 2 ∧
        bitsN (t.reg (pkCv k) CV_DIVERGE.off).toNat 31 24 = 3 ∧ SameMemory s t)))) ∧
  (∀ (s : State) (k : Nat), k < 4 → s.st (pkCv k) = .drain → (s.cove k).main.halted = false →
    Completes (.coveDrainTimeout k) s (fun t => t.pages = s.pages ∧ SameMemory s t ∧
      ((s.cove k).main.rep = 0 → (t.cove k).main.halted = true ∧ (t.cove k).sigs.length = (s.cove k).sigs.length + 1) ∧
      ((s.cove k).main.rep ≠ 0 → (t.cove k).closeReq = true ∧ (t.cove k).main = (s.cove k).main))) ∧
  (∀ (s : State) (k : Nat) (fast : Bool), k < 4 → s.cvBoundary k false = true →
    (if fast then s.cvFastPending k else s.cvNormalPending k) = true → (∀ l ∈ (s.cvCore k false).land, l.key ≠ cvSR) →
    Completes (if fast then .fastInterrupt k false else .normalInterrupt k false) s (fun t =>
      let sr := (s.cvCore k false).get cvSR
      (t.cvCore k false).pc = (if fast then 0x20 else 0x10) ∧ (t.cvCore k false).bank = ((s.cvCore k false).bank || fast) ∧
      (t.cvCore k false).get (if fast then cvFLR else cvILR) = (s.cvCore k false).pc % 65536 ∧
      (t.cvCore k false).get (if fast then cvFSR else cvISR) = sr ∧
      bitN ((t.cvCore k false).get cvSR) (if fast then 9 else 8) = false ∧ bitN ((t.cvCore k false).get cvSR) (if fast then 13 else 12) = true ∧
      (t.cove k).echo = (s.cove k).echo ++ [.accept fast (s.cvCore k false).retired] ∧ (t.cove k).iflag = (s.cove k).iflag ∧
      t.pages = s.pages ∧ SameMemory s t)) ∧
  (∀ (s : State) (k a : Nat), k < 4 → s.memOk → (s.cove k).copying = true → (s.page (pkCv k)).en = true →
    Completes (.coveCopyDone k []) s (fun t => t.st (pkCv k) = .idle ∧ (t.cove k).copying = false ∧
      (cvPAddr k 0 ≤ a → a < cvPAddr k 0 + 0x80000 → mget t.ckMem a = mget s.mem a) ∧
      (a < cvPAddr k 0 ∨ cvPAddr k 0 + 0x80000 ≤ a → mget t.ckMem a = mget s.ckMem a) ∧ ∀ m, mget t.mem m = mget s.mem m))

/-- R368, R369, R371, R373, R377-R379, R383, R384. -/
def Obligations.AppMainCore : Prop :=
  (∀ (s : State) (k r : Nat) (v next : Word) (fl : BitVec 5), r < 64 → s.acNext k (.plain r v fl) →
    Completes (.retiredInstruction k next (.plain r v fl)) s (fun t => AcRetires s t k (.plain r v fl) v next ∧ SameMemory s t ∧
      (1 ≤ r → (t.appOf k).main.rd r = v) ∧ (t.appOf k).main.rd 64 = ((s.appOf k).main.rd 64 ||| fl.setWidth 32) ∧
      (∀ q, q ≠ r → q ≠ 64 → (t.appOf k).main.rd q = (s.appOf k).main.rd q))) ∧
  (∀ (s : State) (k r n : Nat) (a next : Word) (sext : Bool), 1 ≤ r → r < 64 → s.acNext k (.load a n sext r) → inDtcm k a.toNat = true →
    n = 1 ∨ n = 2 ∨ n = 4 → (s.inQuay k a = true → (s.appOf k).quay = []) →
    Completes (.retiredInstruction k next (.load a n sext r)) s (fun t =>
      let m := mgetN s.mem a.toNat n
      let v : Word := if sext then BitVec.ofInt 32 (sgn (8 * n) m) else BitVec.ofNat 32 m
      AcRetires s t k (.load a n sext r) v next ∧ (t.appOf k).main.rd r = v ∧ SameMemory s t ∧
      ∀ q, q ≠ r → (t.appOf k).main.rd q = (s.appOf k).main.rd q)) ∧
  (∀ (s : State) (k n : Nat) (a d next : Word), s.memOk → s.acNext k (.store a n d) → inDtcm k a.toNat = true →
    n = 1 ∨ n = 2 ∨ n = 4 → s.inQuay k a = false →
    Completes (.retiredInstruction k next (.store a n d)) s (fun t => AcRetires s t k (.store a n d) 0#32 next ∧
      mgetN t.mem a.toNat n = d.toNat % 2 ^ (8 * n) ∧ t.ckMem = s.ckMem ∧
      (∀ b, b < a.toNat ∨ a.toNat + n ≤ b → mget t.mem b = mget s.mem b) ∧
      ∀ q, (t.appOf k).main.rd q = (s.appOf k).main.rd q)) ∧
  (∀ (s : State) (k r : Nat) (a d next : Word) (op : AmoOp), s.memOk → inDtcm k a.toNat = true → 1 ≤ r → r < 32 →
    (s.acNext k (.lr a r) → Completes (.retiredInstruction k next (.lr a r)) s (fun t =>
      (t.appOf k).reserved = some a.toNat ∧ (t.appOf k).main.rd r = s.m32 a.toNat ∧ SameMemory s t ∧
      AcRetires s t k (.lr a r) (s.m32 a.toNat) next)) ∧
    (s.acNext k (.sc a d r) → Completes (.retiredInstruction k next (.sc a d r)) s (fun t => (t.appOf k).reserved = none ∧
      ((s.appOf k).reserved = some a.toNat → (t.appOf k).main.rd r = 0#32 ∧ t.m32 a.toNat = d ∧
        (∀ b, b < a.toNat ∨ a.toNat + 4 ≤ b → mget t.mem b = mget s.mem b)) ∧
      ((s.appOf k).reserved ≠ some a.toNat → (t.appOf k).main.rd r = 1#32 ∧ SameMemory s t))) ∧
    (s.acNext k (.amo op a d r) → Completes (.retiredInstruction k next (.amo op a d r)) s (fun t =>
      (t.appOf k).main.rd r = s.m32 a.toNat ∧ t.m32 a.toNat = amoResult op (s.m32 a.toNat) d ∧
      (∀ b, b < a.toNat ∨ a.toNat + 4 ≤ b → mget t.mem b = mget s.mem b)))) ∧
  (∀ (s : State) (k : Nat) (act : AppAct) (cause tval next : Word), k < 4 → (s.appOf k).halted = false → s.mainReady k = true →
    (s.appOf k).main.win < 256 → (s.inQuay k (s.appOf k).main.pc = true → (s.appOf k).quay = []) →
    s.acExcept k (s.appOf k).main act = some (cause, tval) → cause.getLsbD 31 = false →
    Completes (.retiredInstruction k next act) s (fun t =>
      let c := (s.appOf k).main
      let d := (t.appOf k).main
      d.csr 0x341 = c.pc ∧ d.csr 0x342 = cause ∧ d.csr 0x343 = tval ∧ d.machine = true ∧ d.pc = (c.csr 0x305 &&& 0xFFFFFFFC#32) ∧
      (d.csr 0x300).getLsbD 3 = false ∧ (d.csr 0x300).getLsbD 7 = (c.csr 0x300).getLsbD 3 ∧ d.retired = c.retired ∧
      (∀ q, d.rd q = c.rd q) ∧ (t.appOf k).fifo.length = (s.appOf k).fifo.length + 1 ∧ t.pages = s.pages ∧ SameMemory s t)) ∧
  (∀ (s : State) (k n : Nat) (a d next : Word), s.acNext k (.store a n d) → s.inQuay k a = true →
    ((s.appOf k).quay.length < 32 → Completes (.quayStore k next a n d) s (fun t =>
      (t.appOf k).quay.length = (s.appOf k).quay.length + 1 ∧ t.fld (pkQg k) QG_STAT_OCC = (s.appOf k).quay.length + 1 ∧
      (t.appOf k).main.retired = (s.appOf k).main.retired + 1 ∧ (t.appOf k).main.pc = next ∧
      Kept [pkAc k, pkQg k] [(pkAc k, AC_STAT.off), (pkQg k, QG_STAT.off)] s t ∧ SameMemory s t)) ∧
    ((s.appOf k).quay.length = 32 → (s.appOf k).fullStall = false → (s.appOf k).quay.head?.map (fun e => e.fenced) = some false →
      Completes (.quayStore k next a n d) s (fun t =>
        (t.appOf k).quay = (s.appOf k).quay ∧ (t.appOf k).main = (s.appOf k).main ∧ t.bit (pkAc k) AC_STAT_QSTALL = true ∧
        t.fld (pkQg k) QG_CNT_STALLS = min 65535 (s.fld (pkQg k) QG_CNT_STALLS + 1) ∧ t.bit (pkQg k) QG_STAT_FULL_SEEN = true ∧
        SameMemory s t))) ∧
  (∀ (s : State) (k : Nat) (next : Word), s.acNext k (.plain 0 0#32 0#5) →
    ((s.appOf k).quay ≠ [] → Completes (.fence k next true) s (fun t => (t.appOf k) = (s.appOf k) ∧
      t.bit (pkAc k) AC_STAT_QSTALL = true ∧ SameMemory s t)) ∧
    ((s.appOf k).quay = [] → Completes (.fence k next true) s (fun t => AcRetires s t k (.plain 0 0#32 0#5) 0#32 next ∧ SameMemory s t)) ∧
    Completes (.fence k next false) s (fun t => AcRetires s t k (.plain 0 0#32 0#5) 0#32 next ∧ SameMemory s t)) ∧
  (∀ (s : State) (k r : Nat) (next tag : Word), 1 ≤ r → r < 32 → s.acNext k (.csr 0x7C0 r (some tag)) →
    Completes (.kzchkpt k next r tag) s (fun t =>
      (t.appOf k).main.retired = (s.appOf k).main.retired + 1 ∧ (t.appOf k).main.win = 0 ∧
      (t.appOf k).sigs.length = (s.appOf k).sigs.length + 1 ∧ (t.appOf k).hashes.length = (s.appOf k).hashes.length + 1 ∧
      (t.appOf k).main.rd r = (s.appOf k).main.ckpts ∧ (t.appOf k).main.ckpts = (s.appOf k).main.ckpts + 1#32 ∧
      t.bit (pkAc k) AC_STAT_CHKPT_BUSY = true ∧ SameMemory s t))

/-- R370, R373-R375, R377, R381-R386, R388, R390. -/
def Obligations.AppChecker : Prop :=
  (∀ (s : State) (k r : Nat) (v next fetch : Word) (e : AppEntry) (rest : List AppEntry) (path : PathFault), 1 ≤ r → r < 64 →
    s.ckNext k e rest fetch (.plain r v 0#5) → e.quay = false →
    (e.seq = (s.appOf k).chk.retired % 128 → e.fetch = fetch → path = .none → (∃ w fl, e.act = .plain r w fl) →
      Completes (.checkerRetire k fetch next (.plain r v 0#5) path) s (fun t => (t.appOf k).fifo = rest ∧ (t.appOf k).chk.rd r = v ∧
        (t.appOf k).chk.retired = (s.appOf k).chk.retired + 1 ∧ (t.appOf k).chk.pc = next ∧ (t.appOf k).main = (s.appOf k).main ∧
        t.pages = s.pages ∧ t.wires = s.wires ∧ SameMemory s t)) ∧
    (e.seq = (s.appOf k).chk.retired % 128 → e.fetch ≠ fetch → path = .none →
      Completes (.checkerRetire k fetch next (.plain r v 0#5) path) s (fun t => AcFaulted s t k 1 0x03 0)) ∧
    (e.seq ≠ (s.appOf k).chk.retired % 128 → path = .none →
      Completes (.checkerRetire k fetch next (.plain r v 0#5) path) s (fun t => AcFaulted s t k 5 0x03 0)) ∧
    (path = .double → Completes (.checkerRetire k fetch next (.plain r v 0#5) path) s (fun t => AcFaulted s t k 10 0x02 2)) ∧
    (path = .disagree → Completes (.checkerRetire k fetch next (.plain r v 0#5) path) s (fun t => AcFaulted s t k 9 0x13 2)) ∧
    (e.seq = (s.appOf k).chk.retired % 128 → e.fetch = fetch → path = .none → (∃ q w fl, q ≠ r ∧ e.act = .plain q w fl) →
      Completes (.checkerRetire k fetch next (.plain r v 0#5) path) s (fun t => AcFaulted s t k 1 0x03 0))) ∧
  (∀ (s : State) (k r n : Nat) (a next fetch : Word) (e : AppEntry) (rest : List AppEntry) (sext : Bool), 1 ≤ r → r < 64 →
    s.ckNext k e rest fetch (.load a n sext r) → e.quay = false → e.seq = (s.appOf k).chk.retired % 128 → e.fetch = fetch →
    e.act = .load a n sext r →
    Completes (.checkerRetire k fetch next (.load a n sext r) .none) s (fun t => (t.appOf k).fifo = rest ∧ (t.appOf k).chk.rd r = e.val ∧
      (t.appOf k).main = (s.appOf k).main ∧ SameMemory s t)) ∧
  (∀ (s : State) (k : Nat) (a d next fetch : Word) (e : AppEntry) (rest : List AppEntry) (q : QuayEntry), s.memOk →
    s.ckNext k e rest fetch (.store a 4 d) → e.quay = true → e.seq = (s.appOf k).chk.retired % 128 → e.fetch = fetch →
    s.inQuay k a = true → (s.appOf k).quay = [q] → q.matched = false → q.fenced = false → q.size = 4 →
    0x20000000 ≤ a.toNat → a.toNat < 0x20800000 → a.toNat % 4 = 0 →
    (q.addr = a → q.data = d → Completes (.quayRelease k fetch next a 4 d .none) s (fun t =>
      (t.appOf k).quay = [] ∧ t.fld (pkQg k) QG_STAT_OCC = 0 ∧ t.m32 a.toNat = d ∧
      (∀ b, b < a.toNat ∨ a.toNat + 4 ≤ b → mget t.mem b = mget s.mem b) ∧
      t.reg (pkQg k) QG_RELEASED.off = s.reg (pkQg k) QG_RELEASED.off + 1#32 ∧
      (t.appOf k).chk.retired = (s.appOf k).chk.retired + 1)) ∧
    (q.addr ≠ a ∨ q.data ≠ d → Completes (.quayRelease k fetch next a 4 d .none) s (fun t => AcFaulted s t k 3 0x03 0))) ∧
  (∀ (s : State) (k b : Nat), k < 4 → b < 32 → (s.appOf k).halted = false → s.takesIrq k b = true →
    Completes (.machineInterrupt k false b) s (fun t =>
      (t.appOf k).main.csr 0x341 = (s.appOf k).main.pc ∧ (t.appOf k).main.csr 0x342 = BitVec.ofNat 32 (2147483648 + b) ∧
      (t.appOf k).main.machine = true ∧ ((t.appOf k).main.csr 0x300).getLsbD 3 = false ∧
      (t.appOf k).main.retired = (s.appOf k).main.retired ∧ (t.appOf k).fifo.length = (s.appOf k).fifo.length + 1 ∧
      t.pages = s.pages ∧ SameMemory s t)) ∧
  (∀ (s : State) (k : Nat), k < 4 →
    (s.acOn k = true → 256 ≤ (s.appOf k).main.win → Completes (.appWindowClose k false) s (fun t =>
      (t.appOf k).sigs = (s.appOf k).sigs ++ [((s.appOf k).main.retired, (s.appOf k).main.sig ^^^ 0xFFFFFFFF#32)] ∧
      (t.appOf k).main.win = 0 ∧ (t.appOf k).main.sig = 0xFFFFFFFF#32 ∧ (t.appOf k).closed = (s.appOf k).closed + 1 ∧
      t.pages = s.pages ∧ SameMemory s t)) ∧
    (∀ (x : Nat × Word) (y : Word) (q : List (Nat × Word)) (r : List Word), (s.appOf k).sigs = x :: q → (s.appOf k).ckSigs = y :: r →
      (x.2 = y → (s.appOf k).quay = [] → Completes (.appSignatureCompare k false) s (fun t =>
        (t.appOf k).sigs = q ∧ (t.appOf k).ckSigs = r ∧ (t.appOf k).compared = (s.appOf k).compared + 1 ∧
        t.reg (pkAc k) AC_WINDOWS.off = s.reg (pkAc k) AC_WINDOWS.off + 1#32 ∧ Kept [pkAc k] [(pkAc k, AC_WINDOWS.off)] s t ∧ SameMemory s t)) ∧
      (x.2 ≠ y → (s.appOf k).repair = none → Completes (.appSignatureCompare k false) s (fun t =>
        (t.appOf k).repair = some (.mismatch 7) ∧ t.bit (pkAc k) AC_STAT_REPAIRING = true ∧ SameMemory s t)) ∧
      Completes (.appSignatureCompare k true) s (fun t => AcFaulted s t k 9 0x13 2)) ∧
    (∀ (x y : Word), (s.appOf k).hashes = [x] → (s.appOf k).ckHashes = [y] →
      (x = y → Completes (.checkpointCompare k false) s (fun t => (t.appOf k).hashes = [] ∧ (t.appOf k).ckHashes = [] ∧
        t.bit (pkAc k) AC_STAT_CHKPT_BUSY = false ∧ SameMemory s t)) ∧
      (x ≠ y → (s.appOf k).repair = none → Completes (.checkpointCompare k false) s (fun t =>
        (t.appOf k).repair = some (.mismatch 8) ∧ SameMemory s t)))) ∧
  (∀ (s : State) (k r : Nat) (checker : Bool), k < 4 → s.acOn k = true → (s.appOf k).repair = none →
    Completes (.parityFailure k checker r) s (fun t =>
      (t.appOf k).repair = some (if checker then .chkParity r else .mainParity r) ∧ t.bit (pkAc k) AC_STAT_REPAIRING = true ∧
      Kept [pkAc k] [(pkAc k, AC_STAT.off)] s t ∧ SameMemory s t)) ∧
  (∀ (s : State) (k r : Nat), k < 4 → 1 ≤ r → r ≤ 64 → (s.appOf k).fifo = [] → (s.appOf k).repair = some (.mainParity r) →
    ((s.appOf k).chk.bad.contains r = false → (s.appOf k).quay = [] → Completes (.repairEnd k []) s (fun t =>
      (t.appOf k).main.rd r = (s.appOf k).chk.rd r ∧ (∀ q, q ≠ r → (t.appOf k).main.rd q = (s.appOf k).main.rd q) ∧
      (t.appOf k).repair = none ∧ t.bit (pkAc k) AC_STAT_REPAIRING = false ∧ Sends s t (0x141 + 16 * k) 0x04 1 ∧
      t.fld (pkAc k) AC_CNT_REPAIRS = min 65535 (s.fld (pkAc k) AC_CNT_REPAIRS + 1) ∧ SameMemory s t)) ∧
    ((s.appOf k).chk.bad.contains r = true → Completes (.repairEnd k []) s (fun t => AcFaulted s t k 6 0x04 1 ∧
      t.fld (pkAc k) AC_CNT_RESTARTS = min 65535 (s.fld (pkAc k) AC_CNT_RESTARTS + 1)))) ∧
  (∀ (s : State) (k : Nat) (a : Word) (r : List Word), k < 4 → (s.appOf k).werrs = a :: r →
    Completes (.writeError k) s (fun t => (t.appOf k).werrs = r ∧ t.bit (pkQg k) QG_STAT_WERR = true ∧
      t.reg (pkQg k) QG_WERR_ADDR.off = a ∧ bitN (t.page (pkQg k)).irqFlags.toNat 9 = true ∧ Sends s t (0x143 + 16 * k) 0x05 1 ∧
      Kept [pkQg k] [(pkQg k, QG_STAT.off), (pkQg k, QG_WERR_ADDR.off)] s t ∧ SameMemory s t))

/-- R371, R387, R391-R393. -/
def Obligations.AppStatesAndDebug : Prop :=
  (∀ (s : State) (who : Initiator) (k : Nat), k < 4 → s.st (pkAc k) = .idle →
    Completes (.appStart who k) s (fun t => t.st (pkAc k) = .run ∧ (s.st (pkQg k) ≠ .fault → t.st (pkQg k) = .run) ∧
      (t.appOf k).main.pc = s.word (pkAc k) AC_ENTRY ∧ (t.appOf k).chk.pc = s.word (pkAc k) AC_ENTRY ∧ (t.appOf k).main.retired = 0 ∧
      (t.appOf k).main.machine = true ∧ (t.appOf k).fifo = [] ∧ (t.appOf k).quay = [] ∧ SameMemory s t)) ∧
  (∀ (s : State) (k : Nat), k < 4 → s.st (pkAc k) = .drain → (s.appOf k).stopped = false →
    Completes (.appDrainTimeout k) s (fun t => (t.appOf k).stopped = true ∧ t.pages = s.pages ∧
      (t.appOf k).main.retired = (s.appOf k).main.retired ∧ SameMemory s t)) ∧
  (∀ (s : State) (k a : Nat), k < 4 → s.memOk → (s.appOf k).copying = true → s.st (pkAc k) = .fault → (s.page (pkAc k)).en = true →
    Completes (.restartCopyDone k []) s (fun t =>
      (inMirror k a = true → mget t.ckMem a = mget s.mem a) ∧ (inMirror k a = false → mget t.ckMem a = mget s.ckMem a) ∧
      (∀ m, mget t.mem m = mget s.mem m) ∧ (s.bit (pkAc k) AC_CFG_RESTART = false → t.st (pkAc k) = .idle) ∧
      (s.bit (pkAc k) AC_CFG_RESTART = true → t.st (pkAc k) = .run ∧ (t.appOf k).main.pc = s.word (pkAc k) AC_ENTRY))) ∧
  (∀ (s : State) (k : Nat), k < 4 → s.acOn k = true → (s.appOf k).halted = false →
    Completes (.debugHalt k) s (fun t => (t.appOf k).halted = true ∧ (t.appOf k).main.retired = (s.appOf k).main.retired ∧
      t.bit (pkAc k) AC_STAT_DBG_ATTACHED = true ∧ SameMemory s t)) ∧
  (∀ (s : State) (k : Nat), k < 4 → (∀ j, j < 4 → s.bit (pkAc j) AC_STAT_DBG_ATTACHED = false) →
    Completes (.debuggerAttach k) s (fun t => (∀ j, j < 4 → t.bit (pkAc j) AC_STAT_DBG_ATTACHED = true) ∧
      (s.debugExempt = false → t.bolOut = false ∧ t.sea.dbgBarred = true ∧ (s.bolOut = true → Sends s t (0x144 + 16 * k) 0x06 0)) ∧
      (s.debugExempt = true → t.bolOut = s.bolOut ∧ t.sea.dbgBarred = s.sea.dbgBarred) ∧ SameMemory s t)) ∧
  (∀ (s : State) (k : Nat), k < 4 → (∀ j, j < 4 → (s.appOf j).halted = false) →
    Completes (.debuggerDetach k) s (fun t => (∀ j, j < 4 → t.bit (pkAc j) AC_STAT_DBG_ATTACHED = false) ∧
      t.sea.dbgBarred = s.sea.dbgBarred ∧ t.bolOut = s.bolOut ∧ SameMemory s t)) ∧
  (∀ (s : State) (k r : Nat) (v : Word), k < 4 → (s.appOf k).halted = true → 1 ≤ r → r < 64 →
    ((s.appOf k).replay.length < 64 → Completes (.debugRegisterWrite k (0x1000 + r) v) s (fun t =>
      (t.appOf k).main.rd r = v ∧ (∀ q, q ≠ r → (t.appOf k).main.rd q = (s.appOf k).main.rd q) ∧ (t.appOf k).chk = (s.appOf k).chk ∧
      (t.appOf k).replay = (s.appOf k).replay ++ [(0x1000 + r, v)] ∧ (t.appOf k).main.sig = (s.appOf k).main.sig ∧ t.pages = s.pages ∧ SameMemory s t)) ∧
    (64 ≤ (s.appOf k).replay.length → Completes (.debugRegisterWrite k (0x1000 + r) v) s (fun t => (t.appOf k).cmderr = true ∧
      (t.appOf k).main = (s.appOf k).main ∧ (t.appOf k).replay = (s.appOf k).replay ∧ t.pages = s.pages ∧ SameMemory s t))) ∧
  (∀ (s : State) (k r : Nat) (v next : Word), k < 4 → (s.appOf k).halted = true → (s.appOf k).fifo = [] → 1 ≤ r → r < 64 →
    (s.appOf k).replay = [(0x1000 + r, v)] →
    Completes (.debugResume k) s (fun t => (t.appOf k).halted = false ∧ (t.appOf k).replay = [] ∧ (t.appOf k).chk.rd r = v ∧
      (t.appOf k).main = (s.appOf k).main ∧ t.pages = s.pages ∧ SameMemory s t) ∧
    (s.mainReady k = true → (s.appOf k).main.win < 256 → s.acExcept k (s.appOf k).main (.plain 0 0#32 0#5) = none →
      (s.appOf k).quay = [] →
      Completes (.singleStep k next (.plain 0 0#32 0#5)) s (fun t => (t.appOf k).halted = true ∧ (t.appOf k).chk.rd r = v ∧
        (t.appOf k).main.retired = (s.appOf k).main.retired + 1 ∧ (t.appOf k).main.pc = next ∧ SameMemory s t))) ∧
  (∀ (s : State) (k a : Nat) (v : Word), s.memOk → k < 4 → (s.appOf k).halted = true → inItcm k a = true → a % 4 = 0 →
    Completes (.systemBusWrite a 4 v) s (fun t => t.m32 a = v ∧ (∀ b, b < a ∨ a + 4 ≤ b → mget t.mem b = mget s.mem b) ∧
      (inMirror k a = true → mgetN t.ckMem a 4 = v.toNat) ∧ (inMirror k a = false → t.ckMem = s.ckMem) ∧ t.pages = s.pages))

/-- R293, R402-R405, R423, R541: PHASE_CURRENT_TRIP, DC_LINK_WINDOW, GATE_COMMAND_SILENCE, COMMAND_EDGE_RATE, CLUSTER_TEMPERATURE,
KP_TEMPERATURE, SOFT_CUT_END. -/
def Obligations.SeawallSoftCuts : Prop :=
  (∀ (s : State) (m j : Nat) (neg : Bool), m < 6 → j < 3 → s.fixedLive → s.sea.mf.gsize = 0 →
    let cut (c : Instr) (bit kind : Nat) : Prop :=
      Completes c s (fun t =>
        t.softCutOf m = true ∧ bitN (t.fld pkSea SEAWALL_BCAUSE_V) (5 * m + bit) = true ∧ t.enable m = false ∧
        t.bolOut = s.bolOut ∧ Sends s t (0x192 + m) kind 2 ∧ (∀ i, i < 6 → i ≠ m → t.softCutOf i = s.softCutOf i) ∧
        (s.dr.running = [] → s.bit (pkGb m) GB_STAT_CUT = false →
          t.running (pkGb m) = false ∧ t.bit (pkGb m) GB_STAT_CUT = true ∧ t.bit (pkGb m) GB_STAT_CUT_FORM = (s.entry m).form ∧
          ∀ i, i < 3 → t.fld (pkGl (3 * m + i)) GL_STAT_OUT = 0 ∧ t.running (pkGl (3 * m + i)) = false ∧
            ((s.entry m).form = false → (t.leg (3 * m + i)).acts = [] ∧ t.bit (pkIs (3 * m + i)) IS_STAT_PERMIT = false ∧
              (s.sw (3 * m + i) = 1 ∨ s.sw (3 * m + i) = 2 ∨ s.sw (3 * m + i) = 3 → t.sw (3 * m + i) = 4)) ∧
            ((s.entry m).form = true → t.sw (3 * m + i) = s.sw (3 * m + i) ∧
              ((s.leg (3 * m + i)).latch ≠ .latch → s.st (pkGl (3 * m + i)) ≠ .fault →
                (t.leg (3 * m + i)).acts = [⟨s.tapNow + s.dtTaps (3 * m + i), false, true⟩]))))
    cut (.phaseCurrentTrip (3 * m + j) neg) 0 0x06 ∧ cut (.dcLinkWindow m) 1 0x06 ∧ cut (.gateCommandSilence (3 * m + j)) 2 0x0B ∧
    cut (.commandEdgeRate (3 * m + j)) 3 0x06 ∧ cut (.clusterTemperature m) 4 0x0F) ∧
  (∀ s : State, s.fixedLive → s.bit pkSea SEAWALL_STAT_UNIT_SOFT = false → Completes .kpTemperature s (fun t =>
    t.bit pkSea SEAWALL_STAT_UNIT_SOFT = true ∧ t.bit pkSea SEAWALL_UCAUSE_KP_TEMP = true ∧ t.bolOut = false ∧
    Sends s t 0x198 0x0F 3 ∧ (∀ m, t.enable m = false) ∧
    (s.dr.running = [] → ∀ m, m < 6 → t.bit (pkGb m) GB_STAT_CUT = true ∧ t.running (pkGb m) = false ∨ s.bit (pkGb m) GB_STAT_CUT = true))) ∧
  (∀ (s : State) (k : Nat), k < 18 → s.fixedLive → s.sea.mf.gsize = 2 → (s.entry (bridgeOf k)).en = true →
    (∀ m, m < 6 → m ≠ bridgeOf k → (s.entry m).en = true → ∃ j, bridgeOf j = m ∧ j ∈ s.sea.silent) →
    Completes (.gateCommandSilence k) s (fun t =>
      (s.bit pkSea SEAWALL_STAT_UNIT_SOFT = false → t.bit pkSea SEAWALL_STAT_UNIT_SOFT = true ∧ t.bit pkSea SEAWALL_UCAUSE_QUAY = true ∧
        Sends s t 0x198 0x0B 3 ∧ t.bolOut = false) ∧ Sends s t (0x192 + bridgeOf k) 0x0B 2)) ∧
  (∀ (s : State) (m : Nat), m < 6 → s.softCutOf m = true → s.bit pkSea SEAWALL_STAT_HARD = false → s.bit pkSea SEAWALL_STAT_UNIT_SOFT = false →
    Completes (.softCutEnd m) s (fun t =>
      t.softCutOf m = !(tget false s.sea.laneReleased m) ∧ (∀ i, i < 6 → i ≠ m → t.softCutOf i = s.softCutOf i) ∧
      t.bit (pkGb m) GB_STAT_CUT = (s.bit (pkGb m) GB_STAT_CUT && !(tget false s.sea.laneReleased m)) ∧ Quiet s t))

/-- R406-R408, R410, R411: SHOOT_THROUGH_REPORT, SEAWALL_SELF_TEST, SEAWALL_RST_N, EDGE_INPUT_STUCK. -/
def Obligations.SeawallHardCuts : Prop :=
  (∀ (s : State) (k : Nat), k < 18 → s.fixedLive →
    (2 ≤ (s.shootTimes (bridgeOf k)).length → s.bit pkSea SEAWALL_STAT_HARD = false → Completes (.shootThroughReport k) s (fun t =>
      t.bit pkSea SEAWALL_STAT_HARD = true ∧ t.fld pkSea SEAWALL_STAT_HCAUSE = 3 ∧ t.sea.aonHard = true ∧ t.bolOut = false ∧
      t.fld pkSea SEAWALL_INPUTS_HC_COUNT = min 255 (s.fld pkSea SEAWALL_INPUTS_HC_COUNT + 1) ∧ Sends s t 0x19A 0x08 3 ∧
      (∀ m, t.enable m = false) ∧ (s.dr.running = [] → ∀ m, m < 6 → s.bit (pkGb m) GB_STAT_CUT = false →
        t.bit (pkGb m) GB_STAT_CUT = true ∧ t.bit (pkGb m) GB_STAT_CUT_FORM = false ∧ t.running (pkGb m) = false ∧
        ∀ i, i < 3 → t.fld (pkGl (3 * m + i)) GL_STAT_OUT = 0 ∧ (t.leg (3 * m + i)).acts = []))) ∧
    ((s.shootTimes (bridgeOf k)).length < 2 ∨ s.bit pkSea SEAWALL_STAT_HARD = true → Completes (.shootThroughReport k) s (fun t =>
      t.pages = s.pages ∧ t.wires = s.wires ∧ (t.shootTimes (bridgeOf k)).length = (s.shootTimes (bridgeOf k)).length + 1 ∧ Quiet s t))) ∧
  (∀ (s : State) (passed : Bool), s.fixedLive → Completes (.seawallSelfTest passed) s (fun t =>
    t.bit pkSea SEAWALL_STAT_SELFTEST_OK = passed ∧
    (s.bit pkSea SEAWALL_STAT_HARD = true → t.fld pkSea SEAWALL_STAT_HCAUSE = s.fld pkSea SEAWALL_STAT_HCAUSE) ∧
    (s.bit pkSea SEAWALL_STAT_HARD = false → s.sea.aonHard = true → t.fld pkSea SEAWALL_STAT_HCAUSE = 6 ∧ Sends s t 0x19A 0x06 3) ∧
    (s.bit pkSea SEAWALL_STAT_HARD = false → s.sea.aonHard = false → passed = false → t.fld pkSea SEAWALL_STAT_HCAUSE = 4 ∧
      t.sea.aonHard = true ∧ t.bolOut = false ∧ Sends s t 0x19A 0x10 3) ∧
    (s.sea.aonHard = false → passed = true → t.wires = s.wires ∧ t.bit pkSea SEAWALL_STAT_HARD = s.bit pkSea SEAWALL_STAT_HARD))) ∧
  (∀ (s : State) (us : Nat), Completes (.seawallRstN us) s (fun t =>
    (us < 10000 → t.fld pkSea SEAWALL_INPUTS_IGNORED = min 255 (s.fld pkSea SEAWALL_INPUTS_IGNORED + 1) ∧
      t.bit pkSea SEAWALL_STAT_HARD = s.bit pkSea SEAWALL_STAT_HARD ∧ t.pw.urReq = s.pw.urReq) ∧
    (2000000 < us → t.bit pkSea SEAWALL_INPUTS_RST_STUCK = false ∧ t.bit pkSea SEAWALL_STAT_HARD = s.bit pkSea SEAWALL_STAT_HARD ∧
      t.pw.urReq = s.pw.urReq) ∧
    (10000 ≤ us → us ≤ 2000000 → s.bit pkSea SEAWALL_STAT_HARD = true → t.bit pkSea SEAWALL_STAT_HARD = false ∧
      t.fld pkSea SEAWALL_STAT_HCAUSE = 0 ∧ t.sea.aonHard = false ∧ t.sea.shoot = [] ∧ t.fld pkHm HM_STAT_UNIT_REC = 0 ∧
      t.pw.urReq = s.pw.urReq ++ [.seawallEdge]) ∧
    (10000 ≤ us → us ≤ 2000000 → s.bit pkSea SEAWALL_STAT_HARD = false → t.pw.urReq = s.pw.urReq ∧ t.sea = s.sea) ∧
    Kept [pkSea, pkHm] [(pkSea, SEAWALL_INPUTS.off), (pkSea, SEAWALL_STAT.off), (pkHm, HM_STAT.off)] s t ∧ Quiet s t)) ∧
  (∀ (s : State) (comm : Bool), Completes (.edgeInputStuck comm) s (fun t =>
    t.bit pkSea (if comm then SEAWALL_INPUTS_COMM_STUCK else SEAWALL_INPUTS_RST_STUCK) = true ∧ Sends s t 0x19C 0x06 1 ∧
    Kept [pkSea] [(pkSea, SEAWALL_INPUTS.off)] s t ∧ Quiet s t))

/-- R409, R410, R415, R417, R418: WATCHDOG_PERIOD, WD_ANS, MANIFEST_CHECK, SEAL_CONFIRM, SEAL_KEY, SEAL_KEY_TIMEOUT, KEYED_TIMEOUT,
COMMISSION_EDGE, RECORD_READBACK. A count that already stands at WD_FAIL_MAX cuts at the next bad period (log entry 46). -/
def Obligations.SeawallWatchdogAndSeal : Prop :=
  (∀ s : State, s.sea.wdRun = true → s.fixedLive → Completes .watchdogPeriod s (fun t =>
    let q := s.fld pkSea SEAWALL_WD_Q_Q
    let n := s.fld pkSea SEAWALL_WD_Q_FAIL_CNT
    t.fld pkSea SEAWALL_WD_Q_Q = (2 * q + (q / 32768 + q / 8192 + q / 4096 + q / 1024) % 2) % 65536 ∧
    t.sea.wdAnswers = 0 ∧ t.sea.wdBad = false ∧ t.swq = (s.swq ||| BitVec.ofNat 4 s.sea.mf.wdPairs) ∧
    (s.sea.wdAnswers = 2 → s.sea.wdBad = false → t.fld pkSea SEAWALL_WD_Q_FAIL_CNT = n - 1 ∧ t.sea.wdGoodFlood = s.sea.wdGoodFlood + 1 ∧
      t.fld pkSea SEAWALL_WD_Q_GOOD = min 255 (s.fld pkSea SEAWALL_WD_Q_GOOD + 1) ∧ t.wires = s.wires) ∧
    (s.sea.wdAnswers ≠ 2 ∨ s.sea.wdBad = true → t.fld pkSea SEAWALL_WD_Q_FAIL_CNT = min 255 (n + 1) ∧ t.fld pkSea SEAWALL_WD_Q_GOOD = 0 ∧
      Sends s t 0x199 0x05 (if s.inHigh then 1 else 0) ∧
      (s.inHigh = true → n < 255 → n + 1 = s.sea.mf.wdFailMax → s.bit pkSea SEAWALL_STAT_UNIT_SOFT = false →
        t.bit pkSea SEAWALL_STAT_UNIT_SOFT = true ∧ t.bolOut = false ∧ Sends s t 0x199 0x05 3) ∧
      (s.inHigh = false → t.bit pkSea SEAWALL_STAT_UNIT_SOFT = s.bit pkSea SEAWALL_STAT_UNIT_SOFT)))) ∧
  (∀ (s : State) (p k : Nat) (v : Word) (inWin : Bool), p < 4 → k < 2 → s.sea.wdAnswers = k → bitsN v.toNat 17 16 = k →
    Completes (.wdAns (.ac p) v inWin) s (fun t =>
      let q := s.fld pkSea SEAWALL_WD_Q_Q
      let x := q ^^^ (4369 * (k + 1))
      t.sea.wdAnswers = k + 1 ∧
      (t.sea.wdBad = false ↔ (s.sea.wdBad = false ∧ inWin = true ∧ bitN s.sea.mf.wdPairs p = true ∧
        bitsN v.toNat 15 0 = (x * 2 ^ (q % 16) + x / 2 ^ (16 - q % 16)) % 65536)) ∧
      Kept [pkSea] [] s t ∧ Quiet s t)) ∧
  (∀ (s : State) (b : Nat), s.pw.kdUp = true → s.checkBank = b → s.fixedLive → Completes .manifestCheck s (fun t =>
    t.word pkSea SEAWALL_SEAL_CALC = s.sealOf b ∧ t.bit pkSea SEAWALL_STAT_CONFIRMED = s.recordValid b ∧ t.sea.mfBank = some b ∧
    t.sea.mfPassed = s.mfLegal b ∧ (s.mfLegal b = true → t.sea.mf = s.mfValues b) ∧ (s.mfLegal b = false → t.sea.mf = {}) ∧
    (t.bit pkSea SEAWALL_STAT_SEAL_OK = true ↔ (s.recordValid b = true ∧ s.mfLegal b = true ∧ s.sealOf b = s.m32 (mfBase b + 0xFFC4))) ∧
    (s.recordValid b = false → Sends s t 0x19B 0x11 0 ∧ t.sea.heldOutcome = 0) ∧
    (s.recordValid b = true → s.mfLegal b = false → s.boot.runBank = none → s.pw.noImage = false → t.sea.heldOutcome = 2 ∧
      t.bit pkSea SEAWALL_STAT_HARD = s.bit pkSea SEAWALL_STAT_HARD) ∧
    (s.recordValid b = true → s.mfLegal b = false → s.boot.runBank ≠ none → s.bit pkSea SEAWALL_STAT_HARD = false →
      t.fld pkSea SEAWALL_STAT_HCAUSE = 2 ∧ t.bolOut = false ∧ Sends s t 0x19A 0x11 3))) ∧
  (∀ (s : State) (who : Initiator) (v : Word),
    let sl := s.word pkSea SEAWALL_SEAL_CALC
    let cs := s.fld pkSea SEAWALL_COMM_CSTATE
    (s.rwdOpen = false → Completes (.sealConfirm who v) s (fun t => (t.page pkSea).clampCause = 6#4 ∧ (t.page pkSea).clampOff = 0x050#12 ∧
        (t.page pkSea).clamped = true ∧ t.sea = s.sea ∧ Kept [pkSea] [] s t ∧ Quiet s t) ∧
      Completes (.sealKey who v) s (fun t => (t.page pkSea).clampCause = 6#4 ∧ (t.page pkSea).clampOff = 0x054#12 ∧
        (t.page pkSea).clamped = true ∧ t.sea = s.sea ∧ Kept [pkSea] [] s t ∧ Quiet s t)) ∧
    (s.rwdOpen = true → cs = 0 → Completes (.sealConfirm who v) s (fun t =>
      t.fld pkSea SEAWALL_COMM_CSTATE = (if v = sl ∧ s.sea.mfPassed = true then 1 else 0) ∧
      (v ≠ sl → t.bit pkSea SEAWALL_COMM_MISMATCH = true) ∧ (s.sea.mfPassed = false → t.bit pkSea SEAWALL_COMM_RANGE_FAIL = true) ∧
      Kept [pkSea] [(pkSea, SEAWALL_COMM.off)] s t ∧ Quiet s t)) ∧
    (s.rwdOpen = true → cs = 1 → s.sea.keyFirst = false → Completes (.sealKey who v) s (fun t =>
      t.fld pkSea SEAWALL_COMM_CSTATE = (if v = sl then 1 else 0) ∧ t.sea.keyFirst = decide (v = sl) ∧
      (v ≠ sl → t.fld pkSea SEAWALL_COMM_KEY_FAIL = min 15 (s.fld pkSea SEAWALL_COMM_KEY_FAIL + 1)) ∧ Quiet s t)) ∧
    (s.rwdOpen = true → cs = 1 → s.sea.keyFirst = true → Completes (.sealKey who v) s (fun t =>
      t.fld pkSea SEAWALL_COMM_CSTATE = (if v = ~~~ sl then 2 else 0) ∧ t.sea.keyFirst = false ∧
      (v ≠ ~~~ sl → t.fld pkSea SEAWALL_COMM_KEY_FAIL = min 15 (s.fld pkSea SEAWALL_COMM_KEY_FAIL + 1)) ∧ Quiet s t))) ∧
  (∀ s : State, (s.fld pkSea SEAWALL_COMM_CSTATE = 1 → s.sea.keyFirst = true → Completes .sealKeyTimeout s (fun t =>
      t.fld pkSea SEAWALL_COMM_CSTATE = 0 ∧ t.fld pkSea SEAWALL_COMM_KEY_FAIL = min 15 (s.fld pkSea SEAWALL_COMM_KEY_FAIL + 1) ∧ Quiet s t)) ∧
    (s.fld pkSea SEAWALL_COMM_CSTATE = 2 → Completes .keyedTimeout s (fun t => t.fld pkSea SEAWALL_COMM_CSTATE = 0 ∧
      Kept [pkSea] [(pkSea, SEAWALL_COMM.off)] s t ∧ Quiet s t))) ∧
  (∀ (s : State) (us b : Nat), s.memOk → s.sea.mfBank = some b → b < 2 → us ≤ 2000000 →
    (10000 ≤ us → s.fld pkSea SEAWALL_COMM_CSTATE = 2 → s.pw.tide = .dryDock → Completes (.commissionEdge us) s (fun t =>
      t.fld pkSea SEAWALL_COMM_CSTATE = 3 ∧ t.recordValid b = true ∧ t.m32 (mfBase b + 0xFFC4) = s.word pkSea SEAWALL_SEAL_CALC ∧
      t.mfWord b 0xFFCC = (s.fld pkSea SEAWALL_COMM_COUNT + 1) % 256 ∧
      ∀ a, a < mfBase b + 0xFFC0 ∨ mfBase b + 0x10000 ≤ a → mget t.mem a = mget s.mem a)) ∧
    (us < 10000 ∨ s.fld pkSea SEAWALL_COMM_CSTATE ≠ 2 ∨ s.pw.tide ≠ .dryDock → Completes (.commissionEdge us) s (fun t =>
      t.fld pkSea SEAWALL_INPUTS_IGNORED = min 255 (s.fld pkSea SEAWALL_INPUTS_IGNORED + 1) ∧
      t.fld pkSea SEAWALL_COMM_CSTATE = s.fld pkSea SEAWALL_COMM_CSTATE ∧ Kept [pkSea] [(pkSea, SEAWALL_INPUTS.off)] s t ∧ Quiet s t))) ∧
  (∀ s : State, s.fld pkSea SEAWALL_COMM_CSTATE = 3 →
    Completes (.recordReadback true) s (fun t => t.fld pkSea SEAWALL_COMM_CSTATE = 4 ∧ t.pw.urReq = s.pw.urReq ++ [.commissioning] ∧
      t.bit pkSea SEAWALL_STAT_CONFIRMED = true ∧ t.wires = s.wires ∧ Quiet s t) ∧
    Completes (.recordReadback false) s (fun t => t.fld pkSea SEAWALL_COMM_CSTATE = 0 ∧ t.bit pkSea SEAWALL_COMM_WRITE_FAIL = true ∧
      Sends s t 0x19B 0x11 1 ∧ t.pw.urReq = s.pw.urReq ∧ Quiet s t))

/-- R427-R431, R439: PENNANT, ERROR_LINE, LINE_CHECK_TIMEOUT. -/
def Obligations.HarbourIntake : Prop :=
  (∀ (s : State) (w : BitVec 64) (src : Nat) (err : SecErr), err ≠ .double → (pennantOf w).source < 0x280 →
    (pennantOf w).seq = (s.srcSt (pennantOf w).source).expSeq →
    let p := pennantOf w
    let x := s.srcSt p.source
    ((∀ a, x.lastAdm = some a → a + 400 ≤ s.cyc) → s.hm.queue.length < 64 → Completes (.pennant src (some w) err) s (fun t =>
      t.hm.queue = s.hm.queue ++ [⟨p, s.tmNs⟩] ∧ (t.srcSt p.source).expSeq = x.expSeq + 1#6 ∧
      (t.srcSt p.source).admitted = min 65535 (x.admitted + 1) ∧ (t.srcSt p.source).lastAdm = some s.cyc ∧
      t.fld pkHm HM_QUEUE_PEAK = max (s.fld pkHm HM_QUEUE_PEAK) (s.hm.queue.length + 1) ∧ t.hm.held = s.hm.held ∧ t.hm.own = s.hm.own ∧
      (∀ j, j ≠ p.source → t.srcSt j = s.srcSt j) ∧ Kept [pkHm] [(pkHm, HM_QUEUE_PEAK.off)] s t ∧ t.wires = s.wires ∧ Quiet s t)) ∧
    ((∃ a, x.lastAdm = some a ∧ s.cyc < a + 400) ∨ 64 ≤ s.hm.queue.length → Completes (.pennant src (some w) err) s (fun t =>
      t.hm.queue = s.hm.queue ∧ (t.srcSt p.source).dropped = min 255 (x.dropped + 1) ∧ (t.srcSt p.source).admitted = x.admitted ∧
      t.fld pkHm HM_CNT_DROPPED = min 65535 (s.fld pkHm HM_CNT_DROPPED + 1) ∧
      tget 0 t.hm.held (srcGroup p.source) = max (tget 0 s.hm.held (srcGroup p.source)) p.level ∧
      (∀ g, g ≠ srcGroup p.source → tget 0 t.hm.held g = tget 0 s.hm.held g) ∧
      (s.hm.lastDrop = none → t.fld pkHm HM_CNT_OVERRUNS = min 255 (s.fld pkHm HM_CNT_OVERRUNS + 1) ∧
        ∃ q ∈ t.hm.own, q.source = 0x240 ∧ q.kind = 0x14#6 ∧ q.level = 1) ∧
      ((∃ a, s.hm.lastDrop = some a ∧ s.cyc < a + s.quietCycles) → t.hm.own = s.hm.own) ∧ t.wires = s.wires ∧ Quiet s t))) ∧
  (∀ (s : State) (w : BitVec 64) (src : Nat), (pennantOf w).source < 0x280 → (pennantOf w).seq ≠ (s.srcSt (pennantOf w).source).expSeq →
    Completes (.pennant src (some w) .none) s (fun t =>
      (t.srcSt (pennantOf w).source).expSeq = (pennantOf w).seq + 1#6 ∧
      ∃ q ∈ t.hm.own, q.source = 0x241 ∧ q.kind = 0x0C#6 ∧ q.level = 1 ∧ q.detail = 2#8 ∧ q.addr.toNat = (pennantOf w).source)) ∧
  (∀ (s : State) (w : BitVec 64) (src : Nat), Completes (.pennant src (some w) .double) s (fun t => t = s)) ∧
  (∀ (s : State) (w : BitVec 64) (src : Nat), 0x280 ≤ (pennantOf w).source → Completes (.pennant src (some w) .none) s (fun t =>
    t.fld pkHm HM_CNT_LOST = min 255 (s.fld pkHm HM_CNT_LOST + 1) ∧ t.hm = s.hm ∧ t.wires = s.wires ∧ Quiet s t)) ∧
  (∀ (s : State) (p : Pennant), p ∈ s.wires → (∀ q ∈ s.wires, q.source = p.source → q = p) → p.source < 0x280 →
    Completes (.pennant p.source none .single) s (fun t =>
      t.wires = s.wires.erase p ∧ (t.srcSt p.source).expSeq = p.seq + 1#6 ∧ (t.srcSt p.source).lineWait = false ∧
      (t.srcSt p.source).pennWait = (!(s.lineMode (srcGroup p.source)) && !(s.srcSt p.source).lineWait))) ∧
  (∀ (s : State) (src : Nat), src < 0x280 →
    (s.lineMode (srcGroup src) = true → (s.srcSt src).lastAdm = none → s.hm.queue.length < 64 → Completes (.errorLine src) s (fun t =>
      bitN (t.word pkHm (HM_ELS.ix (src / 32))).toNat (src % 32) = true ∧
      t.hm.queue = s.hm.queue ++ [⟨⟨src, 0#6, s.lineLvl (srcGroup src), 0#6, 0#8, 0#32⟩, s.tmNs⟩] ∧
      (t.srcSt src).lineWait = (s.srcSt src).lineWait ∧ Quiet s t)) ∧
    (s.lineMode (srcGroup src) = false → Completes (.errorLine src) s (fun t =>
      t.pages = s.pages ∧ t.hm.queue = s.hm.queue ∧ t.lines = s.lines.erase src ∧
      ((s.srcSt src).pennWait = true → (t.srcSt src).pennWait = false ∧ (t.srcSt src).lineWait = (s.srcSt src).lineWait) ∧
      ((s.srcSt src).pennWait = false → (t.srcSt src).lineWait = true) ∧ Quiet s t)) ∧
    Completes (.lineCheckTimeout src) s (fun t =>
      (t.srcSt src).lineWait = false ∧ (t.srcSt src).pennWait = false ∧
      ((s.srcSt src).lineWait = true → bitN (t.word pkHm (HM_ELS.ix (src / 32))).toNat (src % 32) = true ∧
        ∃ q ∈ t.hm.own, q.source = 0x241 ∧ q.kind = 0x0C#6 ∧ q.level = s.lineLvl (srcGroup src) ∧ q.detail = 0#8 ∧ q.addr.toNat = src) ∧
      ((s.srcSt src).pennWait = true → ∃ q ∈ t.hm.own, q.source = 0x241 ∧ q.kind = 0x0C#6 ∧ q.level = 1 ∧ q.detail = 1#8 ∧ q.addr.toNat = src) ∧
      ((s.srcSt src).lineWait ≠ (s.srcSt src).pennWait → t.fld pkHm HM_CNT_LOST = min 255 (s.fld pkHm HM_CNT_LOST + 1)) ∧
      ((s.srcSt src).lineWait = false → (s.srcSt src).pennWait = false → t.pages = s.pages ∧ t.hm.own = s.hm.own) ∧ Quiet s t))

/-- R433-R438, R441, R442: EVENT_PROCESSING, QUIET_EXPIRY, ACK, HISTORY_RELEASE. -/
def Obligations.HarbourIncidents : Prop :=
  (∀ (s : State) (e : QEntry) (rest : List QEntry), s.hm.turn = 0 → s.hm.queue = e :: rest → s.dr.running = [] →
    let src := e.p.source
    let g := srcGroup src
    let l := s.eventLevel e.p
    let r : HmRec := ⟨e.p.word, e.time⟩
    let x := s.incident g
    let esc := (s.pw.tide == .flood || x.st == .probation) && bitN x.kinds.toNat e.p.kind.toNat && !x.acked
    Completes .eventProcessing s (fun t =>
      t.hm.queue = rest ∧ t.word pkHm HM_RING = s.word pkHm HM_RING + 1#32 ∧
      tget ⟨0#64, 0#64⟩ t.hm.ring ((s.word pkHm HM_RING).toNat % 2048) = r ∧ (∀ j, j ≠ g → (t.incident j).level = (s.incident j).level) ∧
      (l = 0 → t.hm.inc = s.hm.inc ∧ Kept [pkHm] [(pkHm, HM_RING.off)] s t ∧ t.wires = s.wires ∧ Quiet s t) ∧
      (1 ≤ l → x.st = .closed → (t.incident g).level = l ∧ (t.incident g).first = r ∧ (t.incident g).last = r ∧
        (t.incident g).kinds = BitVec.ofNat 64 (2 ^ e.p.kind.toNat) ∧ (t.incident g).count = 1 ∧ (t.incident g).acked = false ∧
        (t.incident g).st ≠ .closed ∧ (l < 3 → (t.incident g).st = .held)) ∧
      (1 ≤ l → x.st ≠ .closed → (t.incident g).first = x.first ∧ (t.incident g).last = r ∧ (t.incident g).acked = x.acked ∧
        (t.incident g).kinds = x.kinds ||| BitVec.ofNat 64 (2 ^ e.p.kind.toNat) ∧ (t.incident g).count = min 65535 (x.count + 1) ∧
        (t.incident g).level = (if esc = true then min 3 (max x.level l + 1) else max x.level l) ∧
        (esc = true → max x.level l < 3 → t.fld pkHm HM_ESC_ESCALATED = min 65535 (s.fld pkHm HM_ESC_ESCALATED + 1)) ∧
        (esc = true → max x.level l = 3 → t.fld pkHm HM_ESC_ESC_CAP = min 65535 (s.fld pkHm HM_ESC_ESC_CAP + 1))) ∧
      (l = 2 → x.st = .closed → ∀ k ∈ lanePages src, t.st k = .fault) ∧
      (l = 3 → x.st = .closed → s.sea.mf.hmLimit ≤ s.fld pkHm HM_STAT_UNIT_REC →
        t.bit pkHm HM_STAT_HARD_REQ = true ∧ t.bit pkSea SEAWALL_STAT_HARD = true ∧ t.sea.withdrawn = true ∧ t.bolOut = false) ∧
      (l = 3 → x.st = .closed → inOutputPath src = true ∨ (s.lee = false ∧ s.leeGrant = false) → t.sea.withdrawn = true ∧ t.bolOut = false) ∧
      (2 ≤ l → s.bit pkHm HM_STAT_FROZEN = false → t.bit pkHm HM_STAT_FROZEN = true ∧ t.hm.hist.getLast? = some r ∧
        bitN (t.page pkHm).irqFlags.toNat 11 = true) ∧
      (s.bit pkHm HM_STAT_FROZEN = true → t.hm.hist = s.hm.hist))) ∧
  (∀ (s : State) (g lvl : Nat), s.hm.queue = [] → s.hm.own = [] → s.hm.held = [(g, lvl)] → s.dr.running = [] → lvl = 1 →
    Completes .eventProcessing s (fun t =>
      t.hm.held = [] ∧ t.word pkHm HM_RING = s.word pkHm HM_RING + 1#32 ∧
      (t.incident g).helds = (if (s.incident g).st = .closed then 1 else min 255 ((s.incident g).helds + 1)) ∧
      ((s.incident g).st ≠ .closed → (t.incident g).kinds = (s.incident g).kinds ∧ (t.incident g).level = max (s.incident g).level 1))) ∧
  (∀ s : State, s.hm.queue = [] → s.hm.own = [] → s.hm.held = [] → Completes .eventProcessing s (fun t =>
    t.pages = s.pages ∧ t.hm = { s.hm with openedNow := [] } ∧ t.wires = s.wires ∧ Quiet s t)) ∧
  (∀ (s : State) (g : Nat), Completes (.quietExpiry g) s (fun t =>
    let x := s.incident g
    (x.st = .closed ∨ x.st = .lee → t = s) ∧
    (x.st = .probation ∨ (x.st = .held ∧ x.level ≤ 1) → (t.incident g).st = .closed ∧ (t.incident g).first = x.first ∧
      (t.incident g).count = x.count ∧ t.pages = s.pages ∧ t.pw = s.pw ∧ Quiet s t) ∧
    (x.st = .held → x.level = 2 → (t.incident g).st = .probation ∧ (t.incident g).releases = min 255 (x.releases + 1) ∧
      (t.incident g).quietFrom = s.cyc ∧ t.pw.urReq = s.pw.urReq ∧
      ∀ src ∈ x.lanes, ∀ k ∈ lanePages src, kindOf k ≠ some .cv → kindOf k ≠ some .ac → s.failed k = false → t.st k ≠ .fault) ∧
    (x.st = .held → x.level = 3 → t.hm.inc = s.hm.inc ∧ t.pages = s.pages ∧
      t.pw.urReq = s.pw.urReq ++ (if s.bit pkHm HM_STAT_HARD_REQ = true then [] else [.harbourmaster])))) ∧
  (∀ (s : State) (who : Initiator) (v : Word) (g : Nat), Completes (.ack who v) s (fun t =>
    (t.incident g).acked = ((s.incident g).acked || (bitN v.toNat g && decide ((s.incident g).st ≠ .closed) && !(s.openingSlot g))) ∧
    (t.incident g).st = (s.incident g).st ∧ (t.incident g).level = (s.incident g).level ∧
    (t.incident g).quietFrom = (s.incident g).quietFrom ∧ Kept [pkHm] [] s t ∧ Quiet s t)) ∧
  (∀ (s : State) (who : Initiator), Completes (.historyRelease who) s (fun t =>
    t.bit pkHm HM_STAT_FROZEN = false ∧ t.hm.hist.length = min 16 s.hm.ring.length ∧
    (∀ i, i < min 16 s.hm.ring.length → t.hm.hist[i]? =
      some (tget ⟨0#64, 0#64⟩ s.hm.ring (((s.word pkHm HM_RING).toNat + 2048 - min 16 s.hm.ring.length + i) % 2048))) ∧
    t.hm.ring = s.hm.ring ∧ t.hm.inc = s.hm.inc ∧ Kept [pkHm] [(pkHm, HM_STAT_FROZEN.off)] s t ∧ Quiet s t))

/-- R449-R457, R467, R478-R481, R487, R489, R499: DATA_FRAME, LINK_UP, LINK_LOSS, LEAD_FRAME, LEAD_SLOT, LEAD_RESPONSE, LEAD_NOTICE. -/
def Obligations.MauloFramesAndLinks : Prop :=
  (∀ (s : State) (p : Nat) (stamp : Int) (fcs : FrameCheck) (l : List Byte), s.portTakes p = true → s.timeState = 0 →
    Completes (.dataFrame p stamp fcs l) s (fun t => t.pages = s.pages ∧ t.mem = s.mem ∧ t.berths = s.berths ∧ t.wires = s.wires ∧
      (s.portTakes (if p % 2 = 0 then p + 1 else p - 1) = true →
        tmem t.ma.fwd (if p % 2 = 0 then p + 1 else p - 1) = true ∧ tget (fcs, []) t.ma.fwd (if p % 2 = 0 then p + 1 else p - 1) = (fcs, l)) ∧
      Quiet s t)) ∧
  (∀ (s : State) (p : Nat) (stamp : Int) (fcs : FrameCheck) (l : List Byte), s.portTakes p = true → s.timeState ≠ 0 →
    (s.window p stamp = .outside → Completes (.dataFrame p stamp fcs l) s (fun t =>
      t.fld (pkMa (p / 2)) MA_FWD_DROP_N = min 65535 (s.fld (pkMa (p / 2)) MA_FWD_DROP_N + 1) ∧
      Kept [pkMa (p / 2)] [(pkMa (p / 2), MA_FWD_DROP_N.off)] s t ∧ t.ma = s.ma ∧ t.berths = s.berths ∧ t.wires = s.wires ∧ Quiet s t)) ∧
    (∀ n late, s.window p stamp = .edge n late → Completes (.dataFrame p stamp fcs l) s (fun t =>
      let f := if p / 2 = 0 then (if late then MS_EL_MA_LATE else MS_EL_MA_EARLY) else (if late then MS_EL_MB_LATE else MS_EL_MB_EARLY)
      let earlier := (tget [] s.ma.edgeFrames (32 * (p / 2) + n)).filter (fun c => decide ((s.maCycle - c).toNat < 64))
      t.fld pkMs (f.ix n) = min 255 (s.fld pkMs (f.ix n) + 1) ∧ Kept [pkMs] [(pkMs, (f.ix n).off)] s t ∧ t.berths = s.berths ∧
      t.ma.fwd = s.ma.fwd ∧ Sends s t (0x1A8 + p / 2) 0x12 (if earlier.length = 7 then 1 else 0) ∧ Quiet s t)) ∧
    (∀ k n, s.window p stamp = .slot k n → s.running (pkMa (p / 2)) = false → Completes (.dataFrame p stamp .bad l) s (fun t =>
      t.fld (pkMa (p / 2)) MA_RX_ERR_FCS = min 255 (s.fld (pkMa (p / 2)) MA_RX_ERR_FCS + 1) ∧ t.berths = s.berths ∧
      Kept [pkMa (p / 2)] [(pkMa (p / 2), MA_RX_ERR_FCS.off)] s t ∧ t.wires = s.wires ∧ Quiet s t)) ∧
    (∀ k n, s.window p stamp = .slot k n → s.hdrFits l = true →
      (parseHdr l).ch ≠ p / 2 ∨ (parseHdr l).slot ≠ k ∨ (parseHdr l).sender ≠ n ∨ (parseHdr l).cycle ≠ s.maCycle ∨
        l.length + 4 ≠ (s.slotOf (p / 2) k).len →
      Completes (.dataFrame p stamp .good l) s (fun t =>
        t.fld (pkMa (p / 2)) MA_RX_ERR_HDR = min 255 (s.fld (pkMa (p / 2)) MA_RX_ERR_HDR + 1) ∧ t.berths = s.berths ∧
        Kept [pkMa (p / 2)] [(pkMa (p / 2), MA_RX_ERR_HDR.off)] s t ∧ Sends s t (0x1A0 + p / 2) 0x06 0 ∧ Quiet s t)) ∧
    (∀ k n, s.window p stamp = .slot k n → s.hdrFits l = true → (parseHdr l).typ = 0 → (parseHdr l).ch = p / 2 → (parseHdr l).slot = k →
      (parseHdr l).sender = n → (parseHdr l).cycle = s.maCycle → l.length + 4 = (s.slotOf (p / 2) k).len →
      (s.bit (pkMa (p / 2)) MA_CFG_RING = true → (64 * (p / 2) + k) ∈ s.ma.accepted → Completes (.dataFrame p stamp .good l) s (fun t =>
        t.word (pkMa (p / 2)) MA_RX_DUP = s.word (pkMa (p / 2)) MA_RX_DUP + 1#32 ∧ t.berths = s.berths ∧
        Kept [pkMa (p / 2)] [(pkMa (p / 2), MA_RX_DUP.off)] s t ∧ t.wires = s.wires ∧ Quiet s t)) ∧
      (s.bit (pkMa (p / 2)) MA_CFG_RING = false ∨ (64 * (p / 2) + k) ∉ s.ma.accepted → s.running (pkMa (p / 2)) = true → s.memOk →
        ∀ b, (parseHdr l).npdu = 1 → bitN (beAt l 31 1) 0 = false → 38 + beAt l 28 2 ≤ l.length →
        beAt l (34 + beAt l 28 2) 4 = (crc32c ((l.drop 26).take (8 + beAt l 28 2))).toNat →
        (s.slotBerths (s.contentOf (p / 2) k).1 (s.contentOf (p / 2) k).2 false).find? (fun i =>
          fget BTH_BERTH0_DATA_ID (s.berth0 i) == beAt l 26 2 && fget BTH_BERTH1_DLEN (s.berth1 i) == beAt l 28 2) = some b →
        let id := beAt l 26 2
        let d := (beAt l 30 1 + 256 - tget 0 s.ma.lastCnt id) % 256
        let x := s.berth b
        Completes (.dataFrame p stamp .good l) s (fun t =>
          (∀ i, i ≠ b → t.berth i = s.berth i) ∧ (n = (parseHdr l).sender → tget 0#32 t.ma.heard n = s.maCycle) ∧
          (tmem s.ma.lastCnt id = false ∨ (1 ≤ d ∧ d ≤ 127) → x.doneNow = false →
            t.berth b = { x with buf := !x.buf, valid := true, copies := (x.copies + 1) % 65536, age := 0, seen := 0, accepted := true, doneNow := true } ∧
            (∀ i, i < beAt l 28 2 → mget t.mem (s.berthAddr b (!x.buf) + i) = l.getD (34 + i) 0#8) ∧
            (∀ a, a < s.berthAddr b (!x.buf) ∨ s.berthAddr b (!x.buf) + beAt l 28 2 ≤ a → mget t.mem a = mget s.mem a) ∧
            t.word (pkMa (p / 2)) MA_RX_OK = s.word (pkMa (p / 2)) MA_RX_OK + 1#32 ∧
            (tmem s.ma.lastCnt id = true → t.fld (pkMa (p / 2)) MA_SEQ_GAP = min 65535 (s.fld (pkMa (p / 2)) MA_SEQ_GAP + (d - 1)))) ∧
          (tmem s.ma.lastCnt id = true → d = 0 → t.berth b = { x with seen := 0, accepted := true } ∧ t.mem = s.mem ∧
            t.word (pkMa (p / 2)) MA_RX_OK = s.word (pkMa (p / 2)) MA_RX_OK + 1#32) ∧
          (tmem s.ma.lastCnt id = true → 128 ≤ d → t.berth b = x ∧ t.mem = s.mem ∧
            t.fld (pkMa (p / 2)) MA_SEQ_BACK = min 65535 (s.fld (pkMa (p / 2)) MA_SEQ_BACK + 1) ∧
            t.word (pkMa (p / 2)) MA_RX_OK = s.word (pkMa (p / 2)) MA_RX_OK))))) ∧
  (∀ (s : State) (p sqi : Nat), p < 4 → sqi < 8 →
    (s.portOn p = true → s.st (pkPort p) = .idle ∨ s.st (pkPort p) = .run → Completes (.linkUp p sqi) s (fun t =>
      t.bit (pkPort p) PORT_STAT_LINK = true ∧ t.bit (pkPort p) PORT_STAT_ROLE = bitN (s.fld pkMs MS_SCHED_ROLE) p ∧
      t.fld (pkPort p) PORT_STAT_SQI = sqi ∧ t.word (pkPort p) PORT_LDELAY = 0xFFFFFFFF#32 ∧
      (∀ n, n < 32 → t.word (pkPort p) (PORT_PATH.ix n) = 0xFFFFFFFF#32) ∧ (∀ k, k ≠ pkPort p → t.page k = s.page k) ∧
      t.wires = s.wires ∧ Quiet s t)) ∧
    (s.linkUp p = true → Completes (.linkLoss p) s (fun t =>
      t.bit (pkPort p) PORT_STAT_LINK = false ∧ t.fld (pkPort p) PORT_STAT_LINK_LOSS = min 65535 (s.fld (pkPort p) PORT_STAT_LINK_LOSS + 1) ∧
      t.word (pkPort p) PORT_LDELAY = 0xFFFFFFFF#32 ∧ Sends s t (0x1A2 + p) 0x0B 1 ∧ (∀ k, k ≠ pkPort p → t.page k = s.page k) ∧ Quiet s t))) ∧
  (∀ (s : State) (p : Nat) (stamp : Int) (l : List Byte), s.portTakes p = true → s.timeState ≠ 0 → s.inLeadSlot stamp = true →
    s.hdrFits l = true → (parseHdr l).typ = 3 → (parseHdr l).ch = p / 2 → (parseHdr l).npdu = 0 → l.length = 76 →
    (s.mport p).neigh = none ∨ (s.mport p).neigh = some (parseHdr l).sender →
    Completes (.leadFrame p stamp .good l) s (fun t =>
      (t.mport p).neigh = some (parseHdr l).sender ∧ (t.mport p).leadSeen = true ∧
      (s.portMaster p = true → beAt l 35 1 % 4 = 1 → ∀ t1, (s.mport p).t1 = some t1 → (s.mport p).ldCount = 0 → 0 ≤ stamp - t1 - 144000 →
        (t.mport p).t1 = none ∧ t.ld p = some (rneDivI (rneDivI (stamp - t1 - 144000) 2) 1).toNat ∧
        t.fld (pkPort p) PORT_LDCNT_TAKEN = (s.fld (pkPort p) PORT_LDCNT_TAKEN + 1) % 256) ∧
      (s.portMaster p = true → beAt l 35 1 % 4 = 0 → t.ld p = s.ld p ∧ (t.mport p).t2 = (s.mport p).t2) ∧
      (s.portMaster p = false → beAt l 35 1 % 4 = 0 → (t.mport p).t2 = some stamp ∧
        t.ld p = (if beAt l 26 4 = 0xFFFFFFFF then none else some (beAt l 26 4))) ∧
      (∀ k, k ≠ pkPort p → k ≠ pkMa (p / 2) → t.page k = s.page k) ∧ t.wires = s.wires ∧ Quiet s t)) ∧
  (∀ (s : State) (at' : Int), s.timeState ≠ 0 → Completes (.leadSlot at') s (fun t =>
    (∀ p, p < 4 → s.portTakes p = true → s.portMaster p = true → (t.mport p).t1 = some at') ∧
    (∀ p, s.portTakes p = false ∨ s.portMaster p = false → t.mport p = s.mport p) ∧
    Kept [pkMa 0, pkMa 1] [(pkMa 0, MA_TX.off), (pkMa 1, MA_TX.off)] s t ∧ t.wires = s.wires ∧ Quiet s t)) ∧
  (∀ (s : State) (p : Nat), s.portTakes p = true → s.portMaster p = false → s.timeState ≠ 0 →
    ((s.mport p).t2.isSome = true → Completes (.leadResponse p) s (fun t =>
      (t.mport p).t2 = none ∧ t.word (pkMa (p / 2)) MA_TX = s.word (pkMa (p / 2)) MA_TX + 1#32 ∧
      beAt (tget [] t.ma.sent (p / 2)) 35 1 = 1 ∧ Kept [pkMa (p / 2)] [(pkMa (p / 2), MA_TX.off)] s t ∧ Quiet s t)) ∧
    ((s.mport p).t2 = none → Completes (.leadNotice p) s (fun t =>
      t.word (pkMa (p / 2)) MA_TX = s.word (pkMa (p / 2)) MA_TX + 1#32 ∧ beAt (tget [] t.ma.sent (p / 2)) 35 1 = 2 ∧
      Kept [pkMa (p / 2)] [(pkMa (p / 2), MA_TX.off)] s t ∧ Quiet s t)))

/-- R463, R474-R477, R482-R485: SYNC_FRAME, START_FRAME, LISTEN_TIMEOUT, HOLDOVER_END, PIER_HEAD_TAKEOVER, SLEW_END, RETURN. -/
def Obligations.MauloTimeStates : Prop :=
  (∀ (s : State) (p rank : Nat) (stamp : Int) (l : List Byte), s.portTakes p = true → s.timeState = 0 → s.listenHeld = false →
    let loads (c : Instr) (ftype : Nat) : Prop :=
      s.timeFrameRank (p / 2) ftype l = some rank → (s.mport p).neigh = some (parseHdr l).sender → Completes c s (fun t =>
        t.timeState = 2 ∧ t.fld pkMs MS_TSTAT_CLEAN = 0 ∧ t.maCycle = (parseHdr l).cycle ∧ t.fld pkMs MS_TSTAT_PH_ID = (parseHdr l).sender ∧
        (t.ma.tm : Int) = ((16 * (beAt l 26 8 : Int)) * 2 ^ 28 + ((s.ma.tm : Int) - stamp * 2 ^ 28)) % 2 ^ 96 ∧
        t.planSingle = (parseHdr l).plan ∧ t.tickAligned = s.tickAligned ∧ Quiet s t)
    loads (.syncFrame p stamp .good l) 1 ∧ loads (.startFrame p stamp .good l) 2) ∧
  (∀ (s : State) (p rank d n : Nat) (stamp : Int) (l : List Byte), s.portTakes p = true → s.timeState = 3 ∨ s.timeState = 4 →
    s.pierHead = false → s.timeFrameRank (p / 2) 1 l = some rank → (∃ k m, s.window p stamp = .slot k m) →
    s.syncWindow p (parseHdr l).sender stamp = .slot 0 n → s.bit (pkMa (p / 2)) MA_CFG_RING = false → s.ma.synced = false →
    s.path p (parseHdr l).sender = some d → 0 < s.cycleUs →
    let cs := beAt l 26 8
    let u := if (s.planSingle == (parseHdr l).plan) = true then s else s.setPlan (parseHdr l).plan
    let lim : Int := 400 * u.gmin
    let o : Int := stamp - 16 * cs - d
    let oc := clampI (-lim) lim o
    let dd := clampI (-256) 256 (if s.ma.firstAfterLoad = true then 0 else o - (s.ma.oPrev - s.ma.ocPrev))
    let ov := if lim < (o.natAbs : Int) then min 3 (s.fld pkMs MS_TSTAT_OVER + 1) else 0
    Completes (.syncFrame p stamp .good l) s (fun t =>
      t.bit (pkMa (p / 2)) MA_STAT_SYNCED = true ∧ t.fld (pkMa (p / 2)) MA_STAT_MISS = 0 ∧ t.fld pkMs MS_TSTAT_MISS = 0 ∧
      t.word pkMs MS_PH_START = BitVec.ofNat 32 cs ∧ t.planSingle = (parseHdr l).plan ∧
      t.word pkMs MS_OFFSET = BitVec.ofInt 32 o ∧
      t.word pkMs MS_RATE = BitVec.ofInt 32 (clampI (-2147484) 2147484
        (s.sfld pkMs MS_RATE - rneDivI (dd * 2 ^ 28) (400 * s.cycleUs * 2 ^ s.fld pkMs MS_TIME_CFG_KR))) ∧
      t.ma.slew = rneDivI (-oc * 2 ^ 28) (400 * s.cycleUs) ∧ t.ma.slewLeft = 400 * s.cycleUs ∧ t.ma.tm = s.ma.tm ∧
      (ov < 3 → t.timeState = 3 ∧ t.fld pkMs MS_TSTAT_OVER = ov ∧ t.fld pkMs MS_TSTAT_PH_ID = (parseHdr l).sender) ∧
      (ov = 3 → t.timeState = 0 ∧ Sends s t 0x1A7 0x12 1 ∧ t.fld pkMs MS_TCNT_LISTENS = min 255 (s.fld pkMs MS_TCNT_LISTENS + 1)) ∧
      Quiet s t)) ∧
  (∀ (s : State) (p rank own n : Nat) (stamp : Int) (l : List Byte), s.portTakes p = true → s.timeState = 3 → s.pierHead = true →
    s.csRank s.nodeId = some own → rank < own → s.timeFrameRank (p / 2) 1 l = some rank → (∃ k m, s.window p stamp = .slot k m) →
    s.syncWindow p (parseHdr l).sender stamp = .slot 0 n →
    Completes (.syncFrame p stamp .good l) s (fun t => t.timeState = 0 ∧ t.pierHead = false ∧ Sends s t 0x1A7 0x06 0 ∧ Quiet s t)) ∧
  (∀ (s : State) (p rank own : Nat) (stamp : Int) (l : List Byte), s.portTakes p = true → s.timeState = 1 → s.csRank s.nodeId = some own →
    (s.timeFrameRank (p / 2) 1 l = some rank → Completes (.syncFrame p stamp .good l) s (fun t =>
      t.timeState = 0 ∧ t.fld pkMs MS_TCNT_ABANDONS = min 255 (s.fld pkMs MS_TCNT_ABANDONS + 1) ∧ Sends s t 0x1A7 0x06 0 ∧ Quiet s t)) ∧
    (s.timeFrameRank (p / 2) 2 l = some rank → rank < own ∨ (rank = own ∧ (parseHdr l).sender < s.nodeId) →
      Completes (.startFrame p stamp .good l) s (fun t =>
        t.timeState = 0 ∧ t.fld pkMs MS_TCNT_ABANDONS = min 255 (s.fld pkMs MS_TCNT_ABANDONS + 1) ∧ Sends s t 0x1A7 0x06 0 ∧ Quiet s t)) ∧
    (s.timeFrameRank (p / 2) 2 l = some rank → own < rank → Completes (.startFrame p stamp .good l) s (fun t =>
      t.pages = s.pages ∧ t.wires = s.wires ∧ t.ma.starts = s.ma.starts ∧ Quiet s t))) ∧
  (∀ s : State, s.timeState = 0 → (s.csRank s.nodeId).isSome = true → s.listenHeld = false → (∃ p, p < 4 ∧ s.linkUp p = true) →
    Completes .listenTimeout s (fun t =>
      t.timeState = 1 ∧ t.maCycle = 0#32 ∧ t.ma.starts = 1 ∧ t.ma.cycStart = s.tm16 ∧ t.ma.tm = s.ma.tm ∧
      (∀ c, c < 2 → s.chanUp c = true → t.word (pkMa c) MA_TX = s.word (pkMa c) MA_TX + 1#32) ∧ t.wires = s.wires ∧ Quiet s t)) ∧
  (∀ s : State, s.timeState = 4 → s.fld pkMs MS_TIME_CFG_HOLD ≤ s.fld pkMs MS_TSTAT_MISS → Completes .holdoverEnd s (fun t =>
    t.timeState = 0 ∧ t.fld pkMs MS_TCNT_HOLDOVERS = min 255 (s.fld pkMs MS_TCNT_HOLDOVERS + 1) ∧ Sends s t 0x1A7 0x0B 1 ∧
    (∀ c, c < 2 → s.running (pkMa c) = true → t.st (pkMa c) = .idle) ∧ Quiet s t)) ∧
  (∀ (s : State) (own : Nat), s.timeState = 3 ∨ s.timeState = 4 → s.pierHead = false → s.csRank s.nodeId = some own →
    (4 + s.betterRanked own ≤ s.fld pkMs MS_TSTAT_MISS → Completes .pierHeadTakeover s (fun t =>
      t.timeState = 3 ∧ t.pierHead = true ∧ t.fld pkMs MS_TSTAT_PH_ID = s.nodeId ∧ t.fld pkMs MS_TSTAT_PH_RANK = own ∧
      t.fld pkMs MS_TCNT_TAKEOVERS = min 255 (s.fld pkMs MS_TCNT_TAKEOVERS + 1) ∧ t.maCycle = s.maCycle ∧ t.ma.tm = s.ma.tm ∧
      t.planSingle = s.planSingle ∧ t.wires = s.wires ∧ Quiet s t)) ∧
    (s.fld pkMs MS_TSTAT_MISS < 4 + s.betterRanked own → Completes .pierHeadTakeover s (fun t => t = s))) ∧
  (∀ s : State, Completes .slewEnd s (fun t =>
    t.ma.slew = 0 ∧ t.ma.slewLeft = 0 ∧ t.ma.tm = s.ma.tm ∧ t.pages = s.pages ∧ t.wires = s.wires ∧ Quiet s t)) ∧
  (∀ (s : State) (who : Initiator), Completes (.return who) s (fun t =>
    (s.pierHead = true → t.ma.returnReq = true) ∧ (s.pierHead = false → t.ma = s.ma) ∧ Kept [pkMs] [] s t ∧ t.wires = s.wires ∧ Quiet s t))

/-- R451, R456, R463, R465, R474, R483, R488, R497, R498, R503: SLOT_START, SYNC_WINDOW_CLOSE, CYCLE_BOUNDARY, COMMIT. -/
def Obligations.MauloCycles : Prop :=
  (∀ (s : State) (c e len : Nat) (at' : Int), c < 2 → e < 64 → s.chanUp c = true →
    let x := s.slotOf c e
    let rel := at' - s.ma.cycStart
    let onTime := x.len = len ∧ ((x.start * 1600 : Nat) : Int) ≤ rel ∧ rel ≤ ((x.start * 1600 + 1600 : Nat) : Int)
    (e ≠ 0 → x.en = true → x.sender = s.nodeId → s.running (pkMa c) = true → s.timeState = 3 ∨ s.timeState = 4 → onTime →
      Completes (.slotStart c e len at') s (fun t =>
        t.word (pkMa c) MA_TX = s.word (pkMa c) MA_TX + 1#32 ∧
        (∀ b, b ∈ s.slotBerths (s.contentOf c e).1 (s.contentOf c e).2 true → (s.berth b).valid = true → (t.berth b).fresh = false ∧
          (t.berth b).cnt = (if (s.berth b).fresh = true then ((s.berth b).cnt + 1) % 256 else (s.berth b).cnt) ∧
          (t.berth b).copies = (s.berth b).copies) ∧
        (∀ b, b ∉ s.slotBerths (s.contentOf c e).1 (s.contentOf c e).2 true → t.berth b = s.berth b) ∧
        beAt (tget [] t.ma.sent c) 14 1 = 16 ∧ beAt (tget [] t.ma.sent c) 18 4 = s.maCycle.toNat ∧
        Kept [pkMa c] [(pkMa c, MA_TX.off)] s t ∧ t.wires = s.wires ∧ Quiet s t)) ∧
    (e = 0 → x.en = true → s.timeState = 3 → s.pierHead = true → onTime → 0 ≤ at' → Completes (.slotStart c e len at') s (fun t =>
      t.word (pkMa c) MA_TX = s.word (pkMa c) MA_TX + 1#32 ∧ t.word pkMs MS_PH_START = BitVec.ofNat 32 (at' / 16).toNat ∧
      beAt (tget [] t.ma.sent c) 14 1 = 17 ∧ Kept [pkMa c, pkMs] [(pkMa c, MA_TX.off), (pkMs, MS_PH_START.off)] s t ∧ t.berths = s.berths ∧ Quiet s t)) ∧
    (x.en = false ∨ ¬ onTime ∨ (e ≠ 0 ∧ x.sender ≠ s.nodeId) ∨ s.timeState = 0 ∨ s.timeState = 2 → Completes (.slotStart c e len at') s (fun t =>
      t.fld (pkMa c) MA_TGUARD_N = min 65535 (s.fld (pkMa c) MA_TGUARD_N + 1) ∧ Sends s t (0x1A8 + c) 0x12 1 ∧ t.berths = s.berths ∧
      t.ma = s.ma ∧ Kept [pkMa c] [(pkMa c, MA_TGUARD_N.off)] s t ∧ Quiet s t))) ∧
  (∀ (s : State) (c : Nat), c < 2 → s.chanUp c = true → 2 ≤ s.timeState → s.pierHead = false → c ∉ s.ma.closed → (1 - c) ∈ s.ma.closed →
    (s.bit (pkMa c) MA_STAT_SYNCED = false → Completes (.syncWindowClose c) s (fun t =>
      t.fld (pkMa c) MA_STAT_MISS = min 7 (s.fld (pkMa c) MA_STAT_MISS + 1) ∧
      (s.fld (pkMa c) MA_STAT_MISS = 1 → Sends s t (0x1A0 + c) 0x0B 1 ∧ t.bit (pkMa 0) MA_STAT_PLAN_REQ = true ∧
        t.bit (pkMa 1) MA_STAT_PLAN_REQ = true) ∧
      (s.fld (pkMa c) MA_STAT_MISS ≠ 1 → t.wires = s.wires) ∧
      (s.bit (pkMa (1 - c)) MA_STAT_SYNCED = false → s.timeState = 3 → t.timeState = 4 ∧ t.fld pkMs MS_TSTAT_MISS = min 15 (s.fld pkMs MS_TSTAT_MISS + 1)) ∧
      (s.bit (pkMa (1 - c)) MA_STAT_SYNCED = false → s.timeState = 2 → 1 ≤ s.fld pkMs MS_TSTAT_MISS → t.timeState = 0) ∧
      (s.bit (pkMa (1 - c)) MA_STAT_SYNCED = true → s.chanUp (1 - c) = true → t.timeState = s.timeState ∧
        t.fld pkMs MS_TSTAT_MISS = s.fld pkMs MS_TSTAT_MISS ∧ t.ma.both = 0) ∧ t.berths = s.berths ∧ Quiet s t)) ∧
    (s.bit (pkMa c) MA_STAT_SYNCED = true → Completes (.syncWindowClose c) s (fun t =>
      t.fld (pkMa c) MA_STAT_MISS = s.fld (pkMa c) MA_STAT_MISS ∧ t.timeState = s.timeState ∧ t.wires = s.wires ∧
      (s.bit (pkMa (1 - c)) MA_STAT_SYNCED = true → s.chanUp (1 - c) = true → t.ma.both = min 64 (s.ma.both + 1)) ∧ Quiet s t))) ∧
  (∀ s : State, s.timeState ≠ 0 → (s.page pkMs).swapPending = false → Completes .cycleBoundary s (fun t =>
    t.maCycle = s.maCycle + 1#32 ∧ t.ma.cycStart = s.ma.cycStart + 16000 * s.cycleUs ∧
    (∀ b, (t.berth b).age = (if (s.berth b).valid = true then min 255 ((s.berth b).age + 1) else (s.berth b).age) ∧
      (t.berth b).seen = (if (s.berth b).accepted = true then min 63 ((s.berth b).seen + 1) else (s.berth b).seen) ∧
      (t.berth b).doneNow = false ∧ (t.berth b).copies = (s.berth b).copies) ∧
    t.ma.synced = false ∧ t.ma.accepted = [] ∧ t.ma.closed = [] ∧ t.ma.tm = s.ma.tm ∧
    (s.timeState = 2 → s.ma.cleanNow = true → 8 ≤ s.fld pkMs MS_TSTAT_CLEAN → t.timeState = 3) ∧
    (s.timeState = 2 → s.ma.cleanNow = false → t.timeState = 2 ∧ t.fld pkMs MS_TSTAT_CLEAN = 0) ∧
    (s.timeState = 1 → t.timeState = (if 3 ≤ s.ma.starts then 3 else 1) ∧ (3 ≤ s.ma.starts → t.pierHead = true ∧ t.fld pkMs MS_TSTAT_PH_ID = s.nodeId)) ∧
    (s.timeState = 3 → t.timeState = 3) ∧ (s.timeState = 4 → t.timeState = 4) ∧
    (s.timeState = 3 → s.pierHead = true → s.ma.reqSeen = true ∨ s.planReq = true → t.planSingle = true) ∧
    (s.timeState = 3 → s.pierHead = true → s.ma.reqSeen = false → s.planReq = false →
      (s.ma.returnReq = true → t.planSingle = false) ∧
      (s.bit pkMs MS_SCHED_AUTO_RETURN = true → (∀ c e, c < 2 → 0 < e → e < 64 →
        (s.slotIn (s.page pkMs).activeB (2 + c) e).en = true → (s.slotIn (s.page pkMs).activeB (2 + c) e).sender ≠ s.nodeId →
        (s.slotIn (s.page pkMs).activeB (2 + c) e).sender ∈ s.ma.healthy) → t.planSingle = false) ∧
      (s.ma.returnReq = false → s.bit pkMs MS_SCHED_AUTO_RETURN = false → t.planSingle = s.planSingle)) ∧
    (s.pierHead = false → t.planSingle = s.planSingle) ∧ t.wires = s.wires ∧ Quiet s t)) ∧
  (∀ s : State, s.timeState ≠ 0 → (s.page pkMs).swapPending = true → s.word pkMs MS_SWAP_AT = s.maCycle + 1#32 → s.pierHead = false →
    Completes .cycleBoundary s (fun t => (t.page pkMs).swapPending = false ∧ (t.page pkMs).activeB = !(s.page pkMs).activeB ∧
      (t.page pkBth).activeB = !(s.page pkBth).activeB ∧ t.ma.slew = 0 ∧ t.maCycle = s.maCycle + 1#32 ∧
      t.ma.cycStart = s.ma.cycStart + 16000 * s.cycleUs ∧ Quiet s t)) ∧
  (∀ (s : State) (who : Initiator) (b : Nat), b < 256 →
    (fget BTH_BERTH0_EN (s.berth0 b) = 1 → fget BTH_BERTH0_DIR (s.berth0 b) = 1 → Completes (.commit who b) s (fun t =>
      t.berth b = { s.berth b with buf := !(s.berth b).buf, valid := true, copies := ((s.berth b).copies + 1) % 65536, age := 0, fresh := true } ∧
      (∀ i, i ≠ b → t.berth i = s.berth i) ∧
      t.fld pkBth BTH_OVW_N = (if (s.berth b).fresh = true then min 65535 (s.fld pkBth BTH_OVW_N + 1) else s.fld pkBth BTH_OVW_N) ∧
      ((s.berth b).fresh = true → t.fld pkBth BTH_OVW_LAST = b) ∧ Kept [pkBth] [(pkBth, BTH_OVW_N.off)] s t ∧ t.wires = s.wires ∧ Quiet s t)) ∧
    (fget BTH_BERTH0_EN (s.berth0 b) = 0 ∨ fget BTH_BERTH0_DIR (s.berth0 b) = 0 → Completes (.commit who b) s (fun t =>
      t.berths = s.berths ∧ (t.page pkBth).clamped = true ∧ (∀ k, k ≠ pkBth → t.page k = s.page k) ∧ Quiet s t)))

/-- R505-R507: CAN_FRAME_RECEIVED, CAN_TRANSMIT, BUS_OFF, BUS_RECOVERY, RECOVER, ABORT_TX, FIFO_POP. The places of the buffers'
words and of their control bits are the model's (log entry 35). -/
def Obligations.CanControllers : Prop :=
  (∀ (s : State) (k dlc : Nat) (id flags : Word) (data : List Word) (filter : Bool), k < 4 → s.canOnBus k = true →
    bitN flags.toNat 2 = false ∨ s.bit (pkCan k) CAN_CFG_FD_EN = true →
    (∀ n, n < 32 → s.mbMatches k n id = true → (∀ m, m < n → s.mbMatches k m id = false) →
      Completes (.canFrameReceived k id flags dlc data filter) s (fun t =>
        t.word (pkCan k) (mbF n 0) = id ∧ t.word (pkCan k) (mbF n 1) = s.word (pkCan k) (mbF n 1) ∧
        bitsN (t.mbWord k n 2) 19 16 = dlc % 16 ∧ (∀ i, i < 16 → t.word (pkCan k) (mbF n (3 + i)) = data.getD i 0#32) ∧
        n ∈ (t.canOf k).unread ∧ (t.canOf k).fifo = (s.canOf k).fifo ∧
        t.fld (pkCan k) CAN_CNT_MB_OVW = (if n ∈ (s.canOf k).unread then min 65535 (s.fld (pkCan k) CAN_CNT_MB_OVW + 1) else s.fld (pkCan k) CAN_CNT_MB_OVW) ∧
        (∀ m i, m < 32 → i < 24 → m ≠ n → t.word (pkCan k) (mbF m i) = s.word (pkCan k) (mbF m i)) ∧
        (∀ j, j ≠ pkCan k → t.page j = s.page j) ∧ t.wires = s.wires ∧ Quiet s t)) ∧
    ((∀ n, n < 32 → s.mbMatches k n id = false) → filter = true → (s.canOf k).fifo.length < 32 →
      Completes (.canFrameReceived k id flags dlc data filter) s (fun t =>
        (t.canOf k).fifo = (s.canOf k).fifo ++ [canWindow id flags (dlc % 16) data] ∧
        t.fld (pkCan k) CAN_FIFO_HELD = (s.canOf k).fifo.length + 1 ∧ t.fld (pkCan k) CAN_CNT_FIFO_DROP = s.fld (pkCan k) CAN_CNT_FIFO_DROP ∧
        Kept [pkCan k] [(pkCan k, CAN_FIFO_HELD.off), (pkCan k, CAN_STAT_REC.off)] s t ∧ t.wires = s.wires ∧ Quiet s t)) ∧
    ((∀ n, n < 32 → s.mbMatches k n id = false) → filter = true → 32 ≤ (s.canOf k).fifo.length →
      Completes (.canFrameReceived k id flags dlc data filter) s (fun t =>
        (t.canOf k).fifo = (s.canOf k).fifo ∧ t.fld (pkCan k) CAN_CNT_FIFO_DROP = min 65535 (s.fld (pkCan k) CAN_CNT_FIFO_DROP + 1) ∧
        Kept [pkCan k] [(pkCan k, CAN_CNT_FIFO_DROP.off), (pkCan k, CAN_STAT_REC.off)] s t ∧ t.wires = s.wires ∧ Quiet s t))) ∧
  (∀ (s : State) (k n : Nat), k < 4 → n < 32 → s.canOnBus k = true → s.mbWaits k n = true →
    (∀ m, m < 32 → s.mbWaits k m = true → canPriority (s.mbWord k n 0) < canPriority (s.mbWord k m 0) ∨
      (canPriority (s.mbWord k n 0) = canPriority (s.mbWord k m 0) ∧ n ≤ m)) →
    Completes (.canTransmit k) s (fun t =>
      t.mbWaits k n = false ∧ (∀ m, m < 32 → m ≠ n → t.mbWaits k m = s.mbWaits k m) ∧
      (t.canOf k).sent.head? = some (s.word (pkCan k) (mbF n 0)) ∧ t.fld (pkCan k) CAN_STAT_TEC = s.fld (pkCan k) CAN_STAT_TEC - 1 ∧
      (t.canOf k).fifo = (s.canOf k).fifo ∧ Kept [pkCan k] [(pkCan k, CAN_STAT_TEC.off), (pkCan k, 0x408 + 96 * n)] s t ∧ t.wires = s.wires ∧ Quiet s t)) ∧
  (∀ (s : State) (k : Nat) (tec rec : BitVec 8), k < 4 →
    (s.canOnBus k = true → Completes (.busOff k tec rec) s (fun t =>
      t.bit (pkCan k) CAN_STAT_BUS_OFF = true ∧ t.canOnBus k = false ∧ t.fld (pkCan k) CAN_STAT_TEC = tec.toNat ∧ Sends s t (0x200 + k) 0x0B 1 ∧
      Kept [pkCan k] [(pkCan k, CAN_STAT_TEC.off)] s t ∧ Quiet s t)) ∧
    (s.busy (pkCan k) = true → s.bit (pkCan k) CAN_STAT_BUS_OFF = true → Completes (.busRecovery k) s (fun t =>
      (s.bit (pkCan k) CAN_CFG_AUTO_REC = true ∨ (s.canOf k).recovering = true → t.canOnBus k = true ∧ t.bit (pkCan k) CAN_STAT_BUS_OFF = false ∧
        t.fld (pkCan k) CAN_STAT_TEC = 0 ∧ t.fld (pkCan k) CAN_STAT_REC = 0) ∧
      (s.bit (pkCan k) CAN_CFG_AUTO_REC = false → (s.canOf k).recovering = false → t = s) ∧
      Kept [pkCan k] [(pkCan k, CAN_STAT_TEC.off)] s t ∧ t.wires = s.wires ∧ Quiet s t))) ∧
  (∀ (s : State) (who : Initiator) (k : Nat), k < 4 → s.answers (pkCan k) →
    Completes (.recover who k) s (fun t =>
      (t.canOf k).recovering = (s.bit (pkCan k) CAN_STAT_BUS_OFF || (s.canOf k).recovering) ∧ Kept [] [] s t ∧ t.wires = s.wires ∧ Quiet s t) ∧
    Completes (.abortTx who k) s (fun t =>
      (∀ n, n < 32 → t.mbWaits k n = false) ∧ (∀ n i, n < 32 → i < 24 → i ≠ 2 → t.word (pkCan k) (mbF n i) = s.word (pkCan k) (mbF n i)) ∧
      (∀ j, j ≠ pkCan k → t.page j = s.page j) ∧ t.canOf k = s.canOf k ∧ t.wires = s.wires ∧ Quiet s t)) ∧
  (∀ (s : State) (who : Initiator) (k : Nat) (w : List Word) (rest : List (List Word)), k < 4 → (s.canOf k).fifo = w :: rest → rest.length < 32 →
    Completes (.fifoPop who k) s (fun t =>
      (t.canOf k).fifo = rest ∧ t.fld (pkCan k) CAN_FIFO_HELD = rest.length ∧
      (∀ i, i < 20 → t.word (pkCan k) (CAN_FIFO_WIN.ix i) = w.getD i 0#32) ∧ (∃ v, t.reply = .data who v) ∧
      (∀ j, j ≠ pkCan k → t.page j = s.page j) ∧ t.wires = s.wires ∧ Quiet s t))

/-- R183, R508-R518: SPI_POLL, SPI_TRANSMIT, SPI_FRAME_DONE, HOST_NOP, HOST_READ, HOST_WRITE, HOST_ACCESS_DONE, SENT_FRAME, SENT_TIMEOUT,
SAR_START, SAR_TRIGGER, SAR_CONVERSION, SUPPLY_OUT_OF_WINDOW, THERMAL_SHUTDOWN, SENSOR_SUPPLY_ENABLE. The CRC of SENT and the model's
choices about it stand in log entry 36. -/
def Obligations.SpiHostSentSarSupplies : Prop :=
  (∀ (s : State) (ch : Nat), ch < 12 → s.scMode ch = 5 → s.scAlive ch = true →
    let k := s.fld (pkSc ch) SC_FRAME_SRC
    let w := (s.word (pkSpi k) (SPI_SC_CMD.ix ch)).toNat
    s.spiSends k = true → Completes (.spiPoll ch) s (fun t =>
      (t.spiOf k).jobs = (s.spiOf k).jobs ++ [.poll ch] ∧
      ((s.spiOf k).jobs = [] → (t.spiOf k).out = (w / 2 ^ 29 % 8, BitVec.ofNat 32 (w % 2 ^ s.fld (pkSpi k) SPI_CFG_BITS)) ∧
        (t.snd ch).frameTs = some s.stb) ∧
      ((s.spiOf k).jobs ≠ [] → (t.spiOf k).out = (s.spiOf k).out ∧ t.snd ch = s.snd ch) ∧ t.pages = s.pages ∧ t.wires = s.wires ∧ Quiet s t)) ∧
  (∀ (s : State) (who : Initiator) (k : Nat) (v : Word), k < 6 → s.answers (pkSpi k) → s.spiSends k = true → Completes (.spiTransmit who k v) s (fun t =>
    (t.spiOf k).jobs = (s.spiOf k).jobs ++ [.tx v] ∧
    ((s.spiOf k).jobs = [] → (t.spiOf k).out = (0, BitVec.ofNat 32 (v.toNat % 2 ^ s.fld (pkSpi k) SPI_CFG_BITS))) ∧
    Kept [] [] s t ∧ t.wires = s.wires ∧ Quiet s t)) ∧
  (∀ (s : State) (k : Nat) (rx : Word) (j : SpiJob) (rest : List SpiJob), k < 6 → (s.spiOf k).jobs = j :: rest →
    let n := s.fld (pkSpi k) SPI_CFG_BITS
    let v := rx.toNat % 2 ^ n
    let good := spiCheck (s.fld (pkSpi k) SPI_CHK_V) n v
    Completes (.spiFrameDone k rx) s (fun t =>
      (t.spiOf k).jobs = rest ∧ (s.bit (pkSpi k) SPI_CFG_LSB_FIRST = false → t.word (pkSpi k) SPI_RX = BitVec.ofNat 32 v) ∧
      t.fld (pkSpi k) SPI_CNT_CHKERR = (if good = true then s.fld (pkSpi k) SPI_CNT_CHKERR else min 65535 (s.fld (pkSpi k) SPI_CNT_CHKERR + 1)) ∧
      (∀ w, j = .tx w → Kept [pkSpi k] [(pkSpi k, SPI_RX.off), (pkSpi k, SPI_CNT_CHKERR.off)] s t ∧ t.wires = s.wires) ∧
      (∀ ch ts, j = .poll ch → ch < 12 → (s.snd ch).frameTs = some ts → s.scMode ch = 5 → s.scAlive ch = true →
        (good = false → t.fld (pkSc ch) SC_ERRCNT_DERR = min 65535 (s.fld (pkSc ch) SC_ERRCNT_DERR + 1)) ∧
        (good = false → Sends s t (0x060 + ch) 0x06 0 ∧ (t.snd ch).angle = (s.snd ch).angle) ∧
        (good = true → s.bit (pkSpi k) SPI_CFG_LSB_FIRST = false → (s.snd ch).first = true → (s.snd ch).stopped = false → s.scInv ch = false →
          (t.snd ch).angle = s.frameField ch v % s.cpr ch)) ∧ Quiet s t)) ∧
  (∀ s : State, s.hostActive = true → Completes .hostNop s (fun t =>
    t.hostPort.shown = s.hostPort.data ∧ t.hostPort.access = s.hostPort.access ∧ t.hostPort.data = s.hostPort.data ∧
    t.hostPort.status = 4 * b2n s.hostIrq + 2 * b2n s.hostPort.err + b2n s.hostPort.access.isSome ∧ t.pages = s.pages ∧ Quiet s t)) ∧
  (∀ (s : State) (addr data : Word) (early : Bool), s.hostActive = true →
    (early = true ∨ s.hostPort.access.isSome = true →
      let refused (t : State) : Prop := t.hostPort.access = s.hostPort.access ∧ t.hostPort.err = s.hostPort.err ∧
        t.hostPort.status % 2 = 1 ∧ t.fld (pkSpi 5) SPI_CNT_HOST_BUSY = min 65535 (s.fld (pkSpi 5) SPI_CNT_HOST_BUSY + 1) ∧
        Kept [pkSpi 5] [(pkSpi 5, SPI_CNT_HOST_BUSY.off)] s t ∧ Quiet s t
      Completes (.hostRead addr early) s refused ∧ Completes (.hostWrite addr data early) s refused) ∧
    (early = false → s.hostPort.access = none →
      Completes (.hostRead addr early) s (fun t =>
        t.hostPort.access = some (addr &&& 0xFFFFFFFC#32, none) ∧ t.hostPort.status % 2 = 0 ∧ t.pages = s.pages ∧ Quiet s t) ∧
      Completes (.hostWrite addr data early) s (fun t =>
        t.pages = s.pages ∧ t.hostPort.status % 2 = 0 ∧
        (s.inHigh = true → s.bit (pkSpi 5) SPI_CFG_HOST_WR = false → t.hostPort.access = none ∧ t.hostPort.err = true) ∧
        (s.inHigh = false ∨ s.bit (pkSpi 5) SPI_CFG_HOST_WR = true → t.hostPort.access = some (addr &&& 0xFFFFFFFC#32, some data)) ∧ Quiet s t))) ∧
  (∀ (s : State) (a : Word), s.hostPort.access = some (a, none) → Completes .hostAccessDone s (fun t =>
    (∀ w, (s.busRead .host a.toNat 4).2 = .ok w → t.hostPort.access = none ∧ t.hostPort.err = false ∧ t.hostPort.data = w) ∧
    ((s.busRead .host a.toNat 4).2 = .err → t.hostPort.access = none ∧ t.hostPort.err = true ∧ t.hostPort.data = s.hostPort.data) ∧
    t.pending = s.pending ∧ t.cyc = s.cyc)) ∧
  (∀ (s : State) (k : Nat) (st : BitVec 4) (d : BitVec 24) (crc : BitVec 4) (timing : Bool) (ts : Word), k < 8 → s.busy (pkSent k) = true →
    (timing = false ∨ sentCrc (s.bit (pkSent k) SENT_CFG_CRC) (nibblesOf 6 d.toNat) ≠ crc.toNat → Completes (.sentFrame k st d crc timing ts) s (fun t =>
      t.fld (pkSent k) SENT_ERR_N = min 65535 (s.fld (pkSent k) SENT_ERR_N + 1) ∧ Kept [pkSent k] [(pkSent k, SENT_ERR_N.off)] s t ∧ Quiet s t)) ∧
    (timing = true → sentCrc (s.bit (pkSent k) SENT_CFG_CRC) (nibblesOf 6 d.toNat) = crc.toNat → (∀ ch, ch < 12 → s.scMode ch ≠ 4) →
      Completes (.sentFrame k st d crc timing ts) s (fun t =>
        t.word (pkSent k) SENT_FAST_DATA &&& 0xF0FFFFFF#32 = BitVec.ofNat 32 (st.toNat * 2 ^ 28 + d.toNat) ∧
        t.word (pkSent k) SENT_FAST_TS = ts ∧ (s.bit (pkSent k) SENT_CFG_SSM_EN = false → t.sent = s.sent ∧
          t.fld (pkSent k) SENT_SSM_ID = s.fld (pkSent k) SENT_SSM_ID) ∧ (∀ j, j ≠ pkSent k → t.page j = s.page j) ∧ t.wires = s.wires ∧ Quiet s t))) ∧
  (∀ (s : State) (k : Nat), k < 8 → s.running (pkSent k) = true → Completes (.sentTimeout k) s (fun t =>
    Sends s t (0x20A + k) 0x05 1 ∧ t.pages = s.pages ∧ Quiet s t)) ∧
  (∀ (s : State) (who : Initiator) (k src : Nat), k < 2 → s.answers (pkGa k) → s.running (pkGa k) = true → s.fld (pkGa k) GA_CFG_TRIG = src →
    let trig (c : Instr) : Prop :=
      ((s.sarOf k).next = none → Completes c s (fun t => (t.sarOf k).next = some 0 ∧ Kept [] [] s t ∧ Quiet s t)) ∧
      (∀ i, (s.sarOf k).next = some i → Completes c s (fun t => t.sarOf k = s.sarOf k ∧
        t.fld (pkGa k) GA_OVR_N = min 255 (s.fld (pkGa k) GA_OVR_N + 1) ∧ Kept [pkGa k] [(pkGa k, GA_OVR_N.off)] s t ∧ Quiet s t))
    (src = 0 → trig (.sarStart who k)) ∧ (0 < src → trig (.sarTrigger k src))) ∧
  (∀ (s : State) (k i : Nat) (code : BitVec 12) (above : Bool), k < 2 → i < 16 → (s.sarOf k).next = some i →
    Completes (.sarConversion k code above) s (fun t =>
      t.word (pkGa k) (GA_RES.ix i) = BitVec.ofNat 32 ((s.word (pkCe 0) CE_TICKNO).toNat % 65536 * 65536 + (if above = true then 8192 + 4095 else code.toNat)) ∧
      (t.sarOf k).next = (if i = s.fld (pkGa k) GA_CFG_LAST then none else some (i + 1)) ∧
      Kept [pkGa k] [(pkGa k, (GA_RES.ix i).off)] s t ∧ t.wires = s.wires ∧ Quiet s t)) ∧
  (∀ (s : State) (n : Nat) (lim : Bool), n < 4 → s.supplyOn n = true →
    Completes (.supplyOutOfWindow n lim) s (fun t =>
      t.supplyOn n = true ∧ bitN t.ssStat.toNat (8 + n) = true ∧ bitN t.ssStat.toNat n = false ∧ Sends s t (0x214 + n) 0x06 1 ∧ t.pages = s.pages ∧ Quiet s t) ∧
    Completes (.thermalShutdown n) s (fun t =>
      t.supplyOn n = false ∧ bitN t.ssStat.toNat (24 + n) = true ∧ (∀ m, m ≠ n → t.supplyOn m = s.supplyOn m) ∧ Sends s t (0x214 + n) 0x06 1 ∧
      t.pages = s.pages ∧ Quiet s t)) ∧
  (∀ (s : State) (who : Initiator) (v : Word), s.pw.tide ≠ .slack → s.answers pkSup →
    Completes (.sensorSupplyEnable who v) s (fun t =>
      t.fld pkSup SUP_SS_CTRL_EN = v.toNat % 16 ∧ (∀ n, n < 4 → bitN v.toNat n = true → (t.supply n).tsd = false) ∧
      (∀ n, n < 4 → bitN v.toNat n = false → t.supplyOn n = false) ∧ t.wires = s.wires ∧ Quiet s t)) ∧
  (∀ (s : State) (who : Initiator) (v : Word), s.pw.tide = .slack → Completes (.sensorSupplyEnable who v) s (fun t => t = s))

/-- R522-R524, R528, R530, R531, R534, R535, R544, R547-R550, R553: MOORING_LINK_UP, MOORING_LINK_LOSS, PEER_ABSENT, PEER_LOST, RAW_FRAME,
AGREE_T, XCHK_FRAME, STATE_FRAME, STATE_FRAME_SENT, HEALTH_SEND, HEALTH_FRAME, HELLO_FRAME. -/
def Obligations.WatchFramesAndAgreement : Prop :=
  (∀ (s : State) (p : Nat), p < 2 →
    (s.mpUp p = false → s.st (pkMp p) = .idle ∨ s.st (pkMp p) = .run → Completes (.mooringLinkUp p) s (fun t =>
      t.mpUp p = true ∧ t.fld (pkMp p) MP_STAT_LANES = 3 ∧ t.bit (pkMp p) MP_STAT_DESKEW_OK = true ∧ t.mem = s.mem ∧ t.pending = s.pending)) ∧
    (s.mpUp p = true → Completes (.mooringLinkLoss p) s (fun t =>
      t.mpUp p = false ∧ t.fld (pkMp p) MP_CNT_LOSSES = min 255 (s.fld (pkMp p) MP_CNT_LOSSES + 1) ∧ Sends s t (0x1C0 + p) 0x0B 1 ∧
      t.peerBeacon (s.portPeer p) = (if s.gsize = 2 then t.mpUp (1 - p) && t.bit (pkMp (1 - p)) MP_STAT_BEACON else false) ∧ t.wgState = s.wgState ∧ Quiet s t))) ∧
  (∀ (s : State) (i : Nat), s.peerUp i = false →
    Completes (.peerAbsent i) s (fun t => (t.peer i).absent = true ∧ t.bit pkWg (WG_PEER_STAT_PRESENT.ix i 16) = false ∧
      (s.wgState = 1 → s.gsize = 2 → i = 0 → s.inHigh = true → t.wgState = 2) ∧ t.mem = s.mem ∧ Quiet s t) ∧
    (i ∈ s.peerList → (s.peer i).lost = false → Completes (.peerLost i) s (fun t =>
      (t.peer i).lost = true ∧ Sends s t 0x1C6 0x0B 1 ∧ Kept [pkWg] [(pkWg, (WG_PEER_STAT_PRESENT.ix i 16).off)] s t ∧ Quiet s t))) ∧
  (∀ (s : State) (p i : Nat) (l : List Byte), p < 2 → s.mpUp p = true →
    (s.mpGood p 1 i l → BitVec.ofNat 32 (beAt l 4 4) = s.word pkWg WG_PERIOD → Completes (.rawFrame p .good l) s (fun t =>
      t.wg.raws = s.wg.raws ++ [⟨beAt l 1 1 % 4, s.word pkWg WG_PERIOD, rawEntries (l.drop 8)⟩] ∧
      t.word (pkMp p) MP_RX = s.word (pkMp p) MP_RX + 1#32 ∧ t.agreed = s.agreed ∧ Quiet s t)) ∧
    (s.mpGood p 1 i l → BitVec.ofNat 32 (beAt l 4 4) ≠ s.word pkWg WG_PERIOD → Completes (.rawFrame p .good l) s (fun t =>
      t.wg.raws = s.wg.raws ∧ t.word (pkMp p) MP_RX = s.word (pkMp p) MP_RX + 1#32 ∧ Quiet s t)) ∧
    (s.gsize = 2 → s.rankPeer (beAt l 1 1 % 4) = some i → beAt l 0 1 = 1 → beAt l 1 1 / 4 % 32 = 0 → beAt l 2 2 = 0 → 8 ≤ l.length →
      (1, beAt l 1 1 % 4, BitVec.ofNat 32 (beAt l 4 4)) ∈ s.wg.frames → Completes (.rawFrame p .good l) s (fun t =>
        t.wg = s.wg ∧ t.fld (pkMp p) MP_CNT_DUP = min 255 (s.fld (pkMp p) MP_CNT_DUP + 1) ∧ Kept [pkMp p] [(pkMp p, MP_CNT_DUP.off)] s t ∧ Quiet s t)) ∧
    Completes (.rawFrame p .bad l) s (fun t =>
      t.wg = s.wg ∧ t.fld (pkMp p) MP_CNT_CRC = min 65535 (s.fld (pkMp p) MP_CNT_CRC + 1) ∧ Kept [pkMp p] [(pkMp p, MP_CNT_CRC.off)] s t ∧ Quiet s t)) ∧
  (∀ (s : State) (e : Nat), s.running pkWg = true → e < 256 → e < 252 ∨ s.sea.mf.leeEn = false →
    let w := s.word pkWg (WG_AGREE.ix e)
    let int := fget WG_AGREE_INT w == 1
    let win := s.word pkWg (WG_WIN.ix e)
    let rule := fget WG_AGREE_RULE w
    Completes .agreeT s (fun t =>
      t.word pkWg (WG_AGREED.ix e) = (t.agreedStream e).1 ∧ t.word pkWg WG_AGREE_SIG = agreeSig t.agreed ∧
      (fget WG_AGREE_SRC w = 0 ∨ (rule ≠ 3 ∧ s.entrySources e = []) ∨ (rule = 3 ∧ tmem s.wg.own e = false) →
        t.agreedStream e = ((s.agreedStream e).1, true)) ∧
      (∀ v, fget WG_AGREE_SRC w ≠ 0 → rule = 3 → tmem s.wg.own e = true → tget 0#32 s.wg.own e = v → t.agreedStream e = (v, false)) ∧
      (∀ a l, fget WG_AGREE_SRC w ≠ 0 → rule ≠ 3 → s.entrySources e = a :: l →
        (l = [] ∨ rule = 2 → t.agreedStream e = (a, false)) ∧
        (∀ b, l = [b] → rule < 2 → withinWin int a b win = true → t.agreedStream e = (if rule = 1 then meanOf int a b else a, false)) ∧
        (∀ b, l = [b] → rule < 2 → withinWin int a b win = false → t.agreedStream e = (a, false) ∧ Sends s t 0x1C3 0x06 0 ∧
          tget 0 t.wg.disputes e = min 16 (tget 0 s.wg.disputes e + 1)) ∧
        (∀ b c, l = [b, c] → rule < 2 → t.agreedStream e = (median3 int a b c, false))) ∧
      (s.gsize = 2 → (∀ r ∈ s.wg.raws, s.rankPeer r.rank ≠ some 0) →
        t.fld pkWg WG_CNT2_LATE_PEER = min 65535 (s.fld pkWg WG_CNT2_LATE_PEER + 1) ∧ ((s.peer 0).rawMiss = 7 → Sends s t 0x1C3 0x0B 1)) ∧
      t.wg.own = s.wg.own ∧ t.wg.raws = s.wg.raws ∧ t.pending = s.pending)) ∧
  (∀ (s : State) (p : Nat) (l : List Byte) (x : Xchk), s.mpGood p 2 0 l → s.gsize = 2 → BitVec.ofNat 32 (beAt l 4 4) = s.word pkWg WG_PERIOD →
    s.wg.ownX = some x → s.peerRole 0 = 5 → s.wg.departures ≠ 2 →
    let sig := BitVec.ofNat 32 (beAt l 8 4)
    let st := BitVec.ofNat 32 (beAt l 12 4)
    let y : Xchk := ⟨sig, st, beAt l 17 1 % 64, (List.range (beAt l 16 1)).map (fun j => BitVec.ofNat 32 (beAt l (24 + 4 * j) 4))⟩
    Completes (.xchkFrame p .good l) s (fun t =>
      t.word pkWg (WG_PEER_SIG.ix 0 16) = st ∧
      (s.wgState = 4 → x.agreeSig ≠ sig → t.wgState = 3 ∧ Sends s t 0x1C4 0x0B 1 ∧ t.wg.departures = s.wg.departures + 1 ∧
        t.fld pkWg WG_CNT_RESYNCS = min 255 (s.fld pkWg WG_CNT_RESYNCS + 1)) ∧
      (s.wgState = 4 → x.agreeSig = sig → xDiffer s.xSlots x y = true → t.wgState = 3 ∧ Sends s t 0x1C4 0x03 1 ∧
        t.fld pkWg WG_CNT_XDIS = min 255 (s.fld pkWg WG_CNT_XDIS + 1)) ∧
      (s.wgState = 4 → x.agreeSig = sig → xDiffer s.xSlots x y = false → x.stateSig ≠ st → t.wgState = 3 ∧ Sends s t 0x1C4 0x04 1 ∧
        t.fld pkWg WG_CNT_SIGDIS = min 255 (s.fld pkWg WG_CNT_SIGDIS + 1)) ∧
      (s.wgState = 4 → x.agreeSig = sig → xDiffer s.xSlots x y = false → x.stateSig = st → t.wgState = 4 ∧ t.wires = s.wires ∧
        t.fld pkWg WG_STAT_STEP = min 255 (s.fld pkWg WG_STAT_STEP + 1)) ∧
      (s.wgState = 3 → s.wg.caughtUp = true → x.stateSig = st → t.wgState = (if 63 ≤ s.fld pkWg WG_STAT_STEP then 4 else 3) ∧
        t.fld pkWg WG_STAT_STEP = min 255 (s.fld pkWg WG_STAT_STEP + 1)) ∧
      (s.wgState = 3 → s.wg.caughtUp = true → x.stateSig ≠ st → t.wgState = 3 ∧ t.fld pkWg WG_STAT_STEP = 0) ∧
      (s.wgState = 3 → s.wg.caughtUp = false → t.wgState = 3 ∧ t.fld pkWg WG_STAT_STEP = s.fld pkWg WG_STAT_STEP) ∧ t.wg.raws = s.wg.raws ∧ Quiet s t)) ∧
  (∀ (s : State) (p : Nat) (l : List Byte) (x : Xchk), s.mpGood p 2 0 l → s.gsize = 2 → BitVec.ofNat 32 (beAt l 4 4) = s.word pkWg WG_PERIOD →
    s.wg.ownX = some x → s.wgState = 5 → s.peerRole 0 = 4 → x.agreeSig = BitVec.ofNat 32 (beAt l 8 4) → beAt l 16 1 ≠ x.values.length →
    Completes (.xchkFrame p .good l) s (fun t => t.wgState = 5 ∧ Sends s t 0x1C4 0x03 1 ∧ t.fld pkWg WG_CNT_XDIS = min 255 (s.fld pkWg WG_CNT_XDIS + 1) ∧ Quiet s t)) ∧
  (∀ (s : State) (p i : Nat) (l : List Byte), s.mpGood p 4 i l →
    Completes (.healthFrame p .good l) s (fun t =>
      t.peerRole i = beAt l 8 4 / 2 ^ 28 ∧ t.bit pkWg (WG_PEER_STAT_READY.ix i 16) = bitN (beAt l 8 4) 11 ∧ (t.peer i).healthAt = some s.cyc ∧
      (t.peer i).ready = bitN (beAt l 8 4) 11 ∧ t.word pkWg (WG_PEER_SWEEP.ix i 16) = BitVec.ofNat 32 (beAt l 12 4) ∧
      t.bit pkWg (WG_PEER_STAT_PRESENT.ix i 16) = true ∧
      (s.lee = true → bitN (beAt l 8 4) 11 = true → s.bolOut = true → t.bolOut = false ∧ t.lee = false ∧ (∀ m, t.enable m = false)) ∧ t.pending = s.pending)) ∧
  (∀ s : State, Completes .healthSend s (fun t =>
    (∀ p, p < 2 → s.mpUp p = true → t.word (pkMp p) MP_TX = s.word (pkMp p) MP_TX + 1#32 ∧ (tget (0, []) t.wg.sent p).1 = 4 ∧
      beAt (tget (0, []) t.wg.sent p).2 12 4 = (s.word pkDr DR_SWEEPS).toNat ∧ bitN (beAt (tget (0, []) t.wg.sent p).2 8 4) 11 = s.wgReady) ∧
    (∀ p, p < 2 → s.mpUp p = false → t.page (pkMp p) = s.page (pkMp p)) ∧
    Kept [pkMp 0, pkMp 1, pkWg] [(pkMp 0, MP_TX.off), (pkMp 1, MP_TX.off), (pkWg, WG_STAT_READY.off)] s t ∧ t.wires = s.wires ∧ Quiet s t)) ∧
  (∀ (s : State) (p i : Nat) (l : List Byte), s.mpGood p 5 i l → i ∈ s.peerList → 16 ≤ l.length →
    Completes (.helloFrame p .good l) s (fun t =>
      t.peerRole i = beAt l 8 4 / 2 ^ 28 ∧ (t.peer i).hello = some (beAt l 8 4 / 2 ^ 28, BitVec.ofNat 32 (beAt l 12 4)) ∧
      (s.wgState = 1 → beAt l 8 4 / 2 ^ 28 = 5 ∨ beAt l 8 4 / 2 ^ 28 = 6 → s.gsize = 2 → t.wgState = 3 ∧
        (BitVec.ofNat 32 (beAt l 12 4) ≠ s.word pkWg WG_CONFIG_SIG → Sends s t 0x1C5 0x06 1)) ∧
      (s.wgState = 1 → beAt l 8 4 / 2 ^ 28 = 1 → s.bit pkSea (if i = 0 then SEAWALL_STAT_BOL_IN0 else SEAWALL_STAT_BOL_IN1) = true →
        t.fld pkBol BOL_CNT_MISMATCH = min 255 (s.fld pkBol BOL_CNT_MISMATCH + 1) ∧ Sends s t 0x1C2 0x06 1) ∧
      (s.wgState = 5 → s.bolOut = true → beAt l 8 4 / 2 ^ 28 = 3 → BitVec.ofNat 32 (beAt l 12 4) = s.word pkWg WG_CONFIG_SIG →
        t.wg.sending = true ∧ t.wg.sweep = s.snapBlocks ∧ t.wg.dirty = [] ∧ t.fld pkWg WG_SNAP_STAT_PHASE = 1) ∧ Quiet s t)) ∧
  (∀ (s : State) (p i a left : Nat) (l : List Byte), s.mpGood p 3 i l → s.wgState = 3 → s.wg.caughtUp = false → s.memOk → l.length = 268 →
    beAt l 8 4 = a → a % 256 = 0 → 0x20000000 ≤ a → a < 0x20800000 → left < 2 ^ 24 →
    Completes (.stateFrame p .good l 1 left) s (fun t =>
      (∀ j, j < 256 → mget t.mem (a + j) = l.getD (12 + j) 0#8) ∧ (∀ b, b < a ∨ a + 256 ≤ b → mget t.mem b = mget s.mem b) ∧
      t.fld pkWg WG_SNAP_STAT_LEFT = left ∧ t.wgState = 3 ∧ t.wires = s.wires ∧ t.pending = s.pending)) ∧
  (∀ (s : State) (a b c d e : Nat) (rest : List Nat), s.wg.sending = true → s.fld pkWg WG_SNAP_STAT_PHASE = 1 → s.wg.sweep = a :: b :: c :: d :: e :: rest →
    rest.length < 16383 → Completes .stateFrameSent s (fun t =>
      t.wg.sweep = e :: rest ∧ t.wg.dirty = s.wg.dirty.filter (fun x => !([a, b, c, d].contains x)) ∧
      t.fld pkWg WG_SNAP_STAT_LEFT = rest.length + 1 ∧ t.mem = s.mem ∧ t.wires = s.wires ∧ Quiet s t))

/-- R526, R533, R537-R540, R542, R545, R547, R548, R551: BEACON_SEND, BEACON, BEACON_TIMEOUT, LINE_MISMATCH, CLAIM, CLAIM_WINDOW_END, BOL_IN_CHANGE,
JOINING_TIMEOUT, SNAPSHOT_CUT, CAUGHT_UP, RETURN_TIMEOUT, XSWAP_MASK, LEE_NO_TIME. -/
def Obligations.WatchAuthority : Prop :=
  (∀ s : State,
    (s.bit pkSea SEAWALL_STAT_BOL_OUT = true → Completes .beaconSend s (fun t =>
      (∀ p, p < 2 → s.mpUp p = true → tget (1, []) t.wg.sent p = (0, [BitVec.ofNat 8 s.wgRank])) ∧ t.pages = s.pages ∧ t.wires = s.wires ∧ Quiet s t)) ∧
    (s.bit pkSea SEAWALL_STAT_BOL_OUT = false → Completes .beaconSend s (fun t => t = s))) ∧
  (∀ (s : State) (p rank : Nat), p < 2 → rank < 4 →
    (s.mpUp p = true → Completes (.beacon p rank) s (fun t =>
      t.bit (pkMp p) MP_STAT_BEACON = true ∧ t.fld (pkMp p) MP_STAT_PEER_RANK = rank ∧ (s.gsize = 2 → s.wgState = 1 → t.wgState = 3) ∧
      (s.wgState ≠ 1 → Kept [pkMp p] [(pkMp p, MP_STAT_BEACON.off)] s t ∧ t.wires = s.wires) ∧ Quiet s t)) ∧
    (s.mpUp p = false → Completes (.beacon p rank) s (fun t => t = s)) ∧
    Completes (.beaconTimeout p) s (fun t =>
      t.bit (pkMp p) MP_STAT_BEACON = false ∧ Kept [pkMp p] [(pkMp p, MP_STAT_BEACON.off)] s t ∧ t.wires = s.wires ∧ Quiet s t)) ∧
  (∀ (s : State) (i : Nat), i ∈ s.peerList →
    let line := s.bit pkSea (if i = 0 then SEAWALL_STAT_BOL_IN0 else SEAWALL_STAT_BOL_IN1)
    ((s.wgState = 4 ∨ s.wgState = 2) → s.peerUp i = true → line ≠ s.peerBeacon i → Completes (.lineMismatch i) s (fun t =>
      t.fld pkBol BOL_CNT_MISMATCH = min 255 (s.fld pkBol BOL_CNT_MISMATCH + 1) ∧ Sends s t 0x1C2 0x06 1 ∧
      Kept [pkBol] [(pkBol, BOL_CNT_MISMATCH.off)] s t ∧ Quiet s t)) ∧
    (line = s.peerBeacon i ∨ s.peerUp i = false → Completes (.lineMismatch i) s (fun t => t = s))) ∧
  (∀ s : State,
    (s.gsize = 0 ∨ s.armed = true → s.mayClaim = true → s.peersReleased = true → s.bolOut = false → s.fixedLive → Completes .claim s (fun t =>
      t.bolOut = true ∧ (∀ x ∈ t.dr.running, x = marchTest) ∧ t.bit pkBol BOL_STAT_CLAIM_WIN = true ∧ t.bit pkBol BOL_STAT_CONFLICT = false ∧
      t.fld pkBol BOL_CNT_CLAIMS = min 255 (s.fld pkBol BOL_CNT_CLAIMS + 1) ∧ t.bit pkSys SYS_TIDE_STAT_AUTH = decide (s.gsize = 0) ∧
      t.wgState = s.wgState ∧ (∀ m, m < 6 → t.enable m = ((s.entry m).en && !(s.softCutOf m))) ∧ Quiet s t)) ∧
    (s.mayClaim = false ∨ s.peersReleased = false ∨ s.bolOut = true ∨ (s.gsize ≠ 0 ∧ s.armed = false) → Completes .claim s (fun t => t = s)) ∧
    (s.bit pkBol BOL_STAT_CLAIM_WIN = true → Completes .claimWindowEnd s (fun t =>
      t.bit pkBol BOL_STAT_CLAIM_WIN = false ∧ t.bolOut = s.bolOut ∧ t.bit pkSys SYS_TIDE_STAT_AUTH = s.bolOut ∧
      t.wgState = (if s.wgState = 2 ∨ s.wgState = 4 then 5 else s.wgState) ∧ t.wires = s.wires ∧ Quiet s t))) ∧
  (∀ (s : State) (i : Nat), i ∈ s.peerList → s.fixedLive →
    (s.bit pkBol BOL_STAT_CLAIM_WIN = true → s.bolOut = true → Completes (.bolInChange i true) s (fun t =>
      t.bolOut = false ∧ t.bit pkBol BOL_STAT_CLAIM_WIN = false ∧ (∀ m, t.enable m = false) ∧
      t.fld pkBol BOL_CNT_WITHDRAWALS = min 255 (s.fld pkBol BOL_CNT_WITHDRAWALS + 1) ∧ (s.wgState = 2 → t.wgState = 3) ∧
      (s.wgState = 4 → t.wgState = 4) ∧ t.pending = s.pending)) ∧
    (s.bit pkBol BOL_STAT_CLAIM_WIN = false → s.bolOut = true → Completes (.bolInChange i true) s (fun t =>
      t.bolOut = false ∧ (∀ m, t.enable m = false) ∧ t.bit pkBol BOL_STAT_CONFLICT = true ∧ Sends s t 0x1C2 0x06 1 ∧
      t.fld pkBol BOL_CNT_CONFLICTS = min 255 (s.fld pkBol BOL_CNT_CONFLICTS + 1) ∧ (s.wgState = 5 ∨ s.wgState = 6 → t.wgState = 3) ∧ t.pending = s.pending)) ∧
    (s.bit pkBol BOL_STAT_CLAIM_WIN = false → s.bolOut = false → s.wgState = 2 → Completes (.bolInChange i true) s (fun t => t.wgState = 3 ∧ Quiet s t)) ∧
    Completes (.bolInChange i false) s (fun t =>
      t.bit pkSea (if i = 0 then SEAWALL_STAT_BOL_IN0 else SEAWALL_STAT_BOL_IN1) = false ∧ bitN (t.page pkBol).irqFlags.toNat 8 = true ∧
      t.wg.releasedAt = some s.cyc ∧ (s.wgState = 3 → t.wgState = 1) ∧ (s.wgState ≠ 3 → t.wgState = s.wgState) ∧ t.bolOut = s.bolOut ∧
      (s.wgState ≠ 3 → s.bolOut = false → ∀ x ∈ t.dr.running, x = marchTest) ∧ Quiet s t)) ∧
  (∀ s : State, Completes .joiningTimeout s (fun t =>
    (s.wgState = 1 → s.inHigh = true → (∀ i ∈ s.peerList, s.peerAuth i = false) → t.wgState = 2) ∧
    (s.wgState = 1 → s.inHigh = false → (∀ i ∈ s.peerList, s.peerAuth i = false) → t.wgState = 1) ∧
    (s.wgState ≠ 1 → t.pages = s.pages) ∧ t.bolOut = s.bolOut ∧ Quiet s t)) ∧
  (∀ s : State, s.wg.sending = true → s.wg.cutNext = true → s.word pkWg WG_PERIOD = s.word pkWg WG_CUT → s.wg.dirty.length < 2 ^ 24 →
    Completes .snapshotCut s (fun t =>
      t.wg.dirty = [] ∧ t.wg.cutNext = false ∧ t.wg.cutBuf.length = s.wg.dirty.length ∧
      (∀ a ∈ s.wg.dirty, (a, mbytes s.mem a 256) ∈ t.wg.cutBuf) ∧ t.fld pkWg WG_SNAP_STAT_LEFT = s.wg.dirty.length ∧
      (s.wg.dirty ≠ [] → t.fld pkWg WG_SNAP_STAT_PHASE = 3) ∧ bitN (t.page pkWg).irqFlags.toNat 8 = true ∧ t.wires = s.wires ∧ Quiet s t)) ∧
  (∀ (s : State) (who : Initiator),
    (s.wgState = 3 → Completes (.caughtUp who) s (fun t => t.wg.caughtReq = true ∧ t.wg.caughtUp = s.wg.caughtUp ∧ t.fld pkWg WG_STAT_STEP = 0 ∧
      t.wgState = 3 ∧ Kept [pkWg] [(pkWg, WG_STAT_STEP.off)] s t ∧ t.wires = s.wires ∧ Quiet s t)) ∧
    (s.wgState ≠ 3 → Completes (.caughtUp who) s (fun t => t.wg = s.wg ∧ Kept [pkWg] [] s t ∧ t.wires = s.wires ∧ Quiet s t))) ∧
  (∀ s : State,
    (s.wgState = 3 → s.wg.caughtReq = true → Completes .returnTimeout s (fun t => t.wgState = 3 ∧ t.wg.caughtReq = false ∧ t.wg.caughtUp = false ∧
      t.fld pkWg WG_SNAP_STAT_PHASE = 1 ∧ Sends s t 0x1C5 0x06 1 ∧ Quiet s t)) ∧
    (s.wg.caughtReq = false → Completes .returnTimeout s (fun t => t = s))) ∧
  (∀ (s : State) (who : Initiator) (v : Word), s.answers pkWg → (s.page pkWg).lock = false →
    let ahead := (s.word pkWg WG_XSWAP_AT - s.word pkWg WG_PERIOD).toNat
    let left := (s.word pkWg WG_XSWAP_AT * BitVec.ofNat 32 (s.fld pkWg WG_CFG_PERIOD_TICKS) - 1#32 - s.word (pkCe 0) CE_TICKNO).toNat
    Completes (.xswapMask who v) s (fun t =>
      t.fld pkWg WG_XSWAP_MASK_V = v.toNat % 64 ∧
      (0 < ahead → ahead < 2 ^ 31 → 0 < left → left < 2 ^ 31 → t.wg.xswap = true ∧ t.bit pkWg WG_STAT_XSWAP_LATE = s.bit pkWg WG_STAT_XSWAP_LATE) ∧
      (ahead = 0 ∨ 2 ^ 31 ≤ ahead ∨ left = 0 ∨ 2 ^ 31 ≤ left → t.wg.xswap = s.wg.xswap ∧ t.bit pkWg WG_STAT_XSWAP_LATE = true) ∧ t.wires = s.wires ∧ Quiet s t)) ∧
  (∀ s : State,
    (s.bolOut = true → s.timeState = 0 → s.sea.mf.leeEn = true → s.lee = false → Completes .leeNoTime s (fun t =>
      t.lee = true ∧ Sends s t 0x1C6 0x06 0 ∧ t.bolOut = true ∧ (s.wgState = 5 → t.wgState = 6) ∧ bitN (t.page pkWg).irqFlags.toNat 13 = true ∧ Quiet s t)) ∧
    (s.bolOut = false ∨ s.timeState ≠ 0 ∨ s.sea.mf.leeEn = false → Completes .leeNoTime s (fun t => t = s)))

/-- R30, R52, R567-R571, R580, R581, R585, R445: TOKEN_GRANT, TEST_END, TEST_TIMEOUT, ABORT_ALL. -/
def Obligations.DredgeTests : Prop :=
  (∀ (s : State) (k : Nat) (x : DrTest) (rest : List DrTest), drTest k = some x → s.dr.queue = x :: rest → s.dr.held = [] →
    s.testWithdrawn x = false → s.testHeld x = false →
    (s.dr.warnHold = false → s.testWaits x = false → x.tokens ≤ s.tokensFree → Completes .tokenGrant s (fun t =>
      t.dr.queue = rest ∧ t.dr.running = s.dr.running ++ [x] ∧ t.tokensFree + x.tokens = s.tokensFree ∧
      (∀ j ∈ x.pages, t.st j = .test) ∧ t.pending = s.pending ∧ t.cyc = s.cyc)) ∧
    (s.dr.warnHold = true ∨ s.testWaits x = true ∨ s.tokensFree < x.tokens → Completes .tokenGrant s (fun t => t = s))) ∧
  (∀ (s : State) (k : Nat) (x : DrTest) (others : List DrTest), drTest k = some x → s.dr.running = x :: others →
    (∀ j ∈ x.pages, s.st j = .test ∧ s.failed j = false) → s.dr.retest = [] → s.dr.stepHold = none →
    (others ≠ [] ∨ s.dr.queue ≠ [] ∨ s.dr.held ≠ []) →
    let failure (code : Nat) (t : State) : Prop :=
      t.dr.running = others ∧ t.dr.queue = s.dr.queue ∧ t.dr.sweepFailed = true ∧
      (∀ j ∈ x.pages, t.st j = .fault ∧ t.failed j = true ∧ bitN (t.page j).irqFlags.toNat 2 = true) ∧
      t.fld pkDr DR_LAST_FAIL_GROUP = k / 32 ∧ t.fld pkDr DR_LAST_FAIL_INST = k % 32 ∧ t.fld pkDr DR_LAST_FAIL_TEST = code ∧
      t.fld pkDr DR_CNT_FAILS = min 65535 (s.fld pkDr DR_CNT_FAILS + 1) ∧ bitN (t.page pkDr).irqFlags.toNat 10 = true ∧
      (kindOf k ≠ some .hm → Sends s t (pageSource k) 0x10 2) ∧
      (kindOf k = some .hm → ∃ q ∈ t.hm.own, q.source = 0x242 ∧ q.kind = 0x10#6 ∧ q.level = 3)
    Completes (.testEnd k true) s (fun t =>
      t.dr.running = others ∧ t.dr.queue = s.dr.queue ∧
      (∀ j ∈ x.pages, t.st j ≠ .test ∧ t.st j ≠ .fault ∧ t.failed j = false ∧ bitN (t.page j).irqFlags.toNat 2 = true) ∧
      t.word pkDr DR_LAST_FAIL = s.word pkDr DR_LAST_FAIL ∧ t.word pkDr DR_CNT = s.word pkDr DR_CNT ∧
      t.word pkDr DR_SWEEPS = s.word pkDr DR_SWEEPS) ∧
    Completes (.testEnd k false) s (failure x.code) ∧
    Completes (.testTimeout k) s (fun t => failure 9 t ∧ Sends s t 0x220 0x05 1)) ∧
  (∀ (s : State) (k : Nat), s.dr.running = [] → Completes (.testTimeout k) s (fun t => t = s)) ∧
  (∀ (s : State) (who : Initiator),
    (s.dr.running = [] → Completes (.abortAll who) s (fun t => t = s.keyTaken pkDr who)) ∧
    (∀ (k : Nat) (x : DrTest), drTest k = some x → s.dr.running = [x] → (∀ j ∈ x.pages, s.st j = .test ∧ s.failed j = false) →
      s.dr.retest = [] → Completes (.abortAll who) s (fun t =>
        t.dr.running = [] ∧ t.dr.queue = s.dr.queue ++ [x] ∧ t.tokensFree = 30 ∧ (∀ j ∈ x.pages, t.st j ≠ .test ∧ t.st j ≠ .fault) ∧
        t.fld pkDr DR_CNT_ABORTS = min 65535 (s.fld pkDr DR_CNT_ABORTS + 1) ∧ t.fld pkDr DR_CNT_FAILS = s.fld pkDr DR_CNT_FAILS ∧
        (∀ j, t.failed j = s.failed j) ∧ t.dr.sweeping = s.dr.sweeping ∧ t.dr.sweepFailed = s.dr.sweepFailed ∧
        t.word pkDr DR_SWEEPS = s.word pkDr DR_SWEEPS)))

/-- R34, R572, R573, R575-R577, R579-R582, R587: SWEEP, SWEEP_TIMER, TEST_END, SCRUB_READ, MARCH_DONE. -/
def Obligations.DredgeRounds : Prop :=
  let begun (s : State) (l : List DrTest) (t : State) : Prop :=
    t.dr.queue = s.dr.queue ++ l ∧ t.dr.running = s.dr.running ∧ t.dr.sweeping = true ∧ t.dr.phase = .sweep ∧ t.dr.sweepFailed = false ∧
      (∀ x ∈ l, ∀ k ∈ x.blocks, t.failed k = false ∧ (s.failed k = true → k ∈ t.dr.retest)) ∧
      (∀ k, k < 672 → (∀ x ∈ l, k ∉ x.blocks) → t.failed k = s.failed k) ∧ t.wires = s.wires ∧ Quiet s t
  (∀ (s : State) (who : Initiator),
    (s.dr.sweeping = true → Completes (.sweep who) s (fun t => t = s.keyTaken pkDr who)) ∧
    (s.dr.sweeping = false → s.pw.tide = .dryDock → Completes (.sweep who) s (begun s floodRunTests)) ∧
    (s.dr.sweeping = false → s.pw.tide ≠ .dryDock → s.isStandby = true → Completes (.sweep who) s (begun s sweepTests))) ∧
  (∀ s : State,
    (s.isStandby = true → s.bit pkDr DR_CFG_AUTO = true → s.dr.sweeping = false → Completes .sweepTimer s (begun s sweepTests)) ∧
    (s.isStandby = true → s.bit pkDr DR_CFG_AUTO = false → Completes .sweepTimer s (fun t => t = s)) ∧
    (s.isStandby = false → s.inHigh = true → s.holdsAuthority = true → Completes .sweepTimer s (fun t =>
      (∀ x, x ∈ t.dr.queue ↔ x ∈ s.dr.queue ∨ x ∈ s.serviceTests ∧ x ∉ s.dr.running ∧ x ∉ s.dr.held) ∧
      t.dr.running = s.dr.running ∧ t.pages = s.pages ∧ t.wires = s.wires ∧ Quiet s t))) ∧
  (∀ (s : State) (k : Nat) (x : DrTest), drTest k = some x → s.dr.running = [x] → s.dr.queue = [] → s.dr.held = [] → s.dr.sweeping = true →
    s.dr.stepHold = none → s.dr.retest = [] → (∀ j ∈ x.pages, s.st j = .test ∧ s.failed j = false) → Completes (.testEnd k true) s (fun t =>
      t.dr.sweeping = false ∧ t.bit pkDr DR_SWEEPS_PASSED = (!s.dr.sweepFailed) ∧
      t.fld pkDr DR_SWEEPS_N = (s.fld pkDr DR_SWEEPS_N + 1) % 65536 ∧ bitN (t.page pkDr).irqFlags.toNat 9 = true)) ∧
  (∀ (s : State) (err : SecErr),
    (s.pw.tide = .slack → Completes (.scrubRead err) s (fun t => t = s)) ∧
    (s.pw.tide ≠ .slack → Completes (.scrubRead err) s (fun t =>
      (s.dr.scrubAt + 1 < 4194304 → t.dr = { s.dr with scrubAt := s.dr.scrubAt + 1 } ∧ t.reg pkDr DR_SCRUB.off = s.reg pkDr DR_SCRUB.off) ∧
      (4194304 ≤ s.dr.scrubAt + 1 → t.dr = { s.dr with scrubAt := 0 } ∧ t.word pkDr DR_SCRUB = s.word pkDr DR_SCRUB + 1#32) ∧
      (err = .none → t.wires = s.wires) ∧ (err = .single → Sends s t memSource 0x01 0) ∧ (err = .double → Sends s t memSource 0x02 1) ∧
      Kept [pkDr] [(pkDr, DR_SCRUB.off)] s t ∧ Quiet s t))) ∧
  (∀ (s : State) (passed image : Bool), s.memOk → Completes (.marchDone passed image) s (fun t =>
    t.memOk ∧ t.dr.marchDone = true ∧ (∀ a, marchKeeps s.pw.fromUr a = true → mget t.mem a = mget s.mem a) ∧
    (∀ a, marchKeeps s.pw.fromUr a = false → mget t.mem a = mget [] a) ∧
    (passed = true → t.pages = s.pages ∧ t.wires = s.wires) ∧
    (passed = false → Sends s t memSource 0x10 2 ∧ t.fld pkDr DR_LAST_FAIL_TEST = 2 ∧ (image = true → t.pw.noImage = true) ∧
      t.fld pkDr DR_CNT_FAILS = min 65535 (s.fld pkDr DR_CNT_FAILS + 1))))

/-- R583-R585, R588, R598: BUOY_SAMPLE, JTAG_BYPASS, JTAG_SAMPLE_PRELOAD, JTAG_EXTEST, JTAG_IDCODE. -/
def Obligations.BuoysAndJtag : Prop :=
  (∀ (s : State) (page n : Nat) (reading : BitVec 16),
    (page = pkByt ∧ n < 12 ∨ page = pkByv ∧ n < 16 ∨ page = pkByp ∧ n < 4) → 1 ≤ s.fld page (BYT_CFG_FILT.ix n 16) →
    let sg (x : Nat) : Int := if page = pkByt ∧ 32768 ≤ x then (x : Int) - 65536 else x
    let r : Int := sg reading.toNat
    let a : Int := sg (s.fld page (BYT_TH_A.ix n 16))
    let b : Int := sg (s.fld page (BYT_TH_B.ix n 16))
    let h : Int := s.fld page (BYT_CFG_HYST.ix n 16)
    let mode := s.fld page (BYT_CFG_MODE.ix n 16)
    let filt := s.fld page (BYT_CFG_FILT.ix n 16)
    let was := s.fld page (BYT_VAL_STATE.ix n 16)
    let x : Buoy := tget {} s.buoys (32 * page + n)
    let long (p : Prop) (run : Nat) : Prop := p ∧ filt ≤ run + 1
    let within (d : Int) : Prop := mode = 1 ∧ r ≤ d - h ∨ mode = 2 ∧ d + h ≤ r ∨ mode = 0 ∧ a + h ≤ r ∧ r ≤ b - h
    let toLimit : Prop := was ≠ 2 ∧ long (mode = 1 ∧ b < r ∨ mode = 2 ∧ r < b ∨ mode = 0 ∧ (r < a ∨ b < r)) x.limitRun
    let toWarn : Prop := was = 0 ∧ long (mode = 1 ∧ a < r ∨ mode = 2 ∧ r < a) x.warnRun
    let back : Prop := was = 1 ∧ long (within a) x.fromWarn ∨ was = 2 ∧ long (within b) x.fromLimit
    let kind : Nat := if page = pkByt then 0x0F else if page = pkByv ∧ r < a then 0x07 else 0x06
    let src : Nat := if page = pkByt then 0x221 + n else if page = pkByv then 0x22D + n else 0x23D
    let live : Prop := s.st page ≠ .off ∧ s.st page ≠ .fault ∧ s.st page ≠ .test
    let shows (t : State) (st : Nat) : Prop :=
      t.fld page (BYT_VAL_READ.ix n 16) = reading.toNat ∧ t.fld page (BYT_VAL_STATE.ix n 16) = st ∧
        Kept [page] [(page, (BYT_VAL.ix n 16).off), (page, (BYT_CNT.ix n 16).off)] s t ∧ Quiet s t
    was < 3 → mode < 3 →
    (¬ live → Completes (.buoySample page n reading) s (fun t => t = s)) ∧
    (live → toLimit → Completes (.buoySample page n reading) s (fun t =>
      shows t 2 ∧ t.fld page (BYT_CNT_EXC.ix n 16) = min 65535 (s.fld page (BYT_CNT_EXC.ix n 16) + 1) ∧
      t.fld page (BYT_CNT_WARN.ix n 16) = s.fld page (BYT_CNT_WARN.ix n 16) ∧ bitN (t.page page).irqFlags.toNat (8 + n) = true ∧
      Sends s t src kind 1)) ∧
    (live → ¬ toLimit → toWarn → Completes (.buoySample page n reading) s (fun t =>
      shows t 1 ∧ t.fld page (BYT_CNT_WARN.ix n 16) = min 65535 (s.fld page (BYT_CNT_WARN.ix n 16) + 1) ∧
      t.fld page (BYT_CNT_EXC.ix n 16) = s.fld page (BYT_CNT_EXC.ix n 16) ∧ Sends s t src kind 0)) ∧
    (live → ¬ toLimit → ¬ toWarn → back → Completes (.buoySample page n reading) s (fun t =>
      shows t (if mode = 0 then 0 else was - 1) ∧ t.reg page (BYT_CNT.ix n 16).off = s.reg page (BYT_CNT.ix n 16).off ∧ t.wires = s.wires)) ∧
    (live → ¬ toLimit → ¬ toWarn → ¬ back → Completes (.buoySample page n reading) s (fun t =>
      shows t was ∧ t.reg page (BYT_CNT.ix n 16).off = s.reg page (BYT_CNT.ix n 16).off ∧ t.wires = s.wires))) ∧
  (∀ (s : State) (cells : List (Ball × Bool)),
    Completes .jtagBypass s (fun t => t = { s with jtag := { s.jtag with ir := .bypass, driven := [] } }) ∧
    Completes (.jtagSamplePreload cells) s (fun t => t = { s with jtag := { s.jtag with ir := .samplePreload, preload := cells, driven := [] } }) ∧
    Completes .jtagIdcode s (fun t => t = { s with jtag := { s.jtag with ir := .idcode, driven := [], id := 0x1A330B2D#32 } }) ∧
    (s.pw.tide = .dryDock → Completes .jtagExtest s (fun t =>
      t.jtag.ir = .extest ∧ t.jtag.preload = s.jtag.preload ∧
      (∀ c, c ∈ t.jtag.driven ↔ c ∈ s.jtag.preload ∧ ∃ b, c.1 = .other b) ∧ t = { s with jtag := t.jtag })) ∧
    (s.pw.tide ≠ .dryDock → Completes .jtagExtest s (fun t => t = { s with jtag := { s.jtag with ir := .bypass, driven := [] } })))

end
end

