-- ==== Sys2Proof/Laws/Mem.lean ====
section
/-!
SUPPORT. Laws/Mem.lean: reading memory after writing it, and the canonical form, which every memory operation keeps.
-/
namespace Sys2Proof.Machine

/-! ### Reading after writing -/

theorem mget_of_above {m : List Host.Cell} {k a : Nat} (h : mAbove k m = true) (ha : a ≤ k) : mget m a = memDefault := by
  induction m with
  | nil => rfl
  | cons x t ih =>
    obtain ⟨j, v⟩ := x
    simp only [mAbove, Bool.and_eq_true, decide_eq_true_eq] at h
    rw [mget, if_neg (by omega), ih h.2]

theorem mAbove_mono {m : List Host.Cell} {j k : Nat} (h : mAbove k m = true) (hj : j ≤ k) : mAbove j m = true := by
  induction m with
  | nil => rfl
  | cons x t ih =>
    simp only [mAbove, Bool.and_eq_true, decide_eq_true_eq] at h ⊢
    exact ⟨by omega, ih h.2⟩

/-- The byte just written is read; in canonical memory. -/
theorem mget_mset_same {m : List Host.Cell} (h : Memory.wf m = true) (a : Nat) (v : BitVec 8) : mget (mset m a v) a = v := by
  induction m with
  | nil => by_cases hv : v = memDefault <;> simp [mset, mget, hv]
  | cons x t ih =>
    obtain ⟨k, w⟩ := x
    simp only [Memory.wf, Bool.and_eq_true] at h
    by_cases hk : k = a
    · subst hk
      by_cases hv : v = memDefault
      · simp [mset, hv, mget_of_above h.1.2 (le_refl k)]
      · simp [mset, hv, mget]
    · by_cases hl : a < k
      · by_cases hv : v = memDefault
        · simp [mset, hk, hl, hv, mget, mget_of_above h.1.2 (Nat.le_of_lt hl)]
        · simp [mset, hk, hl, hv, mget]
      · simp [mset, hk, hl, mget, ih h.2]

/-- A byte elsewhere is read as before. -/
theorem mget_mset_ne {m : List Host.Cell} {a b : Nat} (v : BitVec 8) (hab : a ≠ b) : mget (mset m a v) b = mget m b := by
  induction m with
  | nil => by_cases hv : v = memDefault <;> simp [mset, mget, hv, hab]
  | cons x t ih =>
    obtain ⟨k, w⟩ := x
    by_cases hk : k = a
    · subst hk
      by_cases hv : v = memDefault <;> simp [mset, hv, mget, hab]
    · by_cases hl : a < k
      · by_cases hv : v = memDefault
        · simp [mset, hk, hl, hv, mget]
        · simp [mset, hk, hl, hv, mget, hab]
      · by_cases hb : k = b
        · simp only [mset, if_neg hk, if_neg hl, mget, if_pos hb]
        · simp only [mset, if_neg hk, if_neg hl, mget, if_neg hb, ih]

/-! ### The canonical form -/

theorem mAbove_mset {m : List Host.Cell} {j a : Nat} (v : BitVec 8) (h : mAbove j m = true) (ha : j < a) :
    mAbove j (mset m a v) = true := by
  induction m with
  | nil => by_cases hv : v = memDefault <;> simp [mset, mAbove, hv, ha]
  | cons x t ih =>
    obtain ⟨k, w⟩ := x
    simp only [mAbove, Bool.and_eq_true, decide_eq_true_eq] at h
    simp only [mset]
    split
    · split
      · exact h.2
      · simp [mAbove, ha, h.2]
    · split
      · split <;> simp [mAbove, h.1, h.2, ha]
      · simp [mAbove, h.1, ih h.2]

/-- A byte write keeps the canonical form. -/
theorem wf_mset {m : List Host.Cell} (h : Memory.wf m = true) (a : Nat) (v : BitVec 8) : Memory.wf (mset m a v) = true := by
  induction m with
  | nil => by_cases hv : v = memDefault <;> simp [mset, Memory.wf, mAbove, hv]
  | cons x t ih =>
    obtain ⟨k, w⟩ := x
    have h' := h
    simp only [Memory.wf, Bool.and_eq_true] at h
    simp only [mset]
    split
    · rename_i hk
      subst hk
      split
      · exact h.2
      · rename_i hv; simp [Memory.wf, hv, h.1.2, h.2]
    · split
      · rename_i hl
        split
        · exact h'
        · rename_i hv
          simp only [Memory.wf, mAbove, Bool.and_eq_true, decide_eq_true_eq]
          exact ⟨⟨by simpa using hv, hl, mAbove_mono h.1.2 (Nat.le_of_lt hl)⟩, h.1, h.2⟩
      · simp only [Memory.wf, Bool.and_eq_true]
        exact ⟨⟨h.1.1, mAbove_mset v h.1.2 (by omega)⟩, ih h.2⟩

/-- A write of several bytes keeps the canonical form. -/
theorem wf_msetN {m : List Host.Cell} (h : Memory.wf m = true) (a n v : Nat) : Memory.wf (msetN m a n v) = true := by
  induction n generalizing m a v with
  | zero => exact h
  | succ n ih => exact ih (wf_mset h _ _) _ _

theorem mAbove_filter {m : List Host.Cell} {j : Nat} (f : Host.Cell → Bool) (h : mAbove j m = true) :
    mAbove j (m.filter f) = true := by
  induction m with
  | nil => rfl
  | cons x t ih =>
    simp only [mAbove, Bool.and_eq_true] at h
    simp only [List.filter_cons]
    split
    · simp only [mAbove, Bool.and_eq_true]; exact ⟨h.1, ih h.2⟩
    · exact ih h.2

/-- Dropping entries keeps the canonical form. -/
theorem wf_filter {m : List Host.Cell} (f : Host.Cell → Bool) (h : Memory.wf m = true) : Memory.wf (m.filter f) = true := by
  induction m with
  | nil => rfl
  | cons x t ih =>
    simp only [Memory.wf, Bool.and_eq_true] at h
    simp only [List.filter_cons]
    split
    · simp only [Memory.wf, Bool.and_eq_true]; exact ⟨⟨h.1.1, mAbove_filter f h.1.2⟩, ih h.2⟩
    · exact ih h.2

/-- Clearing a range keeps the canonical form. -/
theorem wf_mzero {m : List Host.Cell} (h : Memory.wf m = true) (a n : Nat) : Memory.wf (mzero m a n) = true := wf_filter _ h

/-- A fold of byte writes keeps the canonical form. -/
theorem wf_foldl {α : Type} (l : List α) (g : List Host.Cell → α → List Host.Cell)
    (hg : ∀ m x, Memory.wf m = true → Memory.wf (g m x) = true) {m : List Host.Cell} (h : Memory.wf m = true) :
    Memory.wf (l.foldl g m) = true := by
  induction l generalizing m with
  | nil => exact h
  | cons x t ih => exact ih (hg _ _ h)

/-- A copy keeps the canonical form. -/
theorem wf_mcopy {m : List Host.Cell} (h : Memory.wf m = true) (src dst n : Nat) : Memory.wf (mcopy m src dst n) = true :=
  wf_foldl _ _ (fun _ _ hm => wf_mset hm _ _) (wf_mzero h dst n)

/-- Memory after reset is canonical. -/
theorem wf_nil : Memory.wf [] = true := rfl

end Sys2Proof.Machine
end

