-- ==== Sys2Proof/Laws/State.lean ====
section
/-!
SUPPORT. Laws/State.lean: what the shared updates leave alone: one lemma per field of the state per update, true by rfl.
-/
namespace Sys2Proof.Machine

/-! ### setPage -/

@[simp] theorem State.setPage_pending (s : State) (k : Nat) (p : Page) : (s.setPage k p).pending = s.pending := rfl
@[simp] theorem State.setPage_cyc (s : State) (k : Nat) (p : Page) : (s.setPage k p).cyc = s.cyc := rfl
@[simp] theorem State.setPage_freeCnt (s : State) (k : Nat) (p : Page) : (s.setPage k p).freeCnt = s.freeCnt := rfl
@[simp] theorem State.setPage_mem (s : State) (k : Nat) (p : Page) : (s.setPage k p).mem = s.mem := rfl
@[simp] theorem State.setPage_latches (s : State) (k : Nat) (p : Page) : (s.setPage k p).latches = s.latches := rfl
@[simp] theorem State.setPage_reply (s : State) (k : Nat) (p : Page) : (s.setPage k p).reply = s.reply := rfl
@[simp] theorem State.setPage_wires (s : State) (k : Nat) (p : Page) : (s.setPage k p).wires = s.wires := rfl
@[simp] theorem State.setPage_lines (s : State) (k : Nat) (p : Page) : (s.setPage k p).lines = s.lines := rfl
@[simp] theorem State.setPage_quay (s : State) (k : Nat) (p : Page) : (s.setPage k p).quay = s.quay := rfl
@[simp] theorem State.setPage_sluices (s : State) (k : Nat) (p : Page) : (s.setPage k p).sluices = s.sluices := rfl
@[simp] theorem State.setPage_pw (s : State) (k : Nat) (p : Page) : (s.setPage k p).pw = s.pw := rfl
@[simp] theorem State.setPage_boot (s : State) (k : Nat) (p : Page) : (s.setPage k p).boot = s.boot := rfl
@[simp] theorem State.setPage_sea (s : State) (k : Nat) (p : Page) : (s.setPage k p).sea = s.sea := rfl
@[simp] theorem State.setPage_hm (s : State) (k : Nat) (p : Page) : (s.setPage k p).hm = s.hm := rfl
@[simp] theorem State.setPage_legs (s : State) (k : Nat) (p : Page) : (s.setPage k p).legs = s.legs := rfl
@[simp] theorem State.setPage_dr (s : State) (k : Nat) (p : Page) : (s.setPage k p).dr = s.dr := rfl
@[simp] theorem State.setPage_buoys (s : State) (k : Nat) (p : Page) : (s.setPage k p).buoys = s.buoys := rfl
@[simp] theorem State.setPage_swq (s : State) (k : Nat) (p : Page) : (s.setPage k p).swq = s.swq := rfl
@[simp] theorem State.setPage_chans (s : State) (k : Nat) (p : Page) : (s.setPage k p).chans = s.chans := rfl
@[simp] theorem State.setPage_td (s : State) (k : Nat) (p : Page) : (s.setPage k p).td = s.td := rfl
@[simp] theorem State.setPage_sc (s : State) (k : Nat) (p : Page) : (s.setPage k p).sc = s.sc := rfl
@[simp] theorem State.setPage_aonCnt (s : State) (k : Nat) (p : Page) : (s.setPage k p).aonCnt = s.aonCnt := rfl
@[simp] theorem State.setPage_sx (s : State) (k : Nat) (p : Page) : (s.setPage k p).sx = s.sx := rfl
@[simp] theorem State.setPage_ce (s : State) (k : Nat) (p : Page) : (s.setPage k p).ce = s.ce := rfl
@[simp] theorem State.setPage_swl (s : State) (k : Nat) (p : Page) : (s.setPage k p).swl = s.swl := rfl
@[simp] theorem State.setPage_ij (s : State) (k : Nat) (p : Page) : (s.setPage k p).ij = s.ij := rfl
@[simp] theorem State.setPage_cap (s : State) (k : Nat) (p : Page) : (s.setPage k p).cap = s.cap := rfl
@[simp] theorem State.setPage_clearing (s : State) (k : Nat) (p : Page) : (s.setPage k p).clearing = s.clearing := rfl
@[simp] theorem State.setPage_tickOn (s : State) (k : Nat) (p : Page) : (s.setPage k p).tickOn = s.tickOn := rfl
@[simp] theorem State.setPage_tickAligned (s : State) (k : Nat) (p : Page) : (s.setPage k p).tickAligned = s.tickAligned := rfl
@[simp] theorem State.setPage_loops (s : State) (k : Nat) (p : Page) : (s.setPage k p).loops = s.loops := rfl
@[simp] theorem State.setPage_dec (s : State) (k : Nat) (p : Page) : (s.setPage k p).dec = s.dec := rfl
@[simp] theorem State.setPage_cv (s : State) (k : Nat) (p : Page) : (s.setPage k p).cv = s.cv := rfl
@[simp] theorem State.setPage_ckMem (s : State) (k : Nat) (p : Page) : (s.setPage k p).ckMem = s.ckMem := rfl
@[simp] theorem State.setPage_agreed (s : State) (k : Nat) (p : Page) : (s.setPage k p).agreed = s.agreed := rfl
@[simp] theorem State.setPage_app (s : State) (k : Nat) (p : Page) : (s.setPage k p).app = s.app := rfl
@[simp] theorem State.setPage_ma (s : State) (k : Nat) (p : Page) : (s.setPage k p).ma = s.ma := rfl
@[simp] theorem State.setPage_berths (s : State) (k : Nat) (p : Page) : (s.setPage k p).berths = s.berths := rfl
@[simp] theorem State.setPage_can (s : State) (k : Nat) (p : Page) : (s.setPage k p).can = s.can := rfl
@[simp] theorem State.setPage_spi (s : State) (k : Nat) (p : Page) : (s.setPage k p).spi = s.spi := rfl
@[simp] theorem State.setPage_hostPort (s : State) (k : Nat) (p : Page) : (s.setPage k p).hostPort = s.hostPort := rfl
@[simp] theorem State.setPage_sent (s : State) (k : Nat) (p : Page) : (s.setPage k p).sent = s.sent := rfl
@[simp] theorem State.setPage_sar (s : State) (k : Nat) (p : Page) : (s.setPage k p).sar = s.sar := rfl
@[simp] theorem State.setPage_supplies (s : State) (k : Nat) (p : Page) : (s.setPage k p).supplies = s.supplies := rfl
@[simp] theorem State.setPage_jtag (s : State) (k : Nat) (p : Page) : (s.setPage k p).jtag = s.jtag := rfl
@[simp] theorem State.setPage_wg (s : State) (k : Nat) (p : Page) : (s.setPage k p).wg = s.wg := rfl

/-! ### modPage -/

@[simp] theorem State.modPage_pending (s : State) (k : Nat) (f : Page → Page) : (s.modPage k f).pending = s.pending := rfl
@[simp] theorem State.modPage_cyc (s : State) (k : Nat) (f : Page → Page) : (s.modPage k f).cyc = s.cyc := rfl
@[simp] theorem State.modPage_freeCnt (s : State) (k : Nat) (f : Page → Page) : (s.modPage k f).freeCnt = s.freeCnt := rfl
@[simp] theorem State.modPage_mem (s : State) (k : Nat) (f : Page → Page) : (s.modPage k f).mem = s.mem := rfl
@[simp] theorem State.modPage_latches (s : State) (k : Nat) (f : Page → Page) : (s.modPage k f).latches = s.latches := rfl
@[simp] theorem State.modPage_reply (s : State) (k : Nat) (f : Page → Page) : (s.modPage k f).reply = s.reply := rfl
@[simp] theorem State.modPage_wires (s : State) (k : Nat) (f : Page → Page) : (s.modPage k f).wires = s.wires := rfl
@[simp] theorem State.modPage_lines (s : State) (k : Nat) (f : Page → Page) : (s.modPage k f).lines = s.lines := rfl
@[simp] theorem State.modPage_quay (s : State) (k : Nat) (f : Page → Page) : (s.modPage k f).quay = s.quay := rfl
@[simp] theorem State.modPage_sluices (s : State) (k : Nat) (f : Page → Page) : (s.modPage k f).sluices = s.sluices := rfl
@[simp] theorem State.modPage_pw (s : State) (k : Nat) (f : Page → Page) : (s.modPage k f).pw = s.pw := rfl
@[simp] theorem State.modPage_boot (s : State) (k : Nat) (f : Page → Page) : (s.modPage k f).boot = s.boot := rfl
@[simp] theorem State.modPage_sea (s : State) (k : Nat) (f : Page → Page) : (s.modPage k f).sea = s.sea := rfl
@[simp] theorem State.modPage_hm (s : State) (k : Nat) (f : Page → Page) : (s.modPage k f).hm = s.hm := rfl
@[simp] theorem State.modPage_legs (s : State) (k : Nat) (f : Page → Page) : (s.modPage k f).legs = s.legs := rfl
@[simp] theorem State.modPage_dr (s : State) (k : Nat) (f : Page → Page) : (s.modPage k f).dr = s.dr := rfl
@[simp] theorem State.modPage_buoys (s : State) (k : Nat) (f : Page → Page) : (s.modPage k f).buoys = s.buoys := rfl
@[simp] theorem State.modPage_swq (s : State) (k : Nat) (f : Page → Page) : (s.modPage k f).swq = s.swq := rfl
@[simp] theorem State.modPage_chans (s : State) (k : Nat) (f : Page → Page) : (s.modPage k f).chans = s.chans := rfl
@[simp] theorem State.modPage_td (s : State) (k : Nat) (f : Page → Page) : (s.modPage k f).td = s.td := rfl
@[simp] theorem State.modPage_sc (s : State) (k : Nat) (f : Page → Page) : (s.modPage k f).sc = s.sc := rfl
@[simp] theorem State.modPage_aonCnt (s : State) (k : Nat) (f : Page → Page) : (s.modPage k f).aonCnt = s.aonCnt := rfl
@[simp] theorem State.modPage_sx (s : State) (k : Nat) (f : Page → Page) : (s.modPage k f).sx = s.sx := rfl
@[simp] theorem State.modPage_ce (s : State) (k : Nat) (f : Page → Page) : (s.modPage k f).ce = s.ce := rfl
@[simp] theorem State.modPage_swl (s : State) (k : Nat) (f : Page → Page) : (s.modPage k f).swl = s.swl := rfl
@[simp] theorem State.modPage_ij (s : State) (k : Nat) (f : Page → Page) : (s.modPage k f).ij = s.ij := rfl
@[simp] theorem State.modPage_cap (s : State) (k : Nat) (f : Page → Page) : (s.modPage k f).cap = s.cap := rfl
@[simp] theorem State.modPage_clearing (s : State) (k : Nat) (f : Page → Page) : (s.modPage k f).clearing = s.clearing := rfl
@[simp] theorem State.modPage_tickOn (s : State) (k : Nat) (f : Page → Page) : (s.modPage k f).tickOn = s.tickOn := rfl
@[simp] theorem State.modPage_tickAligned (s : State) (k : Nat) (f : Page → Page) : (s.modPage k f).tickAligned = s.tickAligned := rfl
@[simp] theorem State.modPage_loops (s : State) (k : Nat) (f : Page → Page) : (s.modPage k f).loops = s.loops := rfl
@[simp] theorem State.modPage_dec (s : State) (k : Nat) (f : Page → Page) : (s.modPage k f).dec = s.dec := rfl
@[simp] theorem State.modPage_cv (s : State) (k : Nat) (f : Page → Page) : (s.modPage k f).cv = s.cv := rfl
@[simp] theorem State.modPage_ckMem (s : State) (k : Nat) (f : Page → Page) : (s.modPage k f).ckMem = s.ckMem := rfl
@[simp] theorem State.modPage_agreed (s : State) (k : Nat) (f : Page → Page) : (s.modPage k f).agreed = s.agreed := rfl
@[simp] theorem State.modPage_app (s : State) (k : Nat) (f : Page → Page) : (s.modPage k f).app = s.app := rfl
@[simp] theorem State.modPage_ma (s : State) (k : Nat) (f : Page → Page) : (s.modPage k f).ma = s.ma := rfl
@[simp] theorem State.modPage_berths (s : State) (k : Nat) (f : Page → Page) : (s.modPage k f).berths = s.berths := rfl
@[simp] theorem State.modPage_can (s : State) (k : Nat) (f : Page → Page) : (s.modPage k f).can = s.can := rfl
@[simp] theorem State.modPage_spi (s : State) (k : Nat) (f : Page → Page) : (s.modPage k f).spi = s.spi := rfl
@[simp] theorem State.modPage_hostPort (s : State) (k : Nat) (f : Page → Page) : (s.modPage k f).hostPort = s.hostPort := rfl
@[simp] theorem State.modPage_sent (s : State) (k : Nat) (f : Page → Page) : (s.modPage k f).sent = s.sent := rfl
@[simp] theorem State.modPage_sar (s : State) (k : Nat) (f : Page → Page) : (s.modPage k f).sar = s.sar := rfl
@[simp] theorem State.modPage_supplies (s : State) (k : Nat) (f : Page → Page) : (s.modPage k f).supplies = s.supplies := rfl
@[simp] theorem State.modPage_jtag (s : State) (k : Nat) (f : Page → Page) : (s.modPage k f).jtag = s.jtag := rfl
@[simp] theorem State.modPage_wg (s : State) (k : Nat) (f : Page → Page) : (s.modPage k f).wg = s.wg := rfl

/-! ### setSt -/

@[simp] theorem State.setSt_pending (s : State) (k : Nat) (x : PageSt) : (s.setSt k x).pending = s.pending := rfl
@[simp] theorem State.setSt_cyc (s : State) (k : Nat) (x : PageSt) : (s.setSt k x).cyc = s.cyc := rfl
@[simp] theorem State.setSt_freeCnt (s : State) (k : Nat) (x : PageSt) : (s.setSt k x).freeCnt = s.freeCnt := rfl
@[simp] theorem State.setSt_mem (s : State) (k : Nat) (x : PageSt) : (s.setSt k x).mem = s.mem := rfl
@[simp] theorem State.setSt_latches (s : State) (k : Nat) (x : PageSt) : (s.setSt k x).latches = s.latches := rfl
@[simp] theorem State.setSt_reply (s : State) (k : Nat) (x : PageSt) : (s.setSt k x).reply = s.reply := rfl
@[simp] theorem State.setSt_wires (s : State) (k : Nat) (x : PageSt) : (s.setSt k x).wires = s.wires := rfl
@[simp] theorem State.setSt_lines (s : State) (k : Nat) (x : PageSt) : (s.setSt k x).lines = s.lines := rfl
@[simp] theorem State.setSt_quay (s : State) (k : Nat) (x : PageSt) : (s.setSt k x).quay = s.quay := rfl
@[simp] theorem State.setSt_sluices (s : State) (k : Nat) (x : PageSt) : (s.setSt k x).sluices = s.sluices := rfl
@[simp] theorem State.setSt_pw (s : State) (k : Nat) (x : PageSt) : (s.setSt k x).pw = s.pw := rfl
@[simp] theorem State.setSt_boot (s : State) (k : Nat) (x : PageSt) : (s.setSt k x).boot = s.boot := rfl
@[simp] theorem State.setSt_sea (s : State) (k : Nat) (x : PageSt) : (s.setSt k x).sea = s.sea := rfl
@[simp] theorem State.setSt_hm (s : State) (k : Nat) (x : PageSt) : (s.setSt k x).hm = s.hm := rfl
@[simp] theorem State.setSt_legs (s : State) (k : Nat) (x : PageSt) : (s.setSt k x).legs = s.legs := rfl
@[simp] theorem State.setSt_dr (s : State) (k : Nat) (x : PageSt) : (s.setSt k x).dr = s.dr := rfl
@[simp] theorem State.setSt_buoys (s : State) (k : Nat) (x : PageSt) : (s.setSt k x).buoys = s.buoys := rfl
@[simp] theorem State.setSt_swq (s : State) (k : Nat) (x : PageSt) : (s.setSt k x).swq = s.swq := rfl
@[simp] theorem State.setSt_chans (s : State) (k : Nat) (x : PageSt) : (s.setSt k x).chans = s.chans := rfl
@[simp] theorem State.setSt_td (s : State) (k : Nat) (x : PageSt) : (s.setSt k x).td = s.td := rfl
@[simp] theorem State.setSt_sc (s : State) (k : Nat) (x : PageSt) : (s.setSt k x).sc = s.sc := rfl
@[simp] theorem State.setSt_aonCnt (s : State) (k : Nat) (x : PageSt) : (s.setSt k x).aonCnt = s.aonCnt := rfl
@[simp] theorem State.setSt_sx (s : State) (k : Nat) (x : PageSt) : (s.setSt k x).sx = s.sx := rfl
@[simp] theorem State.setSt_ce (s : State) (k : Nat) (x : PageSt) : (s.setSt k x).ce = s.ce := rfl
@[simp] theorem State.setSt_swl (s : State) (k : Nat) (x : PageSt) : (s.setSt k x).swl = s.swl := rfl
@[simp] theorem State.setSt_ij (s : State) (k : Nat) (x : PageSt) : (s.setSt k x).ij = s.ij := rfl
@[simp] theorem State.setSt_cap (s : State) (k : Nat) (x : PageSt) : (s.setSt k x).cap = s.cap := rfl
@[simp] theorem State.setSt_clearing (s : State) (k : Nat) (x : PageSt) : (s.setSt k x).clearing = s.clearing := rfl
@[simp] theorem State.setSt_tickOn (s : State) (k : Nat) (x : PageSt) : (s.setSt k x).tickOn = s.tickOn := rfl
@[simp] theorem State.setSt_tickAligned (s : State) (k : Nat) (x : PageSt) : (s.setSt k x).tickAligned = s.tickAligned := rfl
@[simp] theorem State.setSt_loops (s : State) (k : Nat) (x : PageSt) : (s.setSt k x).loops = s.loops := rfl
@[simp] theorem State.setSt_dec (s : State) (k : Nat) (x : PageSt) : (s.setSt k x).dec = s.dec := rfl
@[simp] theorem State.setSt_cv (s : State) (k : Nat) (x : PageSt) : (s.setSt k x).cv = s.cv := rfl
@[simp] theorem State.setSt_ckMem (s : State) (k : Nat) (x : PageSt) : (s.setSt k x).ckMem = s.ckMem := rfl
@[simp] theorem State.setSt_agreed (s : State) (k : Nat) (x : PageSt) : (s.setSt k x).agreed = s.agreed := rfl
@[simp] theorem State.setSt_app (s : State) (k : Nat) (x : PageSt) : (s.setSt k x).app = s.app := rfl
@[simp] theorem State.setSt_ma (s : State) (k : Nat) (x : PageSt) : (s.setSt k x).ma = s.ma := rfl
@[simp] theorem State.setSt_berths (s : State) (k : Nat) (x : PageSt) : (s.setSt k x).berths = s.berths := rfl
@[simp] theorem State.setSt_can (s : State) (k : Nat) (x : PageSt) : (s.setSt k x).can = s.can := rfl
@[simp] theorem State.setSt_spi (s : State) (k : Nat) (x : PageSt) : (s.setSt k x).spi = s.spi := rfl
@[simp] theorem State.setSt_hostPort (s : State) (k : Nat) (x : PageSt) : (s.setSt k x).hostPort = s.hostPort := rfl
@[simp] theorem State.setSt_sent (s : State) (k : Nat) (x : PageSt) : (s.setSt k x).sent = s.sent := rfl
@[simp] theorem State.setSt_sar (s : State) (k : Nat) (x : PageSt) : (s.setSt k x).sar = s.sar := rfl
@[simp] theorem State.setSt_supplies (s : State) (k : Nat) (x : PageSt) : (s.setSt k x).supplies = s.supplies := rfl
@[simp] theorem State.setSt_jtag (s : State) (k : Nat) (x : PageSt) : (s.setSt k x).jtag = s.jtag := rfl
@[simp] theorem State.setSt_wg (s : State) (k : Nat) (x : PageSt) : (s.setSt k x).wg = s.wg := rfl

/-! ### setReg -/

@[simp] theorem State.setReg_pending (s : State) (k off : Nat) (w : Word) : (s.setReg k off w).pending = s.pending := rfl
@[simp] theorem State.setReg_cyc (s : State) (k off : Nat) (w : Word) : (s.setReg k off w).cyc = s.cyc := rfl
@[simp] theorem State.setReg_freeCnt (s : State) (k off : Nat) (w : Word) : (s.setReg k off w).freeCnt = s.freeCnt := rfl
@[simp] theorem State.setReg_mem (s : State) (k off : Nat) (w : Word) : (s.setReg k off w).mem = s.mem := rfl
@[simp] theorem State.setReg_latches (s : State) (k off : Nat) (w : Word) : (s.setReg k off w).latches = s.latches := rfl
@[simp] theorem State.setReg_reply (s : State) (k off : Nat) (w : Word) : (s.setReg k off w).reply = s.reply := rfl
@[simp] theorem State.setReg_wires (s : State) (k off : Nat) (w : Word) : (s.setReg k off w).wires = s.wires := rfl
@[simp] theorem State.setReg_lines (s : State) (k off : Nat) (w : Word) : (s.setReg k off w).lines = s.lines := rfl
@[simp] theorem State.setReg_quay (s : State) (k off : Nat) (w : Word) : (s.setReg k off w).quay = s.quay := rfl
@[simp] theorem State.setReg_sluices (s : State) (k off : Nat) (w : Word) : (s.setReg k off w).sluices = s.sluices := rfl
@[simp] theorem State.setReg_pw (s : State) (k off : Nat) (w : Word) : (s.setReg k off w).pw = s.pw := rfl
@[simp] theorem State.setReg_boot (s : State) (k off : Nat) (w : Word) : (s.setReg k off w).boot = s.boot := rfl
@[simp] theorem State.setReg_sea (s : State) (k off : Nat) (w : Word) : (s.setReg k off w).sea = s.sea := rfl
@[simp] theorem State.setReg_hm (s : State) (k off : Nat) (w : Word) : (s.setReg k off w).hm = s.hm := rfl
@[simp] theorem State.setReg_legs (s : State) (k off : Nat) (w : Word) : (s.setReg k off w).legs = s.legs := rfl
@[simp] theorem State.setReg_dr (s : State) (k off : Nat) (w : Word) : (s.setReg k off w).dr = s.dr := rfl
@[simp] theorem State.setReg_buoys (s : State) (k off : Nat) (w : Word) : (s.setReg k off w).buoys = s.buoys := rfl
@[simp] theorem State.setReg_swq (s : State) (k off : Nat) (w : Word) : (s.setReg k off w).swq = s.swq := rfl
@[simp] theorem State.setReg_chans (s : State) (k off : Nat) (w : Word) : (s.setReg k off w).chans = s.chans := rfl
@[simp] theorem State.setReg_td (s : State) (k off : Nat) (w : Word) : (s.setReg k off w).td = s.td := rfl
@[simp] theorem State.setReg_sc (s : State) (k off : Nat) (w : Word) : (s.setReg k off w).sc = s.sc := rfl
@[simp] theorem State.setReg_aonCnt (s : State) (k off : Nat) (w : Word) : (s.setReg k off w).aonCnt = s.aonCnt := rfl
@[simp] theorem State.setReg_sx (s : State) (k off : Nat) (w : Word) : (s.setReg k off w).sx = s.sx := rfl
@[simp] theorem State.setReg_ce (s : State) (k off : Nat) (w : Word) : (s.setReg k off w).ce = s.ce := rfl
@[simp] theorem State.setReg_swl (s : State) (k off : Nat) (w : Word) : (s.setReg k off w).swl = s.swl := rfl
@[simp] theorem State.setReg_ij (s : State) (k off : Nat) (w : Word) : (s.setReg k off w).ij = s.ij := rfl
@[simp] theorem State.setReg_cap (s : State) (k off : Nat) (w : Word) : (s.setReg k off w).cap = s.cap := rfl
@[simp] theorem State.setReg_clearing (s : State) (k off : Nat) (w : Word) : (s.setReg k off w).clearing = s.clearing := rfl
@[simp] theorem State.setReg_tickOn (s : State) (k off : Nat) (w : Word) : (s.setReg k off w).tickOn = s.tickOn := rfl
@[simp] theorem State.setReg_tickAligned (s : State) (k off : Nat) (w : Word) : (s.setReg k off w).tickAligned = s.tickAligned := rfl
@[simp] theorem State.setReg_loops (s : State) (k off : Nat) (w : Word) : (s.setReg k off w).loops = s.loops := rfl
@[simp] theorem State.setReg_dec (s : State) (k off : Nat) (w : Word) : (s.setReg k off w).dec = s.dec := rfl
@[simp] theorem State.setReg_cv (s : State) (k off : Nat) (w : Word) : (s.setReg k off w).cv = s.cv := rfl
@[simp] theorem State.setReg_ckMem (s : State) (k off : Nat) (w : Word) : (s.setReg k off w).ckMem = s.ckMem := rfl
@[simp] theorem State.setReg_agreed (s : State) (k off : Nat) (w : Word) : (s.setReg k off w).agreed = s.agreed := rfl
@[simp] theorem State.setReg_app (s : State) (k off : Nat) (w : Word) : (s.setReg k off w).app = s.app := rfl
@[simp] theorem State.setReg_ma (s : State) (k off : Nat) (w : Word) : (s.setReg k off w).ma = s.ma := rfl
@[simp] theorem State.setReg_berths (s : State) (k off : Nat) (w : Word) : (s.setReg k off w).berths = s.berths := rfl
@[simp] theorem State.setReg_can (s : State) (k off : Nat) (w : Word) : (s.setReg k off w).can = s.can := rfl
@[simp] theorem State.setReg_spi (s : State) (k off : Nat) (w : Word) : (s.setReg k off w).spi = s.spi := rfl
@[simp] theorem State.setReg_hostPort (s : State) (k off : Nat) (w : Word) : (s.setReg k off w).hostPort = s.hostPort := rfl
@[simp] theorem State.setReg_sent (s : State) (k off : Nat) (w : Word) : (s.setReg k off w).sent = s.sent := rfl
@[simp] theorem State.setReg_sar (s : State) (k off : Nat) (w : Word) : (s.setReg k off w).sar = s.sar := rfl
@[simp] theorem State.setReg_supplies (s : State) (k off : Nat) (w : Word) : (s.setReg k off w).supplies = s.supplies := rfl
@[simp] theorem State.setReg_jtag (s : State) (k off : Nat) (w : Word) : (s.setReg k off w).jtag = s.jtag := rfl
@[simp] theorem State.setReg_wg (s : State) (k off : Nat) (w : Word) : (s.setReg k off w).wg = s.wg := rfl

/-! ### setFld -/

@[simp] theorem State.setFld_pending (s : State) (k : Nat) (f : Field) (v : Nat) : (s.setFld k f v).pending = s.pending := rfl
@[simp] theorem State.setFld_cyc (s : State) (k : Nat) (f : Field) (v : Nat) : (s.setFld k f v).cyc = s.cyc := rfl
@[simp] theorem State.setFld_freeCnt (s : State) (k : Nat) (f : Field) (v : Nat) : (s.setFld k f v).freeCnt = s.freeCnt := rfl
@[simp] theorem State.setFld_mem (s : State) (k : Nat) (f : Field) (v : Nat) : (s.setFld k f v).mem = s.mem := rfl
@[simp] theorem State.setFld_latches (s : State) (k : Nat) (f : Field) (v : Nat) : (s.setFld k f v).latches = s.latches := rfl
@[simp] theorem State.setFld_reply (s : State) (k : Nat) (f : Field) (v : Nat) : (s.setFld k f v).reply = s.reply := rfl
@[simp] theorem State.setFld_wires (s : State) (k : Nat) (f : Field) (v : Nat) : (s.setFld k f v).wires = s.wires := rfl
@[simp] theorem State.setFld_lines (s : State) (k : Nat) (f : Field) (v : Nat) : (s.setFld k f v).lines = s.lines := rfl
@[simp] theorem State.setFld_quay (s : State) (k : Nat) (f : Field) (v : Nat) : (s.setFld k f v).quay = s.quay := rfl
@[simp] theorem State.setFld_sluices (s : State) (k : Nat) (f : Field) (v : Nat) : (s.setFld k f v).sluices = s.sluices := rfl
@[simp] theorem State.setFld_pw (s : State) (k : Nat) (f : Field) (v : Nat) : (s.setFld k f v).pw = s.pw := rfl
@[simp] theorem State.setFld_boot (s : State) (k : Nat) (f : Field) (v : Nat) : (s.setFld k f v).boot = s.boot := rfl
@[simp] theorem State.setFld_sea (s : State) (k : Nat) (f : Field) (v : Nat) : (s.setFld k f v).sea = s.sea := rfl
@[simp] theorem State.setFld_hm (s : State) (k : Nat) (f : Field) (v : Nat) : (s.setFld k f v).hm = s.hm := rfl
@[simp] theorem State.setFld_legs (s : State) (k : Nat) (f : Field) (v : Nat) : (s.setFld k f v).legs = s.legs := rfl
@[simp] theorem State.setFld_dr (s : State) (k : Nat) (f : Field) (v : Nat) : (s.setFld k f v).dr = s.dr := rfl
@[simp] theorem State.setFld_buoys (s : State) (k : Nat) (f : Field) (v : Nat) : (s.setFld k f v).buoys = s.buoys := rfl
@[simp] theorem State.setFld_swq (s : State) (k : Nat) (f : Field) (v : Nat) : (s.setFld k f v).swq = s.swq := rfl
@[simp] theorem State.setFld_chans (s : State) (k : Nat) (f : Field) (v : Nat) : (s.setFld k f v).chans = s.chans := rfl
@[simp] theorem State.setFld_td (s : State) (k : Nat) (f : Field) (v : Nat) : (s.setFld k f v).td = s.td := rfl
@[simp] theorem State.setFld_sc (s : State) (k : Nat) (f : Field) (v : Nat) : (s.setFld k f v).sc = s.sc := rfl
@[simp] theorem State.setFld_aonCnt (s : State) (k : Nat) (f : Field) (v : Nat) : (s.setFld k f v).aonCnt = s.aonCnt := rfl
@[simp] theorem State.setFld_sx (s : State) (k : Nat) (f : Field) (v : Nat) : (s.setFld k f v).sx = s.sx := rfl
@[simp] theorem State.setFld_ce (s : State) (k : Nat) (f : Field) (v : Nat) : (s.setFld k f v).ce = s.ce := rfl
@[simp] theorem State.setFld_swl (s : State) (k : Nat) (f : Field) (v : Nat) : (s.setFld k f v).swl = s.swl := rfl
@[simp] theorem State.setFld_ij (s : State) (k : Nat) (f : Field) (v : Nat) : (s.setFld k f v).ij = s.ij := rfl
@[simp] theorem State.setFld_cap (s : State) (k : Nat) (f : Field) (v : Nat) : (s.setFld k f v).cap = s.cap := rfl
@[simp] theorem State.setFld_clearing (s : State) (k : Nat) (f : Field) (v : Nat) : (s.setFld k f v).clearing = s.clearing := rfl
@[simp] theorem State.setFld_tickOn (s : State) (k : Nat) (f : Field) (v : Nat) : (s.setFld k f v).tickOn = s.tickOn := rfl
@[simp] theorem State.setFld_tickAligned (s : State) (k : Nat) (f : Field) (v : Nat) : (s.setFld k f v).tickAligned = s.tickAligned := rfl
@[simp] theorem State.setFld_loops (s : State) (k : Nat) (f : Field) (v : Nat) : (s.setFld k f v).loops = s.loops := rfl
@[simp] theorem State.setFld_dec (s : State) (k : Nat) (f : Field) (v : Nat) : (s.setFld k f v).dec = s.dec := rfl
@[simp] theorem State.setFld_cv (s : State) (k : Nat) (f : Field) (v : Nat) : (s.setFld k f v).cv = s.cv := rfl
@[simp] theorem State.setFld_ckMem (s : State) (k : Nat) (f : Field) (v : Nat) : (s.setFld k f v).ckMem = s.ckMem := rfl
@[simp] theorem State.setFld_agreed (s : State) (k : Nat) (f : Field) (v : Nat) : (s.setFld k f v).agreed = s.agreed := rfl
@[simp] theorem State.setFld_app (s : State) (k : Nat) (f : Field) (v : Nat) : (s.setFld k f v).app = s.app := rfl
@[simp] theorem State.setFld_ma (s : State) (k : Nat) (f : Field) (v : Nat) : (s.setFld k f v).ma = s.ma := rfl
@[simp] theorem State.setFld_berths (s : State) (k : Nat) (f : Field) (v : Nat) : (s.setFld k f v).berths = s.berths := rfl
@[simp] theorem State.setFld_can (s : State) (k : Nat) (f : Field) (v : Nat) : (s.setFld k f v).can = s.can := rfl
@[simp] theorem State.setFld_spi (s : State) (k : Nat) (f : Field) (v : Nat) : (s.setFld k f v).spi = s.spi := rfl
@[simp] theorem State.setFld_hostPort (s : State) (k : Nat) (f : Field) (v : Nat) : (s.setFld k f v).hostPort = s.hostPort := rfl
@[simp] theorem State.setFld_sent (s : State) (k : Nat) (f : Field) (v : Nat) : (s.setFld k f v).sent = s.sent := rfl
@[simp] theorem State.setFld_sar (s : State) (k : Nat) (f : Field) (v : Nat) : (s.setFld k f v).sar = s.sar := rfl
@[simp] theorem State.setFld_supplies (s : State) (k : Nat) (f : Field) (v : Nat) : (s.setFld k f v).supplies = s.supplies := rfl
@[simp] theorem State.setFld_jtag (s : State) (k : Nat) (f : Field) (v : Nat) : (s.setFld k f v).jtag = s.jtag := rfl
@[simp] theorem State.setFld_wg (s : State) (k : Nat) (f : Field) (v : Nat) : (s.setFld k f v).wg = s.wg := rfl

/-! ### setBit -/

@[simp] theorem State.setBit_pending (s : State) (k : Nat) (f : Field) (b : Bool) : (s.setBit k f b).pending = s.pending := rfl
@[simp] theorem State.setBit_cyc (s : State) (k : Nat) (f : Field) (b : Bool) : (s.setBit k f b).cyc = s.cyc := rfl
@[simp] theorem State.setBit_freeCnt (s : State) (k : Nat) (f : Field) (b : Bool) : (s.setBit k f b).freeCnt = s.freeCnt := rfl
@[simp] theorem State.setBit_mem (s : State) (k : Nat) (f : Field) (b : Bool) : (s.setBit k f b).mem = s.mem := rfl
@[simp] theorem State.setBit_latches (s : State) (k : Nat) (f : Field) (b : Bool) : (s.setBit k f b).latches = s.latches := rfl
@[simp] theorem State.setBit_reply (s : State) (k : Nat) (f : Field) (b : Bool) : (s.setBit k f b).reply = s.reply := rfl
@[simp] theorem State.setBit_wires (s : State) (k : Nat) (f : Field) (b : Bool) : (s.setBit k f b).wires = s.wires := rfl
@[simp] theorem State.setBit_lines (s : State) (k : Nat) (f : Field) (b : Bool) : (s.setBit k f b).lines = s.lines := rfl
@[simp] theorem State.setBit_quay (s : State) (k : Nat) (f : Field) (b : Bool) : (s.setBit k f b).quay = s.quay := rfl
@[simp] theorem State.setBit_sluices (s : State) (k : Nat) (f : Field) (b : Bool) : (s.setBit k f b).sluices = s.sluices := rfl
@[simp] theorem State.setBit_pw (s : State) (k : Nat) (f : Field) (b : Bool) : (s.setBit k f b).pw = s.pw := rfl
@[simp] theorem State.setBit_boot (s : State) (k : Nat) (f : Field) (b : Bool) : (s.setBit k f b).boot = s.boot := rfl
@[simp] theorem State.setBit_sea (s : State) (k : Nat) (f : Field) (b : Bool) : (s.setBit k f b).sea = s.sea := rfl
@[simp] theorem State.setBit_hm (s : State) (k : Nat) (f : Field) (b : Bool) : (s.setBit k f b).hm = s.hm := rfl
@[simp] theorem State.setBit_legs (s : State) (k : Nat) (f : Field) (b : Bool) : (s.setBit k f b).legs = s.legs := rfl
@[simp] theorem State.setBit_dr (s : State) (k : Nat) (f : Field) (b : Bool) : (s.setBit k f b).dr = s.dr := rfl
@[simp] theorem State.setBit_buoys (s : State) (k : Nat) (f : Field) (b : Bool) : (s.setBit k f b).buoys = s.buoys := rfl
@[simp] theorem State.setBit_swq (s : State) (k : Nat) (f : Field) (b : Bool) : (s.setBit k f b).swq = s.swq := rfl
@[simp] theorem State.setBit_chans (s : State) (k : Nat) (f : Field) (b : Bool) : (s.setBit k f b).chans = s.chans := rfl
@[simp] theorem State.setBit_td (s : State) (k : Nat) (f : Field) (b : Bool) : (s.setBit k f b).td = s.td := rfl
@[simp] theorem State.setBit_sc (s : State) (k : Nat) (f : Field) (b : Bool) : (s.setBit k f b).sc = s.sc := rfl
@[simp] theorem State.setBit_aonCnt (s : State) (k : Nat) (f : Field) (b : Bool) : (s.setBit k f b).aonCnt = s.aonCnt := rfl
@[simp] theorem State.setBit_sx (s : State) (k : Nat) (f : Field) (b : Bool) : (s.setBit k f b).sx = s.sx := rfl
@[simp] theorem State.setBit_ce (s : State) (k : Nat) (f : Field) (b : Bool) : (s.setBit k f b).ce = s.ce := rfl
@[simp] theorem State.setBit_swl (s : State) (k : Nat) (f : Field) (b : Bool) : (s.setBit k f b).swl = s.swl := rfl
@[simp] theorem State.setBit_ij (s : State) (k : Nat) (f : Field) (b : Bool) : (s.setBit k f b).ij = s.ij := rfl
@[simp] theorem State.setBit_cap (s : State) (k : Nat) (f : Field) (b : Bool) : (s.setBit k f b).cap = s.cap := rfl
@[simp] theorem State.setBit_clearing (s : State) (k : Nat) (f : Field) (b : Bool) : (s.setBit k f b).clearing = s.clearing := rfl
@[simp] theorem State.setBit_tickOn (s : State) (k : Nat) (f : Field) (b : Bool) : (s.setBit k f b).tickOn = s.tickOn := rfl
@[simp] theorem State.setBit_tickAligned (s : State) (k : Nat) (f : Field) (b : Bool) : (s.setBit k f b).tickAligned = s.tickAligned := rfl
@[simp] theorem State.setBit_loops (s : State) (k : Nat) (f : Field) (b : Bool) : (s.setBit k f b).loops = s.loops := rfl
@[simp] theorem State.setBit_dec (s : State) (k : Nat) (f : Field) (b : Bool) : (s.setBit k f b).dec = s.dec := rfl
@[simp] theorem State.setBit_cv (s : State) (k : Nat) (f : Field) (b : Bool) : (s.setBit k f b).cv = s.cv := rfl
@[simp] theorem State.setBit_ckMem (s : State) (k : Nat) (f : Field) (b : Bool) : (s.setBit k f b).ckMem = s.ckMem := rfl
@[simp] theorem State.setBit_agreed (s : State) (k : Nat) (f : Field) (b : Bool) : (s.setBit k f b).agreed = s.agreed := rfl
@[simp] theorem State.setBit_app (s : State) (k : Nat) (f : Field) (b : Bool) : (s.setBit k f b).app = s.app := rfl
@[simp] theorem State.setBit_ma (s : State) (k : Nat) (f : Field) (b : Bool) : (s.setBit k f b).ma = s.ma := rfl
@[simp] theorem State.setBit_berths (s : State) (k : Nat) (f : Field) (b : Bool) : (s.setBit k f b).berths = s.berths := rfl
@[simp] theorem State.setBit_can (s : State) (k : Nat) (f : Field) (b : Bool) : (s.setBit k f b).can = s.can := rfl
@[simp] theorem State.setBit_spi (s : State) (k : Nat) (f : Field) (b : Bool) : (s.setBit k f b).spi = s.spi := rfl
@[simp] theorem State.setBit_hostPort (s : State) (k : Nat) (f : Field) (b : Bool) : (s.setBit k f b).hostPort = s.hostPort := rfl
@[simp] theorem State.setBit_sent (s : State) (k : Nat) (f : Field) (b : Bool) : (s.setBit k f b).sent = s.sent := rfl
@[simp] theorem State.setBit_sar (s : State) (k : Nat) (f : Field) (b : Bool) : (s.setBit k f b).sar = s.sar := rfl
@[simp] theorem State.setBit_supplies (s : State) (k : Nat) (f : Field) (b : Bool) : (s.setBit k f b).supplies = s.supplies := rfl
@[simp] theorem State.setBit_jtag (s : State) (k : Nat) (f : Field) (b : Bool) : (s.setBit k f b).jtag = s.jtag := rfl
@[simp] theorem State.setBit_wg (s : State) (k : Nat) (f : Field) (b : Bool) : (s.setBit k f b).wg = s.wg := rfl

/-! ### setSfld -/

@[simp] theorem State.setSfld_pending (s : State) (k : Nat) (f : Field) (v : Int) : (s.setSfld k f v).pending = s.pending := rfl
@[simp] theorem State.setSfld_cyc (s : State) (k : Nat) (f : Field) (v : Int) : (s.setSfld k f v).cyc = s.cyc := rfl
@[simp] theorem State.setSfld_freeCnt (s : State) (k : Nat) (f : Field) (v : Int) : (s.setSfld k f v).freeCnt = s.freeCnt := rfl
@[simp] theorem State.setSfld_mem (s : State) (k : Nat) (f : Field) (v : Int) : (s.setSfld k f v).mem = s.mem := rfl
@[simp] theorem State.setSfld_latches (s : State) (k : Nat) (f : Field) (v : Int) : (s.setSfld k f v).latches = s.latches := rfl
@[simp] theorem State.setSfld_reply (s : State) (k : Nat) (f : Field) (v : Int) : (s.setSfld k f v).reply = s.reply := rfl
@[simp] theorem State.setSfld_wires (s : State) (k : Nat) (f : Field) (v : Int) : (s.setSfld k f v).wires = s.wires := rfl
@[simp] theorem State.setSfld_lines (s : State) (k : Nat) (f : Field) (v : Int) : (s.setSfld k f v).lines = s.lines := rfl
@[simp] theorem State.setSfld_quay (s : State) (k : Nat) (f : Field) (v : Int) : (s.setSfld k f v).quay = s.quay := rfl
@[simp] theorem State.setSfld_sluices (s : State) (k : Nat) (f : Field) (v : Int) : (s.setSfld k f v).sluices = s.sluices := rfl
@[simp] theorem State.setSfld_pw (s : State) (k : Nat) (f : Field) (v : Int) : (s.setSfld k f v).pw = s.pw := rfl
@[simp] theorem State.setSfld_boot (s : State) (k : Nat) (f : Field) (v : Int) : (s.setSfld k f v).boot = s.boot := rfl
@[simp] theorem State.setSfld_sea (s : State) (k : Nat) (f : Field) (v : Int) : (s.setSfld k f v).sea = s.sea := rfl
@[simp] theorem State.setSfld_hm (s : State) (k : Nat) (f : Field) (v : Int) : (s.setSfld k f v).hm = s.hm := rfl
@[simp] theorem State.setSfld_legs (s : State) (k : Nat) (f : Field) (v : Int) : (s.setSfld k f v).legs = s.legs := rfl
@[simp] theorem State.setSfld_dr (s : State) (k : Nat) (f : Field) (v : Int) : (s.setSfld k f v).dr = s.dr := rfl
@[simp] theorem State.setSfld_buoys (s : State) (k : Nat) (f : Field) (v : Int) : (s.setSfld k f v).buoys = s.buoys := rfl
@[simp] theorem State.setSfld_swq (s : State) (k : Nat) (f : Field) (v : Int) : (s.setSfld k f v).swq = s.swq := rfl
@[simp] theorem State.setSfld_chans (s : State) (k : Nat) (f : Field) (v : Int) : (s.setSfld k f v).chans = s.chans := rfl
@[simp] theorem State.setSfld_td (s : State) (k : Nat) (f : Field) (v : Int) : (s.setSfld k f v).td = s.td := rfl
@[simp] theorem State.setSfld_sc (s : State) (k : Nat) (f : Field) (v : Int) : (s.setSfld k f v).sc = s.sc := rfl
@[simp] theorem State.setSfld_aonCnt (s : State) (k : Nat) (f : Field) (v : Int) : (s.setSfld k f v).aonCnt = s.aonCnt := rfl
@[simp] theorem State.setSfld_sx (s : State) (k : Nat) (f : Field) (v : Int) : (s.setSfld k f v).sx = s.sx := rfl
@[simp] theorem State.setSfld_ce (s : State) (k : Nat) (f : Field) (v : Int) : (s.setSfld k f v).ce = s.ce := rfl
@[simp] theorem State.setSfld_swl (s : State) (k : Nat) (f : Field) (v : Int) : (s.setSfld k f v).swl = s.swl := rfl
@[simp] theorem State.setSfld_ij (s : State) (k : Nat) (f : Field) (v : Int) : (s.setSfld k f v).ij = s.ij := rfl
@[simp] theorem State.setSfld_cap (s : State) (k : Nat) (f : Field) (v : Int) : (s.setSfld k f v).cap = s.cap := rfl
@[simp] theorem State.setSfld_clearing (s : State) (k : Nat) (f : Field) (v : Int) : (s.setSfld k f v).clearing = s.clearing := rfl
@[simp] theorem State.setSfld_tickOn (s : State) (k : Nat) (f : Field) (v : Int) : (s.setSfld k f v).tickOn = s.tickOn := rfl
@[simp] theorem State.setSfld_tickAligned (s : State) (k : Nat) (f : Field) (v : Int) : (s.setSfld k f v).tickAligned = s.tickAligned := rfl
@[simp] theorem State.setSfld_loops (s : State) (k : Nat) (f : Field) (v : Int) : (s.setSfld k f v).loops = s.loops := rfl
@[simp] theorem State.setSfld_dec (s : State) (k : Nat) (f : Field) (v : Int) : (s.setSfld k f v).dec = s.dec := rfl
@[simp] theorem State.setSfld_cv (s : State) (k : Nat) (f : Field) (v : Int) : (s.setSfld k f v).cv = s.cv := rfl
@[simp] theorem State.setSfld_ckMem (s : State) (k : Nat) (f : Field) (v : Int) : (s.setSfld k f v).ckMem = s.ckMem := rfl
@[simp] theorem State.setSfld_agreed (s : State) (k : Nat) (f : Field) (v : Int) : (s.setSfld k f v).agreed = s.agreed := rfl
@[simp] theorem State.setSfld_app (s : State) (k : Nat) (f : Field) (v : Int) : (s.setSfld k f v).app = s.app := rfl
@[simp] theorem State.setSfld_ma (s : State) (k : Nat) (f : Field) (v : Int) : (s.setSfld k f v).ma = s.ma := rfl
@[simp] theorem State.setSfld_berths (s : State) (k : Nat) (f : Field) (v : Int) : (s.setSfld k f v).berths = s.berths := rfl
@[simp] theorem State.setSfld_can (s : State) (k : Nat) (f : Field) (v : Int) : (s.setSfld k f v).can = s.can := rfl
@[simp] theorem State.setSfld_spi (s : State) (k : Nat) (f : Field) (v : Int) : (s.setSfld k f v).spi = s.spi := rfl
@[simp] theorem State.setSfld_hostPort (s : State) (k : Nat) (f : Field) (v : Int) : (s.setSfld k f v).hostPort = s.hostPort := rfl
@[simp] theorem State.setSfld_sent (s : State) (k : Nat) (f : Field) (v : Int) : (s.setSfld k f v).sent = s.sent := rfl
@[simp] theorem State.setSfld_sar (s : State) (k : Nat) (f : Field) (v : Int) : (s.setSfld k f v).sar = s.sar := rfl
@[simp] theorem State.setSfld_supplies (s : State) (k : Nat) (f : Field) (v : Int) : (s.setSfld k f v).supplies = s.supplies := rfl
@[simp] theorem State.setSfld_jtag (s : State) (k : Nat) (f : Field) (v : Int) : (s.setSfld k f v).jtag = s.jtag := rfl
@[simp] theorem State.setSfld_wg (s : State) (k : Nat) (f : Field) (v : Int) : (s.setSfld k f v).wg = s.wg := rfl

/-! ### setWord -/

@[simp] theorem State.setWord_pending (s : State) (k : Nat) (f : Field) (w : Word) : (s.setWord k f w).pending = s.pending := rfl
@[simp] theorem State.setWord_cyc (s : State) (k : Nat) (f : Field) (w : Word) : (s.setWord k f w).cyc = s.cyc := rfl
@[simp] theorem State.setWord_freeCnt (s : State) (k : Nat) (f : Field) (w : Word) : (s.setWord k f w).freeCnt = s.freeCnt := rfl
@[simp] theorem State.setWord_mem (s : State) (k : Nat) (f : Field) (w : Word) : (s.setWord k f w).mem = s.mem := rfl
@[simp] theorem State.setWord_latches (s : State) (k : Nat) (f : Field) (w : Word) : (s.setWord k f w).latches = s.latches := rfl
@[simp] theorem State.setWord_reply (s : State) (k : Nat) (f : Field) (w : Word) : (s.setWord k f w).reply = s.reply := rfl
@[simp] theorem State.setWord_wires (s : State) (k : Nat) (f : Field) (w : Word) : (s.setWord k f w).wires = s.wires := rfl
@[simp] theorem State.setWord_lines (s : State) (k : Nat) (f : Field) (w : Word) : (s.setWord k f w).lines = s.lines := rfl
@[simp] theorem State.setWord_quay (s : State) (k : Nat) (f : Field) (w : Word) : (s.setWord k f w).quay = s.quay := rfl
@[simp] theorem State.setWord_sluices (s : State) (k : Nat) (f : Field) (w : Word) : (s.setWord k f w).sluices = s.sluices := rfl
@[simp] theorem State.setWord_pw (s : State) (k : Nat) (f : Field) (w : Word) : (s.setWord k f w).pw = s.pw := rfl
@[simp] theorem State.setWord_boot (s : State) (k : Nat) (f : Field) (w : Word) : (s.setWord k f w).boot = s.boot := rfl
@[simp] theorem State.setWord_sea (s : State) (k : Nat) (f : Field) (w : Word) : (s.setWord k f w).sea = s.sea := rfl
@[simp] theorem State.setWord_hm (s : State) (k : Nat) (f : Field) (w : Word) : (s.setWord k f w).hm = s.hm := rfl
@[simp] theorem State.setWord_legs (s : State) (k : Nat) (f : Field) (w : Word) : (s.setWord k f w).legs = s.legs := rfl
@[simp] theorem State.setWord_dr (s : State) (k : Nat) (f : Field) (w : Word) : (s.setWord k f w).dr = s.dr := rfl
@[simp] theorem State.setWord_buoys (s : State) (k : Nat) (f : Field) (w : Word) : (s.setWord k f w).buoys = s.buoys := rfl
@[simp] theorem State.setWord_swq (s : State) (k : Nat) (f : Field) (w : Word) : (s.setWord k f w).swq = s.swq := rfl
@[simp] theorem State.setWord_chans (s : State) (k : Nat) (f : Field) (w : Word) : (s.setWord k f w).chans = s.chans := rfl
@[simp] theorem State.setWord_td (s : State) (k : Nat) (f : Field) (w : Word) : (s.setWord k f w).td = s.td := rfl
@[simp] theorem State.setWord_sc (s : State) (k : Nat) (f : Field) (w : Word) : (s.setWord k f w).sc = s.sc := rfl
@[simp] theorem State.setWord_aonCnt (s : State) (k : Nat) (f : Field) (w : Word) : (s.setWord k f w).aonCnt = s.aonCnt := rfl
@[simp] theorem State.setWord_sx (s : State) (k : Nat) (f : Field) (w : Word) : (s.setWord k f w).sx = s.sx := rfl
@[simp] theorem State.setWord_ce (s : State) (k : Nat) (f : Field) (w : Word) : (s.setWord k f w).ce = s.ce := rfl
@[simp] theorem State.setWord_swl (s : State) (k : Nat) (f : Field) (w : Word) : (s.setWord k f w).swl = s.swl := rfl
@[simp] theorem State.setWord_ij (s : State) (k : Nat) (f : Field) (w : Word) : (s.setWord k f w).ij = s.ij := rfl
@[simp] theorem State.setWord_cap (s : State) (k : Nat) (f : Field) (w : Word) : (s.setWord k f w).cap = s.cap := rfl
@[simp] theorem State.setWord_clearing (s : State) (k : Nat) (f : Field) (w : Word) : (s.setWord k f w).clearing = s.clearing := rfl
@[simp] theorem State.setWord_tickOn (s : State) (k : Nat) (f : Field) (w : Word) : (s.setWord k f w).tickOn = s.tickOn := rfl
@[simp] theorem State.setWord_tickAligned (s : State) (k : Nat) (f : Field) (w : Word) : (s.setWord k f w).tickAligned = s.tickAligned := rfl
@[simp] theorem State.setWord_loops (s : State) (k : Nat) (f : Field) (w : Word) : (s.setWord k f w).loops = s.loops := rfl
@[simp] theorem State.setWord_dec (s : State) (k : Nat) (f : Field) (w : Word) : (s.setWord k f w).dec = s.dec := rfl
@[simp] theorem State.setWord_cv (s : State) (k : Nat) (f : Field) (w : Word) : (s.setWord k f w).cv = s.cv := rfl
@[simp] theorem State.setWord_ckMem (s : State) (k : Nat) (f : Field) (w : Word) : (s.setWord k f w).ckMem = s.ckMem := rfl
@[simp] theorem State.setWord_agreed (s : State) (k : Nat) (f : Field) (w : Word) : (s.setWord k f w).agreed = s.agreed := rfl
@[simp] theorem State.setWord_app (s : State) (k : Nat) (f : Field) (w : Word) : (s.setWord k f w).app = s.app := rfl
@[simp] theorem State.setWord_ma (s : State) (k : Nat) (f : Field) (w : Word) : (s.setWord k f w).ma = s.ma := rfl
@[simp] theorem State.setWord_berths (s : State) (k : Nat) (f : Field) (w : Word) : (s.setWord k f w).berths = s.berths := rfl
@[simp] theorem State.setWord_can (s : State) (k : Nat) (f : Field) (w : Word) : (s.setWord k f w).can = s.can := rfl
@[simp] theorem State.setWord_spi (s : State) (k : Nat) (f : Field) (w : Word) : (s.setWord k f w).spi = s.spi := rfl
@[simp] theorem State.setWord_hostPort (s : State) (k : Nat) (f : Field) (w : Word) : (s.setWord k f w).hostPort = s.hostPort := rfl
@[simp] theorem State.setWord_sent (s : State) (k : Nat) (f : Field) (w : Word) : (s.setWord k f w).sent = s.sent := rfl
@[simp] theorem State.setWord_sar (s : State) (k : Nat) (f : Field) (w : Word) : (s.setWord k f w).sar = s.sar := rfl
@[simp] theorem State.setWord_supplies (s : State) (k : Nat) (f : Field) (w : Word) : (s.setWord k f w).supplies = s.supplies := rfl
@[simp] theorem State.setWord_jtag (s : State) (k : Nat) (f : Field) (w : Word) : (s.setWord k f w).jtag = s.jtag := rfl
@[simp] theorem State.setWord_wg (s : State) (k : Nat) (f : Field) (w : Word) : (s.setWord k f w).wg = s.wg := rfl

/-! ### cntW -/

@[simp] theorem State.cntW_pending (s : State) (k : Nat) (f : Field) : (s.cntW k f).pending = s.pending := rfl
@[simp] theorem State.cntW_cyc (s : State) (k : Nat) (f : Field) : (s.cntW k f).cyc = s.cyc := rfl
@[simp] theorem State.cntW_freeCnt (s : State) (k : Nat) (f : Field) : (s.cntW k f).freeCnt = s.freeCnt := rfl
@[simp] theorem State.cntW_mem (s : State) (k : Nat) (f : Field) : (s.cntW k f).mem = s.mem := rfl
@[simp] theorem State.cntW_latches (s : State) (k : Nat) (f : Field) : (s.cntW k f).latches = s.latches := rfl
@[simp] theorem State.cntW_reply (s : State) (k : Nat) (f : Field) : (s.cntW k f).reply = s.reply := rfl
@[simp] theorem State.cntW_wires (s : State) (k : Nat) (f : Field) : (s.cntW k f).wires = s.wires := rfl
@[simp] theorem State.cntW_lines (s : State) (k : Nat) (f : Field) : (s.cntW k f).lines = s.lines := rfl
@[simp] theorem State.cntW_quay (s : State) (k : Nat) (f : Field) : (s.cntW k f).quay = s.quay := rfl
@[simp] theorem State.cntW_sluices (s : State) (k : Nat) (f : Field) : (s.cntW k f).sluices = s.sluices := rfl
@[simp] theorem State.cntW_pw (s : State) (k : Nat) (f : Field) : (s.cntW k f).pw = s.pw := rfl
@[simp] theorem State.cntW_boot (s : State) (k : Nat) (f : Field) : (s.cntW k f).boot = s.boot := rfl
@[simp] theorem State.cntW_sea (s : State) (k : Nat) (f : Field) : (s.cntW k f).sea = s.sea := rfl
@[simp] theorem State.cntW_hm (s : State) (k : Nat) (f : Field) : (s.cntW k f).hm = s.hm := rfl
@[simp] theorem State.cntW_legs (s : State) (k : Nat) (f : Field) : (s.cntW k f).legs = s.legs := rfl
@[simp] theorem State.cntW_dr (s : State) (k : Nat) (f : Field) : (s.cntW k f).dr = s.dr := rfl
@[simp] theorem State.cntW_buoys (s : State) (k : Nat) (f : Field) : (s.cntW k f).buoys = s.buoys := rfl
@[simp] theorem State.cntW_swq (s : State) (k : Nat) (f : Field) : (s.cntW k f).swq = s.swq := rfl
@[simp] theorem State.cntW_chans (s : State) (k : Nat) (f : Field) : (s.cntW k f).chans = s.chans := rfl
@[simp] theorem State.cntW_td (s : State) (k : Nat) (f : Field) : (s.cntW k f).td = s.td := rfl
@[simp] theorem State.cntW_sc (s : State) (k : Nat) (f : Field) : (s.cntW k f).sc = s.sc := rfl
@[simp] theorem State.cntW_aonCnt (s : State) (k : Nat) (f : Field) : (s.cntW k f).aonCnt = s.aonCnt := rfl
@[simp] theorem State.cntW_sx (s : State) (k : Nat) (f : Field) : (s.cntW k f).sx = s.sx := rfl
@[simp] theorem State.cntW_ce (s : State) (k : Nat) (f : Field) : (s.cntW k f).ce = s.ce := rfl
@[simp] theorem State.cntW_swl (s : State) (k : Nat) (f : Field) : (s.cntW k f).swl = s.swl := rfl
@[simp] theorem State.cntW_ij (s : State) (k : Nat) (f : Field) : (s.cntW k f).ij = s.ij := rfl
@[simp] theorem State.cntW_cap (s : State) (k : Nat) (f : Field) : (s.cntW k f).cap = s.cap := rfl
@[simp] theorem State.cntW_clearing (s : State) (k : Nat) (f : Field) : (s.cntW k f).clearing = s.clearing := rfl
@[simp] theorem State.cntW_tickOn (s : State) (k : Nat) (f : Field) : (s.cntW k f).tickOn = s.tickOn := rfl
@[simp] theorem State.cntW_tickAligned (s : State) (k : Nat) (f : Field) : (s.cntW k f).tickAligned = s.tickAligned := rfl
@[simp] theorem State.cntW_loops (s : State) (k : Nat) (f : Field) : (s.cntW k f).loops = s.loops := rfl
@[simp] theorem State.cntW_dec (s : State) (k : Nat) (f : Field) : (s.cntW k f).dec = s.dec := rfl
@[simp] theorem State.cntW_cv (s : State) (k : Nat) (f : Field) : (s.cntW k f).cv = s.cv := rfl
@[simp] theorem State.cntW_ckMem (s : State) (k : Nat) (f : Field) : (s.cntW k f).ckMem = s.ckMem := rfl
@[simp] theorem State.cntW_agreed (s : State) (k : Nat) (f : Field) : (s.cntW k f).agreed = s.agreed := rfl
@[simp] theorem State.cntW_app (s : State) (k : Nat) (f : Field) : (s.cntW k f).app = s.app := rfl
@[simp] theorem State.cntW_ma (s : State) (k : Nat) (f : Field) : (s.cntW k f).ma = s.ma := rfl
@[simp] theorem State.cntW_berths (s : State) (k : Nat) (f : Field) : (s.cntW k f).berths = s.berths := rfl
@[simp] theorem State.cntW_can (s : State) (k : Nat) (f : Field) : (s.cntW k f).can = s.can := rfl
@[simp] theorem State.cntW_spi (s : State) (k : Nat) (f : Field) : (s.cntW k f).spi = s.spi := rfl
@[simp] theorem State.cntW_hostPort (s : State) (k : Nat) (f : Field) : (s.cntW k f).hostPort = s.hostPort := rfl
@[simp] theorem State.cntW_sent (s : State) (k : Nat) (f : Field) : (s.cntW k f).sent = s.sent := rfl
@[simp] theorem State.cntW_sar (s : State) (k : Nat) (f : Field) : (s.cntW k f).sar = s.sar := rfl
@[simp] theorem State.cntW_supplies (s : State) (k : Nat) (f : Field) : (s.cntW k f).supplies = s.supplies := rfl
@[simp] theorem State.cntW_jtag (s : State) (k : Nat) (f : Field) : (s.cntW k f).jtag = s.jtag := rfl
@[simp] theorem State.cntW_wg (s : State) (k : Nat) (f : Field) : (s.cntW k f).wg = s.wg := rfl

/-! ### irq -/

@[simp] theorem State.irq_pending (s : State) (k b : Nat) : (s.irq k b).pending = s.pending := rfl
@[simp] theorem State.irq_cyc (s : State) (k b : Nat) : (s.irq k b).cyc = s.cyc := rfl
@[simp] theorem State.irq_freeCnt (s : State) (k b : Nat) : (s.irq k b).freeCnt = s.freeCnt := rfl
@[simp] theorem State.irq_mem (s : State) (k b : Nat) : (s.irq k b).mem = s.mem := rfl
@[simp] theorem State.irq_latches (s : State) (k b : Nat) : (s.irq k b).latches = s.latches := rfl
@[simp] theorem State.irq_reply (s : State) (k b : Nat) : (s.irq k b).reply = s.reply := rfl
@[simp] theorem State.irq_wires (s : State) (k b : Nat) : (s.irq k b).wires = s.wires := rfl
@[simp] theorem State.irq_lines (s : State) (k b : Nat) : (s.irq k b).lines = s.lines := rfl
@[simp] theorem State.irq_quay (s : State) (k b : Nat) : (s.irq k b).quay = s.quay := rfl
@[simp] theorem State.irq_sluices (s : State) (k b : Nat) : (s.irq k b).sluices = s.sluices := rfl
@[simp] theorem State.irq_pw (s : State) (k b : Nat) : (s.irq k b).pw = s.pw := rfl
@[simp] theorem State.irq_boot (s : State) (k b : Nat) : (s.irq k b).boot = s.boot := rfl
@[simp] theorem State.irq_sea (s : State) (k b : Nat) : (s.irq k b).sea = s.sea := rfl
@[simp] theorem State.irq_hm (s : State) (k b : Nat) : (s.irq k b).hm = s.hm := rfl
@[simp] theorem State.irq_legs (s : State) (k b : Nat) : (s.irq k b).legs = s.legs := rfl
@[simp] theorem State.irq_dr (s : State) (k b : Nat) : (s.irq k b).dr = s.dr := rfl
@[simp] theorem State.irq_buoys (s : State) (k b : Nat) : (s.irq k b).buoys = s.buoys := rfl
@[simp] theorem State.irq_swq (s : State) (k b : Nat) : (s.irq k b).swq = s.swq := rfl
@[simp] theorem State.irq_chans (s : State) (k b : Nat) : (s.irq k b).chans = s.chans := rfl
@[simp] theorem State.irq_td (s : State) (k b : Nat) : (s.irq k b).td = s.td := rfl
@[simp] theorem State.irq_sc (s : State) (k b : Nat) : (s.irq k b).sc = s.sc := rfl
@[simp] theorem State.irq_aonCnt (s : State) (k b : Nat) : (s.irq k b).aonCnt = s.aonCnt := rfl
@[simp] theorem State.irq_sx (s : State) (k b : Nat) : (s.irq k b).sx = s.sx := rfl
@[simp] theorem State.irq_ce (s : State) (k b : Nat) : (s.irq k b).ce = s.ce := rfl
@[simp] theorem State.irq_swl (s : State) (k b : Nat) : (s.irq k b).swl = s.swl := rfl
@[simp] theorem State.irq_ij (s : State) (k b : Nat) : (s.irq k b).ij = s.ij := rfl
@[simp] theorem State.irq_cap (s : State) (k b : Nat) : (s.irq k b).cap = s.cap := rfl
@[simp] theorem State.irq_clearing (s : State) (k b : Nat) : (s.irq k b).clearing = s.clearing := rfl
@[simp] theorem State.irq_tickOn (s : State) (k b : Nat) : (s.irq k b).tickOn = s.tickOn := rfl
@[simp] theorem State.irq_tickAligned (s : State) (k b : Nat) : (s.irq k b).tickAligned = s.tickAligned := rfl
@[simp] theorem State.irq_loops (s : State) (k b : Nat) : (s.irq k b).loops = s.loops := rfl
@[simp] theorem State.irq_dec (s : State) (k b : Nat) : (s.irq k b).dec = s.dec := rfl
@[simp] theorem State.irq_cv (s : State) (k b : Nat) : (s.irq k b).cv = s.cv := rfl
@[simp] theorem State.irq_ckMem (s : State) (k b : Nat) : (s.irq k b).ckMem = s.ckMem := rfl
@[simp] theorem State.irq_agreed (s : State) (k b : Nat) : (s.irq k b).agreed = s.agreed := rfl
@[simp] theorem State.irq_app (s : State) (k b : Nat) : (s.irq k b).app = s.app := rfl
@[simp] theorem State.irq_ma (s : State) (k b : Nat) : (s.irq k b).ma = s.ma := rfl
@[simp] theorem State.irq_berths (s : State) (k b : Nat) : (s.irq k b).berths = s.berths := rfl
@[simp] theorem State.irq_can (s : State) (k b : Nat) : (s.irq k b).can = s.can := rfl
@[simp] theorem State.irq_spi (s : State) (k b : Nat) : (s.irq k b).spi = s.spi := rfl
@[simp] theorem State.irq_hostPort (s : State) (k b : Nat) : (s.irq k b).hostPort = s.hostPort := rfl
@[simp] theorem State.irq_sent (s : State) (k b : Nat) : (s.irq k b).sent = s.sent := rfl
@[simp] theorem State.irq_sar (s : State) (k b : Nat) : (s.irq k b).sar = s.sar := rfl
@[simp] theorem State.irq_supplies (s : State) (k b : Nat) : (s.irq k b).supplies = s.supplies := rfl
@[simp] theorem State.irq_jtag (s : State) (k b : Nat) : (s.irq k b).jtag = s.jtag := rfl
@[simp] theorem State.irq_wg (s : State) (k b : Nat) : (s.irq k b).wg = s.wg := rfl

/-! ### logClamp -/

@[simp] theorem State.logClamp_pending (s : State) (k cause off : Nat) : (s.logClamp k cause off).pending = s.pending := rfl
@[simp] theorem State.logClamp_cyc (s : State) (k cause off : Nat) : (s.logClamp k cause off).cyc = s.cyc := rfl
@[simp] theorem State.logClamp_freeCnt (s : State) (k cause off : Nat) : (s.logClamp k cause off).freeCnt = s.freeCnt := rfl
@[simp] theorem State.logClamp_mem (s : State) (k cause off : Nat) : (s.logClamp k cause off).mem = s.mem := rfl
@[simp] theorem State.logClamp_latches (s : State) (k cause off : Nat) : (s.logClamp k cause off).latches = s.latches := rfl
@[simp] theorem State.logClamp_reply (s : State) (k cause off : Nat) : (s.logClamp k cause off).reply = s.reply := rfl
@[simp] theorem State.logClamp_wires (s : State) (k cause off : Nat) : (s.logClamp k cause off).wires = s.wires := rfl
@[simp] theorem State.logClamp_lines (s : State) (k cause off : Nat) : (s.logClamp k cause off).lines = s.lines := rfl
@[simp] theorem State.logClamp_quay (s : State) (k cause off : Nat) : (s.logClamp k cause off).quay = s.quay := rfl
@[simp] theorem State.logClamp_sluices (s : State) (k cause off : Nat) : (s.logClamp k cause off).sluices = s.sluices := rfl
@[simp] theorem State.logClamp_pw (s : State) (k cause off : Nat) : (s.logClamp k cause off).pw = s.pw := rfl
@[simp] theorem State.logClamp_boot (s : State) (k cause off : Nat) : (s.logClamp k cause off).boot = s.boot := rfl
@[simp] theorem State.logClamp_sea (s : State) (k cause off : Nat) : (s.logClamp k cause off).sea = s.sea := rfl
@[simp] theorem State.logClamp_hm (s : State) (k cause off : Nat) : (s.logClamp k cause off).hm = s.hm := rfl
@[simp] theorem State.logClamp_legs (s : State) (k cause off : Nat) : (s.logClamp k cause off).legs = s.legs := rfl
@[simp] theorem State.logClamp_dr (s : State) (k cause off : Nat) : (s.logClamp k cause off).dr = s.dr := rfl
@[simp] theorem State.logClamp_buoys (s : State) (k cause off : Nat) : (s.logClamp k cause off).buoys = s.buoys := rfl
@[simp] theorem State.logClamp_swq (s : State) (k cause off : Nat) : (s.logClamp k cause off).swq = s.swq := rfl
@[simp] theorem State.logClamp_chans (s : State) (k cause off : Nat) : (s.logClamp k cause off).chans = s.chans := rfl
@[simp] theorem State.logClamp_td (s : State) (k cause off : Nat) : (s.logClamp k cause off).td = s.td := rfl
@[simp] theorem State.logClamp_sc (s : State) (k cause off : Nat) : (s.logClamp k cause off).sc = s.sc := rfl
@[simp] theorem State.logClamp_aonCnt (s : State) (k cause off : Nat) : (s.logClamp k cause off).aonCnt = s.aonCnt := rfl
@[simp] theorem State.logClamp_sx (s : State) (k cause off : Nat) : (s.logClamp k cause off).sx = s.sx := rfl
@[simp] theorem State.logClamp_ce (s : State) (k cause off : Nat) : (s.logClamp k cause off).ce = s.ce := rfl
@[simp] theorem State.logClamp_swl (s : State) (k cause off : Nat) : (s.logClamp k cause off).swl = s.swl := rfl
@[simp] theorem State.logClamp_ij (s : State) (k cause off : Nat) : (s.logClamp k cause off).ij = s.ij := rfl
@[simp] theorem State.logClamp_cap (s : State) (k cause off : Nat) : (s.logClamp k cause off).cap = s.cap := rfl
@[simp] theorem State.logClamp_clearing (s : State) (k cause off : Nat) : (s.logClamp k cause off).clearing = s.clearing := rfl
@[simp] theorem State.logClamp_tickOn (s : State) (k cause off : Nat) : (s.logClamp k cause off).tickOn = s.tickOn := rfl
@[simp] theorem State.logClamp_tickAligned (s : State) (k cause off : Nat) : (s.logClamp k cause off).tickAligned = s.tickAligned := rfl
@[simp] theorem State.logClamp_loops (s : State) (k cause off : Nat) : (s.logClamp k cause off).loops = s.loops := rfl
@[simp] theorem State.logClamp_dec (s : State) (k cause off : Nat) : (s.logClamp k cause off).dec = s.dec := rfl
@[simp] theorem State.logClamp_cv (s : State) (k cause off : Nat) : (s.logClamp k cause off).cv = s.cv := rfl
@[simp] theorem State.logClamp_ckMem (s : State) (k cause off : Nat) : (s.logClamp k cause off).ckMem = s.ckMem := rfl
@[simp] theorem State.logClamp_agreed (s : State) (k cause off : Nat) : (s.logClamp k cause off).agreed = s.agreed := rfl
@[simp] theorem State.logClamp_app (s : State) (k cause off : Nat) : (s.logClamp k cause off).app = s.app := rfl
@[simp] theorem State.logClamp_ma (s : State) (k cause off : Nat) : (s.logClamp k cause off).ma = s.ma := rfl
@[simp] theorem State.logClamp_berths (s : State) (k cause off : Nat) : (s.logClamp k cause off).berths = s.berths := rfl
@[simp] theorem State.logClamp_can (s : State) (k cause off : Nat) : (s.logClamp k cause off).can = s.can := rfl
@[simp] theorem State.logClamp_spi (s : State) (k cause off : Nat) : (s.logClamp k cause off).spi = s.spi := rfl
@[simp] theorem State.logClamp_hostPort (s : State) (k cause off : Nat) : (s.logClamp k cause off).hostPort = s.hostPort := rfl
@[simp] theorem State.logClamp_sent (s : State) (k cause off : Nat) : (s.logClamp k cause off).sent = s.sent := rfl
@[simp] theorem State.logClamp_sar (s : State) (k cause off : Nat) : (s.logClamp k cause off).sar = s.sar := rfl
@[simp] theorem State.logClamp_supplies (s : State) (k cause off : Nat) : (s.logClamp k cause off).supplies = s.supplies := rfl
@[simp] theorem State.logClamp_jtag (s : State) (k cause off : Nat) : (s.logClamp k cause off).jtag = s.jtag := rfl
@[simp] theorem State.logClamp_wg (s : State) (k cause off : Nat) : (s.logClamp k cause off).wg = s.wg := rfl

/-! ### keyTaken -/

@[simp] theorem State.keyTaken_pending (s : State) (k : Nat) (who : Initiator) : (s.keyTaken k who).pending = s.pending := rfl
@[simp] theorem State.keyTaken_cyc (s : State) (k : Nat) (who : Initiator) : (s.keyTaken k who).cyc = s.cyc := rfl
@[simp] theorem State.keyTaken_freeCnt (s : State) (k : Nat) (who : Initiator) : (s.keyTaken k who).freeCnt = s.freeCnt := rfl
@[simp] theorem State.keyTaken_mem (s : State) (k : Nat) (who : Initiator) : (s.keyTaken k who).mem = s.mem := rfl
@[simp] theorem State.keyTaken_latches (s : State) (k : Nat) (who : Initiator) : (s.keyTaken k who).latches = s.latches := rfl
@[simp] theorem State.keyTaken_reply (s : State) (k : Nat) (who : Initiator) : (s.keyTaken k who).reply = s.reply := rfl
@[simp] theorem State.keyTaken_wires (s : State) (k : Nat) (who : Initiator) : (s.keyTaken k who).wires = s.wires := rfl
@[simp] theorem State.keyTaken_lines (s : State) (k : Nat) (who : Initiator) : (s.keyTaken k who).lines = s.lines := rfl
@[simp] theorem State.keyTaken_quay (s : State) (k : Nat) (who : Initiator) : (s.keyTaken k who).quay = s.quay := rfl
@[simp] theorem State.keyTaken_sluices (s : State) (k : Nat) (who : Initiator) : (s.keyTaken k who).sluices = s.sluices := rfl
@[simp] theorem State.keyTaken_pw (s : State) (k : Nat) (who : Initiator) : (s.keyTaken k who).pw = s.pw := rfl
@[simp] theorem State.keyTaken_boot (s : State) (k : Nat) (who : Initiator) : (s.keyTaken k who).boot = s.boot := rfl
@[simp] theorem State.keyTaken_sea (s : State) (k : Nat) (who : Initiator) : (s.keyTaken k who).sea = s.sea := rfl
@[simp] theorem State.keyTaken_hm (s : State) (k : Nat) (who : Initiator) : (s.keyTaken k who).hm = s.hm := rfl
@[simp] theorem State.keyTaken_legs (s : State) (k : Nat) (who : Initiator) : (s.keyTaken k who).legs = s.legs := rfl
@[simp] theorem State.keyTaken_dr (s : State) (k : Nat) (who : Initiator) : (s.keyTaken k who).dr = s.dr := rfl
@[simp] theorem State.keyTaken_buoys (s : State) (k : Nat) (who : Initiator) : (s.keyTaken k who).buoys = s.buoys := rfl
@[simp] theorem State.keyTaken_swq (s : State) (k : Nat) (who : Initiator) : (s.keyTaken k who).swq = s.swq := rfl
@[simp] theorem State.keyTaken_chans (s : State) (k : Nat) (who : Initiator) : (s.keyTaken k who).chans = s.chans := rfl
@[simp] theorem State.keyTaken_td (s : State) (k : Nat) (who : Initiator) : (s.keyTaken k who).td = s.td := rfl
@[simp] theorem State.keyTaken_sc (s : State) (k : Nat) (who : Initiator) : (s.keyTaken k who).sc = s.sc := rfl
@[simp] theorem State.keyTaken_aonCnt (s : State) (k : Nat) (who : Initiator) : (s.keyTaken k who).aonCnt = s.aonCnt := rfl
@[simp] theorem State.keyTaken_sx (s : State) (k : Nat) (who : Initiator) : (s.keyTaken k who).sx = s.sx := rfl
@[simp] theorem State.keyTaken_ce (s : State) (k : Nat) (who : Initiator) : (s.keyTaken k who).ce = s.ce := rfl
@[simp] theorem State.keyTaken_swl (s : State) (k : Nat) (who : Initiator) : (s.keyTaken k who).swl = s.swl := rfl
@[simp] theorem State.keyTaken_ij (s : State) (k : Nat) (who : Initiator) : (s.keyTaken k who).ij = s.ij := rfl
@[simp] theorem State.keyTaken_cap (s : State) (k : Nat) (who : Initiator) : (s.keyTaken k who).cap = s.cap := rfl
@[simp] theorem State.keyTaken_clearing (s : State) (k : Nat) (who : Initiator) : (s.keyTaken k who).clearing = s.clearing := rfl
@[simp] theorem State.keyTaken_tickOn (s : State) (k : Nat) (who : Initiator) : (s.keyTaken k who).tickOn = s.tickOn := rfl
@[simp] theorem State.keyTaken_tickAligned (s : State) (k : Nat) (who : Initiator) : (s.keyTaken k who).tickAligned = s.tickAligned := rfl
@[simp] theorem State.keyTaken_loops (s : State) (k : Nat) (who : Initiator) : (s.keyTaken k who).loops = s.loops := rfl
@[simp] theorem State.keyTaken_dec (s : State) (k : Nat) (who : Initiator) : (s.keyTaken k who).dec = s.dec := rfl
@[simp] theorem State.keyTaken_cv (s : State) (k : Nat) (who : Initiator) : (s.keyTaken k who).cv = s.cv := rfl
@[simp] theorem State.keyTaken_ckMem (s : State) (k : Nat) (who : Initiator) : (s.keyTaken k who).ckMem = s.ckMem := rfl
@[simp] theorem State.keyTaken_agreed (s : State) (k : Nat) (who : Initiator) : (s.keyTaken k who).agreed = s.agreed := rfl
@[simp] theorem State.keyTaken_app (s : State) (k : Nat) (who : Initiator) : (s.keyTaken k who).app = s.app := rfl
@[simp] theorem State.keyTaken_ma (s : State) (k : Nat) (who : Initiator) : (s.keyTaken k who).ma = s.ma := rfl
@[simp] theorem State.keyTaken_berths (s : State) (k : Nat) (who : Initiator) : (s.keyTaken k who).berths = s.berths := rfl
@[simp] theorem State.keyTaken_can (s : State) (k : Nat) (who : Initiator) : (s.keyTaken k who).can = s.can := rfl
@[simp] theorem State.keyTaken_spi (s : State) (k : Nat) (who : Initiator) : (s.keyTaken k who).spi = s.spi := rfl
@[simp] theorem State.keyTaken_hostPort (s : State) (k : Nat) (who : Initiator) : (s.keyTaken k who).hostPort = s.hostPort := rfl
@[simp] theorem State.keyTaken_sent (s : State) (k : Nat) (who : Initiator) : (s.keyTaken k who).sent = s.sent := rfl
@[simp] theorem State.keyTaken_sar (s : State) (k : Nat) (who : Initiator) : (s.keyTaken k who).sar = s.sar := rfl
@[simp] theorem State.keyTaken_supplies (s : State) (k : Nat) (who : Initiator) : (s.keyTaken k who).supplies = s.supplies := rfl
@[simp] theorem State.keyTaken_jtag (s : State) (k : Nat) (who : Initiator) : (s.keyTaken k who).jtag = s.jtag := rfl
@[simp] theorem State.keyTaken_wg (s : State) (k : Nat) (who : Initiator) : (s.keyTaken k who).wg = s.wg := rfl

/-! ### answer -/

@[simp] theorem State.answer_pending (s : State) (r : BusReply) : (s.answer r).pending = s.pending := rfl
@[simp] theorem State.answer_cyc (s : State) (r : BusReply) : (s.answer r).cyc = s.cyc := rfl
@[simp] theorem State.answer_freeCnt (s : State) (r : BusReply) : (s.answer r).freeCnt = s.freeCnt := rfl
@[simp] theorem State.answer_mem (s : State) (r : BusReply) : (s.answer r).mem = s.mem := rfl
@[simp] theorem State.answer_pages (s : State) (r : BusReply) : (s.answer r).pages = s.pages := rfl
@[simp] theorem State.answer_latches (s : State) (r : BusReply) : (s.answer r).latches = s.latches := rfl
@[simp] theorem State.answer_wires (s : State) (r : BusReply) : (s.answer r).wires = s.wires := rfl
@[simp] theorem State.answer_lines (s : State) (r : BusReply) : (s.answer r).lines = s.lines := rfl
@[simp] theorem State.answer_quay (s : State) (r : BusReply) : (s.answer r).quay = s.quay := rfl
@[simp] theorem State.answer_sluices (s : State) (r : BusReply) : (s.answer r).sluices = s.sluices := rfl
@[simp] theorem State.answer_pw (s : State) (r : BusReply) : (s.answer r).pw = s.pw := rfl
@[simp] theorem State.answer_boot (s : State) (r : BusReply) : (s.answer r).boot = s.boot := rfl
@[simp] theorem State.answer_sea (s : State) (r : BusReply) : (s.answer r).sea = s.sea := rfl
@[simp] theorem State.answer_hm (s : State) (r : BusReply) : (s.answer r).hm = s.hm := rfl
@[simp] theorem State.answer_legs (s : State) (r : BusReply) : (s.answer r).legs = s.legs := rfl
@[simp] theorem State.answer_dr (s : State) (r : BusReply) : (s.answer r).dr = s.dr := rfl
@[simp] theorem State.answer_buoys (s : State) (r : BusReply) : (s.answer r).buoys = s.buoys := rfl
@[simp] theorem State.answer_swq (s : State) (r : BusReply) : (s.answer r).swq = s.swq := rfl
@[simp] theorem State.answer_chans (s : State) (r : BusReply) : (s.answer r).chans = s.chans := rfl
@[simp] theorem State.answer_td (s : State) (r : BusReply) : (s.answer r).td = s.td := rfl
@[simp] theorem State.answer_sc (s : State) (r : BusReply) : (s.answer r).sc = s.sc := rfl
@[simp] theorem State.answer_aonCnt (s : State) (r : BusReply) : (s.answer r).aonCnt = s.aonCnt := rfl
@[simp] theorem State.answer_sx (s : State) (r : BusReply) : (s.answer r).sx = s.sx := rfl
@[simp] theorem State.answer_ce (s : State) (r : BusReply) : (s.answer r).ce = s.ce := rfl
@[simp] theorem State.answer_swl (s : State) (r : BusReply) : (s.answer r).swl = s.swl := rfl
@[simp] theorem State.answer_ij (s : State) (r : BusReply) : (s.answer r).ij = s.ij := rfl
@[simp] theorem State.answer_cap (s : State) (r : BusReply) : (s.answer r).cap = s.cap := rfl
@[simp] theorem State.answer_clearing (s : State) (r : BusReply) : (s.answer r).clearing = s.clearing := rfl
@[simp] theorem State.answer_tickOn (s : State) (r : BusReply) : (s.answer r).tickOn = s.tickOn := rfl
@[simp] theorem State.answer_tickAligned (s : State) (r : BusReply) : (s.answer r).tickAligned = s.tickAligned := rfl
@[simp] theorem State.answer_loops (s : State) (r : BusReply) : (s.answer r).loops = s.loops := rfl
@[simp] theorem State.answer_dec (s : State) (r : BusReply) : (s.answer r).dec = s.dec := rfl
@[simp] theorem State.answer_cv (s : State) (r : BusReply) : (s.answer r).cv = s.cv := rfl
@[simp] theorem State.answer_ckMem (s : State) (r : BusReply) : (s.answer r).ckMem = s.ckMem := rfl
@[simp] theorem State.answer_agreed (s : State) (r : BusReply) : (s.answer r).agreed = s.agreed := rfl
@[simp] theorem State.answer_app (s : State) (r : BusReply) : (s.answer r).app = s.app := rfl
@[simp] theorem State.answer_ma (s : State) (r : BusReply) : (s.answer r).ma = s.ma := rfl
@[simp] theorem State.answer_berths (s : State) (r : BusReply) : (s.answer r).berths = s.berths := rfl
@[simp] theorem State.answer_can (s : State) (r : BusReply) : (s.answer r).can = s.can := rfl
@[simp] theorem State.answer_spi (s : State) (r : BusReply) : (s.answer r).spi = s.spi := rfl
@[simp] theorem State.answer_hostPort (s : State) (r : BusReply) : (s.answer r).hostPort = s.hostPort := rfl
@[simp] theorem State.answer_sent (s : State) (r : BusReply) : (s.answer r).sent = s.sent := rfl
@[simp] theorem State.answer_sar (s : State) (r : BusReply) : (s.answer r).sar = s.sar := rfl
@[simp] theorem State.answer_supplies (s : State) (r : BusReply) : (s.answer r).supplies = s.supplies := rfl
@[simp] theorem State.answer_jtag (s : State) (r : BusReply) : (s.answer r).jtag = s.jtag := rfl
@[simp] theorem State.answer_wg (s : State) (r : BusReply) : (s.answer r).wg = s.wg := rfl

/-! ### drawn -/

@[simp] theorem State.drawn_pending (s : State) : (s.drawn).pending = s.pending := rfl
@[simp] theorem State.drawn_cyc (s : State) : (s.drawn).cyc = s.cyc := rfl
@[simp] theorem State.drawn_mem (s : State) : (s.drawn).mem = s.mem := rfl
@[simp] theorem State.drawn_pages (s : State) : (s.drawn).pages = s.pages := rfl
@[simp] theorem State.drawn_latches (s : State) : (s.drawn).latches = s.latches := rfl
@[simp] theorem State.drawn_reply (s : State) : (s.drawn).reply = s.reply := rfl
@[simp] theorem State.drawn_wires (s : State) : (s.drawn).wires = s.wires := rfl
@[simp] theorem State.drawn_lines (s : State) : (s.drawn).lines = s.lines := rfl
@[simp] theorem State.drawn_quay (s : State) : (s.drawn).quay = s.quay := rfl
@[simp] theorem State.drawn_sluices (s : State) : (s.drawn).sluices = s.sluices := rfl
@[simp] theorem State.drawn_pw (s : State) : (s.drawn).pw = s.pw := rfl
@[simp] theorem State.drawn_boot (s : State) : (s.drawn).boot = s.boot := rfl
@[simp] theorem State.drawn_sea (s : State) : (s.drawn).sea = s.sea := rfl
@[simp] theorem State.drawn_hm (s : State) : (s.drawn).hm = s.hm := rfl
@[simp] theorem State.drawn_legs (s : State) : (s.drawn).legs = s.legs := rfl
@[simp] theorem State.drawn_dr (s : State) : (s.drawn).dr = s.dr := rfl
@[simp] theorem State.drawn_buoys (s : State) : (s.drawn).buoys = s.buoys := rfl
@[simp] theorem State.drawn_swq (s : State) : (s.drawn).swq = s.swq := rfl
@[simp] theorem State.drawn_chans (s : State) : (s.drawn).chans = s.chans := rfl
@[simp] theorem State.drawn_td (s : State) : (s.drawn).td = s.td := rfl
@[simp] theorem State.drawn_sc (s : State) : (s.drawn).sc = s.sc := rfl
@[simp] theorem State.drawn_aonCnt (s : State) : (s.drawn).aonCnt = s.aonCnt := rfl
@[simp] theorem State.drawn_sx (s : State) : (s.drawn).sx = s.sx := rfl
@[simp] theorem State.drawn_ce (s : State) : (s.drawn).ce = s.ce := rfl
@[simp] theorem State.drawn_swl (s : State) : (s.drawn).swl = s.swl := rfl
@[simp] theorem State.drawn_ij (s : State) : (s.drawn).ij = s.ij := rfl
@[simp] theorem State.drawn_cap (s : State) : (s.drawn).cap = s.cap := rfl
@[simp] theorem State.drawn_clearing (s : State) : (s.drawn).clearing = s.clearing := rfl
@[simp] theorem State.drawn_tickOn (s : State) : (s.drawn).tickOn = s.tickOn := rfl
@[simp] theorem State.drawn_tickAligned (s : State) : (s.drawn).tickAligned = s.tickAligned := rfl
@[simp] theorem State.drawn_loops (s : State) : (s.drawn).loops = s.loops := rfl
@[simp] theorem State.drawn_dec (s : State) : (s.drawn).dec = s.dec := rfl
@[simp] theorem State.drawn_cv (s : State) : (s.drawn).cv = s.cv := rfl
@[simp] theorem State.drawn_ckMem (s : State) : (s.drawn).ckMem = s.ckMem := rfl
@[simp] theorem State.drawn_agreed (s : State) : (s.drawn).agreed = s.agreed := rfl
@[simp] theorem State.drawn_app (s : State) : (s.drawn).app = s.app := rfl
@[simp] theorem State.drawn_ma (s : State) : (s.drawn).ma = s.ma := rfl
@[simp] theorem State.drawn_berths (s : State) : (s.drawn).berths = s.berths := rfl
@[simp] theorem State.drawn_can (s : State) : (s.drawn).can = s.can := rfl
@[simp] theorem State.drawn_spi (s : State) : (s.drawn).spi = s.spi := rfl
@[simp] theorem State.drawn_hostPort (s : State) : (s.drawn).hostPort = s.hostPort := rfl
@[simp] theorem State.drawn_sent (s : State) : (s.drawn).sent = s.sent := rfl
@[simp] theorem State.drawn_sar (s : State) : (s.drawn).sar = s.sar := rfl
@[simp] theorem State.drawn_supplies (s : State) : (s.drawn).supplies = s.supplies := rfl
@[simp] theorem State.drawn_jtag (s : State) : (s.drawn).jtag = s.jtag := rfl
@[simp] theorem State.drawn_wg (s : State) : (s.drawn).wg = s.wg := rfl

/-! ### setM32 -/

@[simp] theorem State.setM32_pending (s : State) (a : Nat) (w : Word) : (s.setM32 a w).pending = s.pending := rfl
@[simp] theorem State.setM32_cyc (s : State) (a : Nat) (w : Word) : (s.setM32 a w).cyc = s.cyc := rfl
@[simp] theorem State.setM32_freeCnt (s : State) (a : Nat) (w : Word) : (s.setM32 a w).freeCnt = s.freeCnt := rfl
@[simp] theorem State.setM32_pages (s : State) (a : Nat) (w : Word) : (s.setM32 a w).pages = s.pages := rfl
@[simp] theorem State.setM32_latches (s : State) (a : Nat) (w : Word) : (s.setM32 a w).latches = s.latches := rfl
@[simp] theorem State.setM32_reply (s : State) (a : Nat) (w : Word) : (s.setM32 a w).reply = s.reply := rfl
@[simp] theorem State.setM32_wires (s : State) (a : Nat) (w : Word) : (s.setM32 a w).wires = s.wires := rfl
@[simp] theorem State.setM32_lines (s : State) (a : Nat) (w : Word) : (s.setM32 a w).lines = s.lines := rfl
@[simp] theorem State.setM32_quay (s : State) (a : Nat) (w : Word) : (s.setM32 a w).quay = s.quay := rfl
@[simp] theorem State.setM32_sluices (s : State) (a : Nat) (w : Word) : (s.setM32 a w).sluices = s.sluices := rfl
@[simp] theorem State.setM32_pw (s : State) (a : Nat) (w : Word) : (s.setM32 a w).pw = s.pw := rfl
@[simp] theorem State.setM32_boot (s : State) (a : Nat) (w : Word) : (s.setM32 a w).boot = s.boot := rfl
@[simp] theorem State.setM32_sea (s : State) (a : Nat) (w : Word) : (s.setM32 a w).sea = s.sea := rfl
@[simp] theorem State.setM32_hm (s : State) (a : Nat) (w : Word) : (s.setM32 a w).hm = s.hm := rfl
@[simp] theorem State.setM32_legs (s : State) (a : Nat) (w : Word) : (s.setM32 a w).legs = s.legs := rfl
@[simp] theorem State.setM32_dr (s : State) (a : Nat) (w : Word) : (s.setM32 a w).dr = s.dr := rfl
@[simp] theorem State.setM32_buoys (s : State) (a : Nat) (w : Word) : (s.setM32 a w).buoys = s.buoys := rfl
@[simp] theorem State.setM32_swq (s : State) (a : Nat) (w : Word) : (s.setM32 a w).swq = s.swq := rfl
@[simp] theorem State.setM32_chans (s : State) (a : Nat) (w : Word) : (s.setM32 a w).chans = s.chans := rfl
@[simp] theorem State.setM32_td (s : State) (a : Nat) (w : Word) : (s.setM32 a w).td = s.td := rfl
@[simp] theorem State.setM32_sc (s : State) (a : Nat) (w : Word) : (s.setM32 a w).sc = s.sc := rfl
@[simp] theorem State.setM32_aonCnt (s : State) (a : Nat) (w : Word) : (s.setM32 a w).aonCnt = s.aonCnt := rfl
@[simp] theorem State.setM32_sx (s : State) (a : Nat) (w : Word) : (s.setM32 a w).sx = s.sx := rfl
@[simp] theorem State.setM32_ce (s : State) (a : Nat) (w : Word) : (s.setM32 a w).ce = s.ce := rfl
@[simp] theorem State.setM32_swl (s : State) (a : Nat) (w : Word) : (s.setM32 a w).swl = s.swl := rfl
@[simp] theorem State.setM32_ij (s : State) (a : Nat) (w : Word) : (s.setM32 a w).ij = s.ij := rfl
@[simp] theorem State.setM32_cap (s : State) (a : Nat) (w : Word) : (s.setM32 a w).cap = s.cap := rfl
@[simp] theorem State.setM32_clearing (s : State) (a : Nat) (w : Word) : (s.setM32 a w).clearing = s.clearing := rfl
@[simp] theorem State.setM32_tickOn (s : State) (a : Nat) (w : Word) : (s.setM32 a w).tickOn = s.tickOn := rfl
@[simp] theorem State.setM32_tickAligned (s : State) (a : Nat) (w : Word) : (s.setM32 a w).tickAligned = s.tickAligned := rfl
@[simp] theorem State.setM32_loops (s : State) (a : Nat) (w : Word) : (s.setM32 a w).loops = s.loops := rfl
@[simp] theorem State.setM32_dec (s : State) (a : Nat) (w : Word) : (s.setM32 a w).dec = s.dec := rfl
@[simp] theorem State.setM32_cv (s : State) (a : Nat) (w : Word) : (s.setM32 a w).cv = s.cv := rfl
@[simp] theorem State.setM32_ckMem (s : State) (a : Nat) (w : Word) : (s.setM32 a w).ckMem = s.ckMem := rfl
@[simp] theorem State.setM32_agreed (s : State) (a : Nat) (w : Word) : (s.setM32 a w).agreed = s.agreed := rfl
@[simp] theorem State.setM32_app (s : State) (a : Nat) (w : Word) : (s.setM32 a w).app = s.app := rfl
@[simp] theorem State.setM32_ma (s : State) (a : Nat) (w : Word) : (s.setM32 a w).ma = s.ma := rfl
@[simp] theorem State.setM32_berths (s : State) (a : Nat) (w : Word) : (s.setM32 a w).berths = s.berths := rfl
@[simp] theorem State.setM32_can (s : State) (a : Nat) (w : Word) : (s.setM32 a w).can = s.can := rfl
@[simp] theorem State.setM32_spi (s : State) (a : Nat) (w : Word) : (s.setM32 a w).spi = s.spi := rfl
@[simp] theorem State.setM32_hostPort (s : State) (a : Nat) (w : Word) : (s.setM32 a w).hostPort = s.hostPort := rfl
@[simp] theorem State.setM32_sent (s : State) (a : Nat) (w : Word) : (s.setM32 a w).sent = s.sent := rfl
@[simp] theorem State.setM32_sar (s : State) (a : Nat) (w : Word) : (s.setM32 a w).sar = s.sar := rfl
@[simp] theorem State.setM32_supplies (s : State) (a : Nat) (w : Word) : (s.setM32 a w).supplies = s.supplies := rfl
@[simp] theorem State.setM32_jtag (s : State) (a : Nat) (w : Word) : (s.setM32 a w).jtag = s.jtag := rfl
@[simp] theorem State.setM32_wg (s : State) (a : Nat) (w : Word) : (s.setM32 a w).wg = s.wg := rfl

/-! ### setM16 -/

@[simp] theorem State.setM16_pending (s : State) (a : Nat) (w : BitVec 16) : (s.setM16 a w).pending = s.pending := rfl
@[simp] theorem State.setM16_cyc (s : State) (a : Nat) (w : BitVec 16) : (s.setM16 a w).cyc = s.cyc := rfl
@[simp] theorem State.setM16_freeCnt (s : State) (a : Nat) (w : BitVec 16) : (s.setM16 a w).freeCnt = s.freeCnt := rfl
@[simp] theorem State.setM16_pages (s : State) (a : Nat) (w : BitVec 16) : (s.setM16 a w).pages = s.pages := rfl
@[simp] theorem State.setM16_latches (s : State) (a : Nat) (w : BitVec 16) : (s.setM16 a w).latches = s.latches := rfl
@[simp] theorem State.setM16_reply (s : State) (a : Nat) (w : BitVec 16) : (s.setM16 a w).reply = s.reply := rfl
@[simp] theorem State.setM16_wires (s : State) (a : Nat) (w : BitVec 16) : (s.setM16 a w).wires = s.wires := rfl
@[simp] theorem State.setM16_lines (s : State) (a : Nat) (w : BitVec 16) : (s.setM16 a w).lines = s.lines := rfl
@[simp] theorem State.setM16_quay (s : State) (a : Nat) (w : BitVec 16) : (s.setM16 a w).quay = s.quay := rfl
@[simp] theorem State.setM16_sluices (s : State) (a : Nat) (w : BitVec 16) : (s.setM16 a w).sluices = s.sluices := rfl
@[simp] theorem State.setM16_pw (s : State) (a : Nat) (w : BitVec 16) : (s.setM16 a w).pw = s.pw := rfl
@[simp] theorem State.setM16_boot (s : State) (a : Nat) (w : BitVec 16) : (s.setM16 a w).boot = s.boot := rfl
@[simp] theorem State.setM16_sea (s : State) (a : Nat) (w : BitVec 16) : (s.setM16 a w).sea = s.sea := rfl
@[simp] theorem State.setM16_hm (s : State) (a : Nat) (w : BitVec 16) : (s.setM16 a w).hm = s.hm := rfl
@[simp] theorem State.setM16_legs (s : State) (a : Nat) (w : BitVec 16) : (s.setM16 a w).legs = s.legs := rfl
@[simp] theorem State.setM16_dr (s : State) (a : Nat) (w : BitVec 16) : (s.setM16 a w).dr = s.dr := rfl
@[simp] theorem State.setM16_buoys (s : State) (a : Nat) (w : BitVec 16) : (s.setM16 a w).buoys = s.buoys := rfl
@[simp] theorem State.setM16_swq (s : State) (a : Nat) (w : BitVec 16) : (s.setM16 a w).swq = s.swq := rfl
@[simp] theorem State.setM16_chans (s : State) (a : Nat) (w : BitVec 16) : (s.setM16 a w).chans = s.chans := rfl
@[simp] theorem State.setM16_td (s : State) (a : Nat) (w : BitVec 16) : (s.setM16 a w).td = s.td := rfl
@[simp] theorem State.setM16_sc (s : State) (a : Nat) (w : BitVec 16) : (s.setM16 a w).sc = s.sc := rfl
@[simp] theorem State.setM16_aonCnt (s : State) (a : Nat) (w : BitVec 16) : (s.setM16 a w).aonCnt = s.aonCnt := rfl
@[simp] theorem State.setM16_sx (s : State) (a : Nat) (w : BitVec 16) : (s.setM16 a w).sx = s.sx := rfl
@[simp] theorem State.setM16_ce (s : State) (a : Nat) (w : BitVec 16) : (s.setM16 a w).ce = s.ce := rfl
@[simp] theorem State.setM16_swl (s : State) (a : Nat) (w : BitVec 16) : (s.setM16 a w).swl = s.swl := rfl
@[simp] theorem State.setM16_ij (s : State) (a : Nat) (w : BitVec 16) : (s.setM16 a w).ij = s.ij := rfl
@[simp] theorem State.setM16_cap (s : State) (a : Nat) (w : BitVec 16) : (s.setM16 a w).cap = s.cap := rfl
@[simp] theorem State.setM16_clearing (s : State) (a : Nat) (w : BitVec 16) : (s.setM16 a w).clearing = s.clearing := rfl
@[simp] theorem State.setM16_tickOn (s : State) (a : Nat) (w : BitVec 16) : (s.setM16 a w).tickOn = s.tickOn := rfl
@[simp] theorem State.setM16_tickAligned (s : State) (a : Nat) (w : BitVec 16) : (s.setM16 a w).tickAligned = s.tickAligned := rfl
@[simp] theorem State.setM16_loops (s : State) (a : Nat) (w : BitVec 16) : (s.setM16 a w).loops = s.loops := rfl
@[simp] theorem State.setM16_dec (s : State) (a : Nat) (w : BitVec 16) : (s.setM16 a w).dec = s.dec := rfl
@[simp] theorem State.setM16_cv (s : State) (a : Nat) (w : BitVec 16) : (s.setM16 a w).cv = s.cv := rfl
@[simp] theorem State.setM16_ckMem (s : State) (a : Nat) (w : BitVec 16) : (s.setM16 a w).ckMem = s.ckMem := rfl
@[simp] theorem State.setM16_agreed (s : State) (a : Nat) (w : BitVec 16) : (s.setM16 a w).agreed = s.agreed := rfl
@[simp] theorem State.setM16_app (s : State) (a : Nat) (w : BitVec 16) : (s.setM16 a w).app = s.app := rfl
@[simp] theorem State.setM16_ma (s : State) (a : Nat) (w : BitVec 16) : (s.setM16 a w).ma = s.ma := rfl
@[simp] theorem State.setM16_berths (s : State) (a : Nat) (w : BitVec 16) : (s.setM16 a w).berths = s.berths := rfl
@[simp] theorem State.setM16_can (s : State) (a : Nat) (w : BitVec 16) : (s.setM16 a w).can = s.can := rfl
@[simp] theorem State.setM16_spi (s : State) (a : Nat) (w : BitVec 16) : (s.setM16 a w).spi = s.spi := rfl
@[simp] theorem State.setM16_hostPort (s : State) (a : Nat) (w : BitVec 16) : (s.setM16 a w).hostPort = s.hostPort := rfl
@[simp] theorem State.setM16_sent (s : State) (a : Nat) (w : BitVec 16) : (s.setM16 a w).sent = s.sent := rfl
@[simp] theorem State.setM16_sar (s : State) (a : Nat) (w : BitVec 16) : (s.setM16 a w).sar = s.sar := rfl
@[simp] theorem State.setM16_supplies (s : State) (a : Nat) (w : BitVec 16) : (s.setM16 a w).supplies = s.supplies := rfl
@[simp] theorem State.setM16_jtag (s : State) (a : Nat) (w : BitVec 16) : (s.setM16 a w).jtag = s.jtag := rfl
@[simp] theorem State.setM16_wg (s : State) (a : Nat) (w : BitVec 16) : (s.setM16 a w).wg = s.wg := rfl

/-! ### setSrc -/

@[simp] theorem State.setSrc_pending (s : State) (src : Nat) (x : SrcSt) : (s.setSrc src x).pending = s.pending := rfl
@[simp] theorem State.setSrc_cyc (s : State) (src : Nat) (x : SrcSt) : (s.setSrc src x).cyc = s.cyc := rfl
@[simp] theorem State.setSrc_freeCnt (s : State) (src : Nat) (x : SrcSt) : (s.setSrc src x).freeCnt = s.freeCnt := rfl
@[simp] theorem State.setSrc_mem (s : State) (src : Nat) (x : SrcSt) : (s.setSrc src x).mem = s.mem := rfl
@[simp] theorem State.setSrc_pages (s : State) (src : Nat) (x : SrcSt) : (s.setSrc src x).pages = s.pages := rfl
@[simp] theorem State.setSrc_latches (s : State) (src : Nat) (x : SrcSt) : (s.setSrc src x).latches = s.latches := rfl
@[simp] theorem State.setSrc_reply (s : State) (src : Nat) (x : SrcSt) : (s.setSrc src x).reply = s.reply := rfl
@[simp] theorem State.setSrc_wires (s : State) (src : Nat) (x : SrcSt) : (s.setSrc src x).wires = s.wires := rfl
@[simp] theorem State.setSrc_lines (s : State) (src : Nat) (x : SrcSt) : (s.setSrc src x).lines = s.lines := rfl
@[simp] theorem State.setSrc_quay (s : State) (src : Nat) (x : SrcSt) : (s.setSrc src x).quay = s.quay := rfl
@[simp] theorem State.setSrc_sluices (s : State) (src : Nat) (x : SrcSt) : (s.setSrc src x).sluices = s.sluices := rfl
@[simp] theorem State.setSrc_pw (s : State) (src : Nat) (x : SrcSt) : (s.setSrc src x).pw = s.pw := rfl
@[simp] theorem State.setSrc_boot (s : State) (src : Nat) (x : SrcSt) : (s.setSrc src x).boot = s.boot := rfl
@[simp] theorem State.setSrc_sea (s : State) (src : Nat) (x : SrcSt) : (s.setSrc src x).sea = s.sea := rfl
@[simp] theorem State.setSrc_legs (s : State) (src : Nat) (x : SrcSt) : (s.setSrc src x).legs = s.legs := rfl
@[simp] theorem State.setSrc_dr (s : State) (src : Nat) (x : SrcSt) : (s.setSrc src x).dr = s.dr := rfl
@[simp] theorem State.setSrc_buoys (s : State) (src : Nat) (x : SrcSt) : (s.setSrc src x).buoys = s.buoys := rfl
@[simp] theorem State.setSrc_swq (s : State) (src : Nat) (x : SrcSt) : (s.setSrc src x).swq = s.swq := rfl
@[simp] theorem State.setSrc_chans (s : State) (src : Nat) (x : SrcSt) : (s.setSrc src x).chans = s.chans := rfl
@[simp] theorem State.setSrc_td (s : State) (src : Nat) (x : SrcSt) : (s.setSrc src x).td = s.td := rfl
@[simp] theorem State.setSrc_sc (s : State) (src : Nat) (x : SrcSt) : (s.setSrc src x).sc = s.sc := rfl
@[simp] theorem State.setSrc_aonCnt (s : State) (src : Nat) (x : SrcSt) : (s.setSrc src x).aonCnt = s.aonCnt := rfl
@[simp] theorem State.setSrc_sx (s : State) (src : Nat) (x : SrcSt) : (s.setSrc src x).sx = s.sx := rfl
@[simp] theorem State.setSrc_ce (s : State) (src : Nat) (x : SrcSt) : (s.setSrc src x).ce = s.ce := rfl
@[simp] theorem State.setSrc_swl (s : State) (src : Nat) (x : SrcSt) : (s.setSrc src x).swl = s.swl := rfl
@[simp] theorem State.setSrc_ij (s : State) (src : Nat) (x : SrcSt) : (s.setSrc src x).ij = s.ij := rfl
@[simp] theorem State.setSrc_cap (s : State) (src : Nat) (x : SrcSt) : (s.setSrc src x).cap = s.cap := rfl
@[simp] theorem State.setSrc_clearing (s : State) (src : Nat) (x : SrcSt) : (s.setSrc src x).clearing = s.clearing := rfl
@[simp] theorem State.setSrc_tickOn (s : State) (src : Nat) (x : SrcSt) : (s.setSrc src x).tickOn = s.tickOn := rfl
@[simp] theorem State.setSrc_tickAligned (s : State) (src : Nat) (x : SrcSt) : (s.setSrc src x).tickAligned = s.tickAligned := rfl
@[simp] theorem State.setSrc_loops (s : State) (src : Nat) (x : SrcSt) : (s.setSrc src x).loops = s.loops := rfl
@[simp] theorem State.setSrc_dec (s : State) (src : Nat) (x : SrcSt) : (s.setSrc src x).dec = s.dec := rfl
@[simp] theorem State.setSrc_cv (s : State) (src : Nat) (x : SrcSt) : (s.setSrc src x).cv = s.cv := rfl
@[simp] theorem State.setSrc_ckMem (s : State) (src : Nat) (x : SrcSt) : (s.setSrc src x).ckMem = s.ckMem := rfl
@[simp] theorem State.setSrc_agreed (s : State) (src : Nat) (x : SrcSt) : (s.setSrc src x).agreed = s.agreed := rfl
@[simp] theorem State.setSrc_app (s : State) (src : Nat) (x : SrcSt) : (s.setSrc src x).app = s.app := rfl
@[simp] theorem State.setSrc_ma (s : State) (src : Nat) (x : SrcSt) : (s.setSrc src x).ma = s.ma := rfl
@[simp] theorem State.setSrc_berths (s : State) (src : Nat) (x : SrcSt) : (s.setSrc src x).berths = s.berths := rfl
@[simp] theorem State.setSrc_can (s : State) (src : Nat) (x : SrcSt) : (s.setSrc src x).can = s.can := rfl
@[simp] theorem State.setSrc_spi (s : State) (src : Nat) (x : SrcSt) : (s.setSrc src x).spi = s.spi := rfl
@[simp] theorem State.setSrc_hostPort (s : State) (src : Nat) (x : SrcSt) : (s.setSrc src x).hostPort = s.hostPort := rfl
@[simp] theorem State.setSrc_sent (s : State) (src : Nat) (x : SrcSt) : (s.setSrc src x).sent = s.sent := rfl
@[simp] theorem State.setSrc_sar (s : State) (src : Nat) (x : SrcSt) : (s.setSrc src x).sar = s.sar := rfl
@[simp] theorem State.setSrc_supplies (s : State) (src : Nat) (x : SrcSt) : (s.setSrc src x).supplies = s.supplies := rfl
@[simp] theorem State.setSrc_jtag (s : State) (src : Nat) (x : SrcSt) : (s.setSrc src x).jtag = s.jtag := rfl
@[simp] theorem State.setSrc_wg (s : State) (src : Nat) (x : SrcSt) : (s.setSrc src x).wg = s.wg := rfl

/-! ### cntS -/

@[simp] theorem State.cntS_pending (s : State) (k : Nat) (f : Field) : (s.cntS k f).pending = s.pending := by
  unfold State.cntS; dsimp only; split <;> rfl
@[simp] theorem State.cntS_cyc (s : State) (k : Nat) (f : Field) : (s.cntS k f).cyc = s.cyc := by
  unfold State.cntS; dsimp only; split <;> rfl
@[simp] theorem State.cntS_freeCnt (s : State) (k : Nat) (f : Field) : (s.cntS k f).freeCnt = s.freeCnt := by
  unfold State.cntS; dsimp only; split <;> rfl
@[simp] theorem State.cntS_mem (s : State) (k : Nat) (f : Field) : (s.cntS k f).mem = s.mem := by
  unfold State.cntS; dsimp only; split <;> rfl
@[simp] theorem State.cntS_latches (s : State) (k : Nat) (f : Field) : (s.cntS k f).latches = s.latches := by
  unfold State.cntS; dsimp only; split <;> rfl
@[simp] theorem State.cntS_reply (s : State) (k : Nat) (f : Field) : (s.cntS k f).reply = s.reply := by
  unfold State.cntS; dsimp only; split <;> rfl
@[simp] theorem State.cntS_wires (s : State) (k : Nat) (f : Field) : (s.cntS k f).wires = s.wires := by
  unfold State.cntS; dsimp only; split <;> rfl
@[simp] theorem State.cntS_lines (s : State) (k : Nat) (f : Field) : (s.cntS k f).lines = s.lines := by
  unfold State.cntS; dsimp only; split <;> rfl
@[simp] theorem State.cntS_quay (s : State) (k : Nat) (f : Field) : (s.cntS k f).quay = s.quay := by
  unfold State.cntS; dsimp only; split <;> rfl
@[simp] theorem State.cntS_sluices (s : State) (k : Nat) (f : Field) : (s.cntS k f).sluices = s.sluices := by
  unfold State.cntS; dsimp only; split <;> rfl
@[simp] theorem State.cntS_pw (s : State) (k : Nat) (f : Field) : (s.cntS k f).pw = s.pw := by
  unfold State.cntS; dsimp only; split <;> rfl
@[simp] theorem State.cntS_boot (s : State) (k : Nat) (f : Field) : (s.cntS k f).boot = s.boot := by
  unfold State.cntS; dsimp only; split <;> rfl
@[simp] theorem State.cntS_sea (s : State) (k : Nat) (f : Field) : (s.cntS k f).sea = s.sea := by
  unfold State.cntS; dsimp only; split <;> rfl
@[simp] theorem State.cntS_hm (s : State) (k : Nat) (f : Field) : (s.cntS k f).hm = s.hm := by
  unfold State.cntS; dsimp only; split <;> rfl
@[simp] theorem State.cntS_legs (s : State) (k : Nat) (f : Field) : (s.cntS k f).legs = s.legs := by
  unfold State.cntS; dsimp only; split <;> rfl
@[simp] theorem State.cntS_dr (s : State) (k : Nat) (f : Field) : (s.cntS k f).dr = s.dr := by
  unfold State.cntS; dsimp only; split <;> rfl
@[simp] theorem State.cntS_buoys (s : State) (k : Nat) (f : Field) : (s.cntS k f).buoys = s.buoys := by
  unfold State.cntS; dsimp only; split <;> rfl
@[simp] theorem State.cntS_swq (s : State) (k : Nat) (f : Field) : (s.cntS k f).swq = s.swq := by
  unfold State.cntS; dsimp only; split <;> rfl
@[simp] theorem State.cntS_chans (s : State) (k : Nat) (f : Field) : (s.cntS k f).chans = s.chans := by
  unfold State.cntS; dsimp only; split <;> rfl
@[simp] theorem State.cntS_td (s : State) (k : Nat) (f : Field) : (s.cntS k f).td = s.td := by
  unfold State.cntS; dsimp only; split <;> rfl
@[simp] theorem State.cntS_sc (s : State) (k : Nat) (f : Field) : (s.cntS k f).sc = s.sc := by
  unfold State.cntS; dsimp only; split <;> rfl
@[simp] theorem State.cntS_aonCnt (s : State) (k : Nat) (f : Field) : (s.cntS k f).aonCnt = s.aonCnt := by
  unfold State.cntS; dsimp only; split <;> rfl
@[simp] theorem State.cntS_sx (s : State) (k : Nat) (f : Field) : (s.cntS k f).sx = s.sx := by
  unfold State.cntS; dsimp only; split <;> rfl
@[simp] theorem State.cntS_ce (s : State) (k : Nat) (f : Field) : (s.cntS k f).ce = s.ce := by
  unfold State.cntS; dsimp only; split <;> rfl
@[simp] theorem State.cntS_swl (s : State) (k : Nat) (f : Field) : (s.cntS k f).swl = s.swl := by
  unfold State.cntS; dsimp only; split <;> rfl
@[simp] theorem State.cntS_ij (s : State) (k : Nat) (f : Field) : (s.cntS k f).ij = s.ij := by
  unfold State.cntS; dsimp only; split <;> rfl
@[simp] theorem State.cntS_cap (s : State) (k : Nat) (f : Field) : (s.cntS k f).cap = s.cap := by
  unfold State.cntS; dsimp only; split <;> rfl
@[simp] theorem State.cntS_clearing (s : State) (k : Nat) (f : Field) : (s.cntS k f).clearing = s.clearing := by
  unfold State.cntS; dsimp only; split <;> rfl
@[simp] theorem State.cntS_tickOn (s : State) (k : Nat) (f : Field) : (s.cntS k f).tickOn = s.tickOn := by
  unfold State.cntS; dsimp only; split <;> rfl
@[simp] theorem State.cntS_tickAligned (s : State) (k : Nat) (f : Field) : (s.cntS k f).tickAligned = s.tickAligned := by
  unfold State.cntS; dsimp only; split <;> rfl
@[simp] theorem State.cntS_loops (s : State) (k : Nat) (f : Field) : (s.cntS k f).loops = s.loops := by
  unfold State.cntS; dsimp only; split <;> rfl
@[simp] theorem State.cntS_dec (s : State) (k : Nat) (f : Field) : (s.cntS k f).dec = s.dec := by
  unfold State.cntS; dsimp only; split <;> rfl
@[simp] theorem State.cntS_cv (s : State) (k : Nat) (f : Field) : (s.cntS k f).cv = s.cv := by
  unfold State.cntS; dsimp only; split <;> rfl
@[simp] theorem State.cntS_ckMem (s : State) (k : Nat) (f : Field) : (s.cntS k f).ckMem = s.ckMem := by
  unfold State.cntS; dsimp only; split <;> rfl
@[simp] theorem State.cntS_agreed (s : State) (k : Nat) (f : Field) : (s.cntS k f).agreed = s.agreed := by
  unfold State.cntS; dsimp only; split <;> rfl
@[simp] theorem State.cntS_app (s : State) (k : Nat) (f : Field) : (s.cntS k f).app = s.app := by
  unfold State.cntS; dsimp only; split <;> rfl
@[simp] theorem State.cntS_ma (s : State) (k : Nat) (f : Field) : (s.cntS k f).ma = s.ma := by
  unfold State.cntS; dsimp only; split <;> rfl
@[simp] theorem State.cntS_berths (s : State) (k : Nat) (f : Field) : (s.cntS k f).berths = s.berths := by
  unfold State.cntS; dsimp only; split <;> rfl
@[simp] theorem State.cntS_can (s : State) (k : Nat) (f : Field) : (s.cntS k f).can = s.can := by
  unfold State.cntS; dsimp only; split <;> rfl
@[simp] theorem State.cntS_spi (s : State) (k : Nat) (f : Field) : (s.cntS k f).spi = s.spi := by
  unfold State.cntS; dsimp only; split <;> rfl
@[simp] theorem State.cntS_hostPort (s : State) (k : Nat) (f : Field) : (s.cntS k f).hostPort = s.hostPort := by
  unfold State.cntS; dsimp only; split <;> rfl
@[simp] theorem State.cntS_sent (s : State) (k : Nat) (f : Field) : (s.cntS k f).sent = s.sent := by
  unfold State.cntS; dsimp only; split <;> rfl
@[simp] theorem State.cntS_sar (s : State) (k : Nat) (f : Field) : (s.cntS k f).sar = s.sar := by
  unfold State.cntS; dsimp only; split <;> rfl
@[simp] theorem State.cntS_supplies (s : State) (k : Nat) (f : Field) : (s.cntS k f).supplies = s.supplies := by
  unfold State.cntS; dsimp only; split <;> rfl
@[simp] theorem State.cntS_jtag (s : State) (k : Nat) (f : Field) : (s.cntS k f).jtag = s.jtag := by
  unfold State.cntS; dsimp only; split <;> rfl
@[simp] theorem State.cntS_wg (s : State) (k : Nat) (f : Field) : (s.cntS k f).wg = s.wg := by
  unfold State.cntS; dsimp only; split <;> rfl

end Sys2Proof.Machine
end

