-- ==== Sys2Proof/Laws/Table.lean ====
section
/-!
SUPPORT. Laws/Table.lean: reading a sparse table after it is written.
-/
namespace Sys2Proof.Machine

variable {α : Type}

@[simp] theorem tget_tput_same (d : α) (t : List (Nat × α)) (i : Nat) (v : α) : tget d (tput t i v) i = v := by
  induction t with
  | nil => simp [tput, tget]
  | cons x t ih =>
    obtain ⟨k, w⟩ := x
    simp only [tput]
    split
    · simp [tget]
    · split <;> simp_all [tget]

theorem tget_tput_ne (d : α) (t : List (Nat × α)) {i j : Nat} (v : α) (h : i ≠ j) : tget d (tput t i v) j = tget d t j := by
  induction t with
  | nil => simp [tput, tget, h]
  | cons x t ih =>
    obtain ⟨k, w⟩ := x
    simp only [tput]
    split
    · rename_i hk; subst hk; simp [tget, h]
    · split
      · simp [tget, h]
      · simp [tget, ih]

/-- Reading any key of a table in which one key was written. -/
theorem tget_tput (d : α) (t : List (Nat × α)) (i j : Nat) (v : α) :
    tget d (tput t i v) j = if i = j then v else tget d t j := by
  split
  · subst_vars; simp
  · exact tget_tput_ne d t v ‹_›

end Sys2Proof.Machine
end

