-- ==== Sys2Proof/Laws/Ops.lean ====
section
/-!
SUPPORT. Laws/Ops.lean: what the shared operations over pages and registers do: one lemma per operation, which the proofs cite
instead of unfolding it.
-/
namespace Sys2Proof.Machine

/-! ### Pages -/

@[simp] theorem State.page_setPage_same (s : State) (k : Nat) (p : Page) : (s.setPage k p).page k = p := by
  simp [State.page, State.setPage]

theorem State.page_setPage (s : State) (k j : Nat) (p : Page) : (s.setPage k p).page j = if k = j then p else s.page j := by
  simp [State.page, State.setPage, tget_tput]

theorem State.page_setPage_ne (s : State) {k j : Nat} (p : Page) (h : k ≠ j) : (s.setPage k p).page j = s.page j := by
  simp [State.page_setPage, h]

@[simp] theorem State.page_modPage_same (s : State) (k : Nat) (f : Page → Page) : (s.modPage k f).page k = f (s.page k) := by
  simp [State.modPage]

theorem State.page_modPage_ne (s : State) {k j : Nat} (f : Page → Page) (h : k ≠ j) : (s.modPage k f).page j = s.page j :=
  s.page_setPage_ne _ h

theorem State.page_setReg_ne (s : State) {k j : Nat} (off : Nat) (w : Word) (h : k ≠ j) : (s.setReg k off w).page j = s.page j :=
  s.page_modPage_ne _ h

theorem State.page_setFld_ne (s : State) {k j : Nat} (f : Field) (v : Nat) (h : k ≠ j) : (s.setFld k f v).page j = s.page j :=
  s.page_setReg_ne _ _ h

theorem State.page_setBit_ne (s : State) {k j : Nat} (f : Field) (b : Bool) (h : k ≠ j) : (s.setBit k f b).page j = s.page j :=
  s.page_setFld_ne _ _ h

theorem State.page_irq_ne (s : State) {k j : Nat} (b : Nat) (h : k ≠ j) : (s.irq k b).page j = s.page j := s.page_modPage_ne _ h

theorem State.page_cntS_ne (s : State) {k j : Nat} (f : Field) (h : k ≠ j) : (s.cntS k f).page j = s.page j := by
  unfold State.cntS
  dsimp only
  split
  · rw [State.page_modPage_ne _ _ h, State.page_setFld_ne _ _ _ h]
  · exact State.page_setFld_ne _ _ _ h

/-- A page whose registers and header are read through a page that differs only in its state list reads the same. -/
theorem State.reg_congr {s t : State} {k : Nat} (h : t.page k = s.page k) (off : Nat) : t.reg k off = s.reg k off := by
  simp [State.reg, h]

theorem State.fld_congr {s t : State} {k : Nat} (h : t.page k = s.page k) (f : Field) : t.fld k f = s.fld k f := by
  simp [State.fld, State.reg_congr h]

/-! ### Registers -/

@[simp] theorem State.reg_setReg_same (s : State) (k off : Nat) (w : Word) : (s.setReg k off w).reg k off = w := by
  simp only [State.setReg, State.reg, State.page_modPage_same]
  unfold Page.putReg Page.view
  cases isBanked k off <;> cases (s.page k).activeB <;> simp

theorem State.reg_setReg_off (s : State) (k : Nat) {off o : Nat} (w : Word) (h : off ≠ o) :
    (s.setReg k off w).reg k o = s.reg k o := by
  simp only [State.setReg, State.reg, State.page_modPage_same]
  unfold Page.putReg Page.view
  cases isBanked k off <;> cases isBanked k o <;> cases (s.page k).activeB <;> simp [tget_tput_ne _ _ _ h]

/-- A register after one register was stored. -/
theorem State.reg_setReg (s : State) (k off j o : Nat) (w : Word) :
    (s.setReg k off w).reg j o = if k = j ∧ off = o then w else s.reg j o := by
  by_cases hk : k = j
  · subst hk
    by_cases ho : off = o
    · subst ho; simp
    · simp [ho, State.reg_setReg_off]
  · simp [hk, State.reg_congr (s.page_setReg_ne off w hk)]

/-- A change of a page that leaves its register lists and active bank alone changes no register. -/
theorem State.reg_modPage (s : State) (k j o : Nat) (f : Page → Page)
    (h : (f (s.page k)).regs = (s.page k).regs ∧ (f (s.page k)).bankA = (s.page k).bankA ∧
      (f (s.page k)).bankB = (s.page k).bankB ∧ (f (s.page k)).activeB = (s.page k).activeB) :
    (s.modPage k f).reg j o = s.reg j o := by
  by_cases hk : k = j
  · subst hk
    obtain ⟨h1, h2, h3, h4⟩ := h
    simp [State.reg, Page.view, h1, h2, h3, h4]
  · exact State.reg_congr (s.page_modPage_ne f hk) o

@[simp] theorem State.reg_irq (s : State) (k b j o : Nat) : (s.irq k b).reg j o = s.reg j o :=
  s.reg_modPage k j o _ ⟨rfl, rfl, rfl, rfl⟩

@[simp] theorem State.reg_setSt (s : State) (k j o : Nat) (x : PageSt) : (s.setSt k x).reg j o = s.reg j o :=
  s.reg_modPage k j o _ ⟨rfl, rfl, rfl, rfl⟩

@[simp] theorem State.reg_logClamp (s : State) (k c f j o : Nat) : (s.logClamp k c f).reg j o = s.reg j o :=
  s.reg_modPage k j o _ ⟨rfl, rfl, rfl, rfl⟩

@[simp] theorem State.fld_irq (s : State) (k b j : Nat) (f : Field) : (s.irq k b).fld j f = s.fld j f := by simp [State.fld]
@[simp] theorem State.fld_setSt (s : State) (k j : Nat) (x : PageSt) (f : Field) : (s.setSt k x).fld j f = s.fld j f := by
  simp [State.fld]
@[simp] theorem State.fld_logClamp (s : State) (k c o j : Nat) (f : Field) : (s.logClamp k c o).fld j f = s.fld j f := by
  simp [State.fld]

/-! ### Page states -/

@[simp] theorem State.st_setSt_same (s : State) (k : Nat) (x : PageSt) : (s.setSt k x).st k = x := by
  simp [State.st, State.setSt]

theorem State.st_setSt_ne (s : State) {k j : Nat} (x : PageSt) (h : k ≠ j) : (s.setSt k x).st j = s.st j := by
  simp [State.st, State.setSt, State.page_modPage_ne _ _ h]

@[simp] theorem State.st_irq (s : State) (k b j : Nat) : (s.irq k b).st j = s.st j := by
  by_cases h : k = j
  · subst h; simp [State.st, State.irq]
  · simp [State.st, State.page_irq_ne _ _ h]

@[simp] theorem State.st_setReg (s : State) (k off j : Nat) (w : Word) : (s.setReg k off w).st j = s.st j := by
  by_cases h : k = j
  · subst h
    simp only [State.st, State.setReg, State.page_modPage_same]
    unfold Page.putReg
    split <;> [split; skip] <;> rfl
  · simp [State.st, State.page_setReg_ne _ _ _ h]

@[simp] theorem State.st_setFld (s : State) (k j : Nat) (f : Field) (v : Nat) : (s.setFld k f v).st j = s.st j := by
  simp [State.setFld]

@[simp] theorem State.st_setBit (s : State) (k j : Nat) (f : Field) (b : Bool) : (s.setBit k f b).st j = s.st j := by
  simp [State.setBit]

/-! ### Fields -/

/-- A field that lies inside a 32-bit word. -/
abbrev Field.fits (f : Field) : Prop := 0 < f.width ∧ f.lo + f.width ≤ 32

/-- A number cut at a field: what lies above, in and below it. -/
theorem putBitsN_form (n lo w v : Nat) :
    n = (n / 2 ^ (lo + w) * 2 ^ w + n / 2 ^ lo % 2 ^ w) * 2 ^ lo + n % 2 ^ lo ∧
    putBitsN n lo w v = (n / 2 ^ (lo + w) * 2 ^ w + v % 2 ^ w) * 2 ^ lo + n % 2 ^ lo := by
  have e1 : n / 2 ^ (lo + w) * 2 ^ w + n / 2 ^ lo % 2 ^ w = n / 2 ^ lo := by
    rw [Nat.pow_add, ← Nat.div_div_eq_div_mul, Nat.mul_comm]; exact Nat.div_add_mod _ _
  have e2 : n = (n / 2 ^ (lo + w) * 2 ^ w + n / 2 ^ lo % 2 ^ w) * 2 ^ lo + n % 2 ^ lo := by
    rw [e1, Nat.mul_comm]; exact (Nat.div_add_mod _ _).symm
  refine ⟨e2, ?_⟩
  unfold putBitsN
  set m := n / 2 ^ lo % 2 ^ w
  set q := n / 2 ^ (lo + w) * 2 ^ w
  set r := n % 2 ^ lo
  have : n - m * 2 ^ lo = q * 2 ^ lo + r := by
    have : n = q * 2 ^ lo + m * 2 ^ lo + r := by rw [← Nat.add_mul]; exact e2
    omega
  rw [this, Nat.add_mul]; omega

theorem putBitsN_below (n lo w v : Nat) : putBitsN n lo w v % 2 ^ lo = n % 2 ^ lo := by
  rw [(putBitsN_form n lo w v).2, Nat.mul_comm, Nat.mul_add_mod, Nat.mod_mod]

theorem putBitsN_div (n lo w v : Nat) : putBitsN n lo w v / 2 ^ lo = n / 2 ^ (lo + w) * 2 ^ w + v % 2 ^ w := by
  rw [(putBitsN_form n lo w v).2, Nat.mul_comm, Nat.mul_add_div (Nat.two_pow_pos _),
    Nat.div_eq_of_lt (Nat.mod_lt _ (Nat.two_pow_pos _)), Nat.add_zero]

theorem putBitsN_in (n lo w v : Nat) : putBitsN n lo w v / 2 ^ lo % 2 ^ w = v % 2 ^ w := by
  rw [putBitsN_div, Nat.mul_comm, Nat.mul_add_mod, Nat.mod_mod]

theorem putBitsN_above (n lo w v : Nat) : putBitsN n lo w v / 2 ^ (lo + w) = n / 2 ^ (lo + w) := by
  rw [Nat.pow_add, ← Nat.div_div_eq_div_mul, putBitsN_div, Nat.mul_comm, Nat.mul_add_div (Nat.two_pow_pos _),
    Nat.div_eq_of_lt (Nat.mod_lt _ (Nat.two_pow_pos _)), Nat.add_zero, Nat.pow_add]

theorem putBitsN_lt {n lo w : Nat} (v : Nat) (hn : n < 2 ^ 32) (h : lo + w ≤ 32) : putBitsN n lo w v < 2 ^ 32 := by
  have hp : (2 : Nat) ^ 32 = 2 ^ (lo + w) * 2 ^ (32 - (lo + w)) := by rw [← Nat.pow_add]; congr 1; omega
  rw [hp] at hn ⊢
  have := Nat.div_lt_of_lt_mul hn
  rw [← putBitsN_above n lo w v] at this
  exact (Nat.div_lt_iff_lt_mul (Nat.two_pow_pos _)).1 this |>.trans_eq (Nat.mul_comm _ _)

theorem fput_toNat {f : Field} (h : f.lo + f.width ≤ 32) (w : Word) (v : Nat) :
    (fput f w v).toNat = putBitsN w.toNat f.lo f.width v := by
  simp only [fput, BitVec.toNat_ofNat]
  exact Nat.mod_eq_of_lt (putBitsN_lt v w.isLt h)

/-- A field reads what was put into it. -/
theorem fget_fput_same {f : Field} (h : f.fits) (w : Word) (v : Nat) : fget f (fput f w v) = v % 2 ^ f.width := by
  have e : f.lo + f.width - 1 + 1 - f.lo = f.width := by have := h.1; omega
  rw [fget, fput_toNat h.2, bitsN, e, putBitsN_in]

/-- A field keeps its value when a field beside it changes. -/
theorem fget_fput_ne {f g : Field} (hf : f.fits) (hg : g.fits) (w : Word) (v : Nat)
    (h : g.lo + g.width ≤ f.lo ∨ f.lo + f.width ≤ g.lo) : fget g (fput f w v) = fget g w := by
  have e : g.lo + g.width - 1 + 1 - g.lo = g.width := by have := hg.1; omega
  rw [fget, fget, fput_toNat hf.2, bitsN, bitsN, e]
  set n := w.toNat
  set m := putBitsN n f.lo f.width v
  rcases h with h | h
  · have key (x : Nat) : x / 2 ^ g.lo % 2 ^ g.width = x % 2 ^ f.lo / 2 ^ g.lo % 2 ^ g.width := by
      have hp : (2 : Nat) ^ f.lo = 2 ^ g.lo * (2 ^ g.width * 2 ^ (f.lo - g.lo - g.width)) := by
        rw [← Nat.pow_add, ← Nat.pow_add]; congr 1; omega
      rw [hp, Nat.mod_mul_right_div_self, Nat.mod_mul_right_mod]
    rw [key m, key n, putBitsN_below]
  · have key (x : Nat) : x / 2 ^ g.lo = x / 2 ^ (f.lo + f.width) / 2 ^ (g.lo - (f.lo + f.width)) := by
      rw [Nat.div_div_eq_div_mul, ← Nat.pow_add]; congr 2; omega
    rw [key m, key n, putBitsN_above]

/-- A field of a page after the block set it. -/
theorem State.fld_setFld_same (s : State) (k : Nat) {f : Field} (v : Nat) (h : f.fits) :
    (s.setFld k f v).fld k f = v % 2 ^ f.width := by
  simp [State.fld, State.setFld, fget_fput_same h]

/-- Any other field of any page after the block set one. -/
theorem State.fld_setFld_ne (s : State) {k j : Nat} {f g : Field} (v : Nat)
    (h : k ≠ j ∨ f.off ≠ g.off ∨ (f.fits ∧ g.fits ∧ (g.lo + g.width ≤ f.lo ∨ f.lo + f.width ≤ g.lo))) :
    (s.setFld k f v).fld j g = s.fld j g := by
  simp only [State.fld, State.setFld, State.reg_setReg]
  split
  · rename_i hk
    obtain ⟨rfl, ho⟩ := hk
    rcases h with h | h | ⟨hf, hg, h⟩
    · exact absurd rfl h
    · exact absurd ho h
    · rw [ho, fget_fput_ne hf hg _ _ h]
  · rfl

theorem State.fld_setBit_same (s : State) (k : Nat) {f : Field} (b : Bool) (h : f.fits) (h1 : f.width = 1) :
    (s.setBit k f b).fld k f = b2n b := by
  rw [State.setBit, State.fld_setFld_same _ _ _ h, h1]
  cases b <;> rfl

theorem State.fld_setBit_ne (s : State) {k j : Nat} {f g : Field} (b : Bool)
    (h : k ≠ j ∨ f.off ≠ g.off ∨ (f.fits ∧ g.fits ∧ (g.lo + g.width ≤ f.lo ∨ f.lo + f.width ≤ g.lo))) :
    (s.setBit k f b).fld j g = s.fld j g := s.fld_setFld_ne _ h

theorem State.bit_setBit_same (s : State) (k : Nat) {f : Field} (b : Bool) (h : f.fits) (h1 : f.width = 1) :
    (s.setBit k f b).bit k f = b := by
  rw [State.bit, State.fld_setBit_same _ _ _ h h1]
  cases b <;> rfl

theorem State.bit_setBit_ne (s : State) {k j : Nat} {f g : Field} (b : Bool)
    (h : k ≠ j ∨ f.off ≠ g.off ∨ (f.fits ∧ g.fits ∧ (g.lo + g.width ≤ f.lo ∨ f.lo + f.width ≤ g.lo))) :
    (s.setBit k f b).bit j g = s.bit j g := by
  rw [State.bit, State.bit, State.fld_setBit_ne _ _ h]

end Sys2Proof.Machine
end

