-- ==== Sys2Proof/Tests/Slice0.lean ====
section
/-!
SUPPORT. Tests/Slice0.lean: the WellFormed smoke, witnesses for the statements' hypotheses, and a few worked values of the spec.
-/
namespace Sys2Proof.Tests
open Sys2Proof.Machine

/-- A page of s in a state. -/
def witSt (k : Nat) (p : PageSt) (s : State) : State := s.modPage k (fun q => { q with st := p, en := p != .off })
/-- Words in memory from an address on. -/
def putW (s : State) (base : Nat) (vs : List Nat) : State := vs.zipIdx.foldl (fun s (v, i) => s.setM32 (base + 4 * i) (BitVec.ofNat 32 v)) s
/-- A unit that gives every bridge its enable. -/
def seaOn (s : State) : State :=
  let mf : Manifest := { s.sea.mf with
    bridges := List.replicate 6 { en := true, form := true, edgeMax := 50, tclMax := 200, dcMax := 3000, itripPos := 3000 } }
  let s := { s with pw := { s.pw with tide := .high, kdUp := true }, sea := { s.sea with wdGoodFlood := 3, mf := mf } }
  (((s.setBit pkSea SEAWALL_STAT_SEAL_OK true).setBit pkSea SEAWALL_STAT_CONFIRMED true).setBit pkSea SEAWALL_STAT_BOL_OUT true).setFld
    pkSea SEAWALL_WD_Q_FAIL_CNT 0
/-- The state a command leads to. -/
def nxt (c : Instr) (s : State) : State := match exec c s with | .next t => t | _ => s
/-- The active run of an engine, and the operation it stands at. -/
def runOf (s : State) (k : Nat) : Run := ((s.activeRun k).getD (0, {})).2
def opOf (s : State) (k : Nat) : OpF := opFields (s.ceProg k (runOf s k).pc)

namespace W02
/-- A page with its state, key and the rest as `f` gives it. -/
def pg (k : Nat) (p : PageSt) (f : Page → Page) : State := (witSt k p State.reset).modPage k f
def st : Nat → State
  | 0 => State.reset
  | 1 => pg pkDr .idle id
  | 2 => pg (pkGl 2) .off (fun q => { q with initPending := true })
  | 3 => pg (pkGb 1) .run id
  | 4 => pg (pkCe 0) .drain id
  | 5 => pg (pkGl 17) .idle (fun q => { q with key := .opened (.ac 0) })
  | 6 => pg (pkGl 17) .run (fun q => { q with key := .first (.ac 0) })
  | 7 => pg (pkCan 1) .run (fun q => { q with lock := true })
  | 8 => pg (pkGl 17) .run (fun q => { q with swapPending := true })
  | 9 => pg (pkCe 5) .run id
  | 10 => pg (pkHl 4) .run (fun q => { q with copyBusy := true, held := [(0x084, 5#32)] })
  | 11 => pg (pkCe 5) .run (fun q => { q with swapPending := true })
  | _ => { State.reset with latches := [(.ac 0, latchKey pkMs MS_TM_HI.off, 7#32)] }

/-- States and operands that meet the hypotheses of PageEnable, clause by clause. -/
theorem test_meets_PageEnable :
    ((st 0).st 68 = PageSt.off ∧ ((st 0).page 68).en = false ∧ ((st 0).page 68).lock = false ∧ (68 / 32 ≠ 6 ∧ 68 / 32 ≠ 7 ∧ ((st 0).page 68).key =
      KeySeq.idle ∨ ((st 0).page 68).key = KeySeq.opened (Initiator.ac 0)) ∧ kindOf 68 = some PKind.hl ∧ fixedEnable PKind.hl = false ∧ (1#2).toNat ≤
      1) ∧
    (((st 2).page 194).initPending = true ∧ (st 2).st 194 = PageSt.off ∧ kindOf 194 = some PKind.gl ∧ fixedEnable PKind.gl = false) ∧
    ((st 1).st 448 = PageSt.idle ∧ (st 1).startOk 448 = true) ∧
    ((st 3).st 217 = PageSt.run ∧ kindOf 217 = some PKind.gb ∧ fixedEnable PKind.gb = false) :=
  ⟨by decide, by decide, by decide, by decide⟩

/-- States and operands that meet the hypotheses of PageDisable, clause by clause. -/
theorem test_meets_PageDisable :
    (((st 1).page 448).en = true ∧ ((st 1).page 448).lock = false ∧ ((st 1).page 448).key = KeySeq.idle ∧ (st 1).st 448 = PageSt.idle ∧ kindOf 448 =
      some PKind.dr ∧ fixedEnable PKind.dr = false) ∧
    (((st 3).page 217).en = true ∧ ((st 3).page 217).lock = false ∧ ((st 3).page 217).key = KeySeq.idle ∧ (st 3).st 217 = PageSt.run ∧ kindOf 217 =
      some PKind.gb ∧ fixedEnable PKind.gb = false) ∧
    ((st 4).st 128 = PageSt.drain) :=
  ⟨by decide, by decide, by decide⟩

/-- States and operands that meet the hypotheses of KeySequence, clause by clause. -/
theorem test_meets_KeySequence :
    (((st 0).page 209).key = KeySeq.idle ∧ kindOf 209 = some PKind.gl ∧ 3232040448#32 = key1 209) ∧
    (((st 0).page 209).key = KeySeq.idle ∧ kindOf 209 = some PKind.gl ∧ 0#32 ≠ key1 209) ∧
    (((st 6).page 209).key = KeySeq.first (Initiator.ac 0) ∧ kindOf 209 = some PKind.gl ∧ 1062926847#32 = key2 209) ∧
    (kindOf 209 = some PKind.gl ∧ (((st 5).page 209).key = KeySeq.first (Initiator.ac 0) ∧ 0#32 ≠ key2 209 ∨ ((st 5).page 209).key = KeySeq.opened
      (Initiator.ac 0))) ∧
    (kindOf 209 = some PKind.gl ∧ (((st 5).page 209).key = KeySeq.first (Initiator.ac 0) ∨ ((st 5).page 209).key = KeySeq.opened (Initiator.ac 0))) ∧
    (((st 5).page 209).key ≠ KeySeq.idle) :=
  ⟨by decide, by decide, by decide, by decide, by decide, by decide⟩

/-- States and operands that meet the hypotheses of RegisterWrites, clause by clause. -/
theorem test_meets_RegisterWrites :
    (((st 0).page 209).lock = false ∧ ((st 0).page 209).key = KeySeq.idle ∧ ((st 0).page 209).drainMode.toNat ≤ 1 ∧ kindOf 209 = some PKind.gl) ∧
    ((st 0).answers 209 ∧ ((st 0).page 209).lock = false ∧ kindOf 209 = some PKind.gl) ∧
    ((st 7).answers 513 ∧ ((st 7).page 513).lock = true ∧ kindOf 513 = some PKind.can) ∧
    ((st 0).answers pkCst ∧ ((st 0).page pkCst).lock = false) ∧
    (1076494335 < 1076494336 ∧ 1073741824 ≤ 1076494335 ∧ (209 ≠ 4 ∨ 1076494335 % 4 ≠ 0)) :=
  ⟨by decide, (by unfold State.answers; decide), (by unfold State.answers; decide), (by unfold State.answers; decide), by decide⟩

/-- States and operands that meet the hypotheses of Banks, clause by clause. -/
theorem test_meets_Banks :
    (((st 9).page 133).lock = false ∧ (st 9).st 133 = PageSt.run ∧ ((st 9).page 133).swapPending = false ∧ kindOf 133 = some PKind.ce ∧ hasBanks
      PKind.ce = true) ∧
    (((st 11).page 133).lock = false ∧ ((st 11).page 133).swapPending = true ∧ kindOf 133 = some PKind.ce ∧ hasBanks PKind.ce = true) ∧
    (((st 0).page 68).lock = false ∧ ((st 0).st 68 = PageSt.off ∨ (st 0).st 68 = PageSt.idle) ∧ ((st 0).page 68).swapPending = false ∧ ((st 0).page
      68).copyBusy = false ∧ kindOf 68 = some PKind.hl ∧ hasBanks PKind.hl = true) ∧
    (kindOf 209 ≠ some PKind.ms ∧ (st 8).st 209 = PageSt.run ∧ ((st 8).page 209).swapPending = true ∧ ((st 8).page 209).copyBusy = false) ∧
    (((st 0).page 68).lock = false ∧ ((st 0).page 68).swapPending = false ∧ kindOf 68 = some PKind.hl ∧ hasBanks PKind.hl = true ∧ (PKind.hl =
      PKind.ce → (st 0).bit 68 CE_STAT_OLDBANK_OPEN = false)) ∧
    (((st 11).page 133).lock = false ∧ ((st 11).page 133).swapPending = true ∧ kindOf 133 = some PKind.ce ∧ hasBanks PKind.ce = true ∧ (PKind.ce =
      PKind.ce → (st 11).bit 133 CE_STAT_OLDBANK_OPEN = false)) ∧
    ((st 10).st 68 = PageSt.run ∧ ((st 10).page 68).copyBusy = true ∧ isBanked 68 128 = true ∧ (∀ (x : Nat × Word), x ∈ ((st 10).page 68).held → x.fst
      ≠ 128)) :=
  ⟨by decide, by decide, by decide, by decide, by decide, by decide,
    by decide⟩

/-- States and operands that meet the hypotheses of Reads, clause by clause. -/
theorem test_meets_Reads :
    ((st 0).answers (pkCs 17)) ∧
    ((st 0).answers pkMs ∧ (st 0).latched (Initiator.ac 0) pkMs MS_TM_HI.off = none ∧ (st 0).latched (Initiator.ac 0) pkMs MS_TM_LO.off = none) ∧
    ((st 12).answers pkMs ∧ (st 12).latched (Initiator.ac 0) pkMs MS_TM_HI.off = some 7#32) ∧
    ((st 0).answers 209 ∧ (st 0).latched (Initiator.ac 0) 209 0 = none ∧ kindOf 209 = some PKind.gl) :=
  ⟨(by unfold State.answers; decide), (by unfold State.answers; decide), (by unfold State.answers; decide), (by unfold State.answers; decide)⟩

/-- States and operands that meet the hypotheses of MemoryAndQuay, clause by clause. -/
theorem test_meets_MemoryAndQuay :
    (536870912 % 4 = 0 ∧ (268435456 ≤ 536870912 ∧ 536870912 < 293601280 ∨ 536870912 ≤ 536870912 ∧ 536870912 < 545259520)) ∧
    ((st 0).st (pkCe 5) ≠ PageSt.test) :=
  ⟨by decide, by decide⟩

/-- States and operands that meet the hypotheses of IdleCycle, clause by clause. -/
theorem test_meets_IdleCycle :
    ((st 0).pending = []) :=
  by decide
end W02

namespace W03
def witTide (t : Tide) : State :=
  { ((State.reset.setFld pkAon AON_WAKE_CFG_WAKE_EN 15).setBit pkAon AON_WAKE_CFG_CAN_EN true).setBit pkAon AON_WAKE_CFG_MAULO_EN true with
    pw := { tide := t } }
def witFloodEnd : State := { State.reset with pw := { imageRun := true, floodRunDone := true } }
def witJoined : State :=
  { ((State.reset.setBit pkSea SEAWALL_STAT_SEAL_OK true).setBit pkSea SEAWALL_STAT_CONFIRMED true).setFld pkMs MS_TSTAT_STATE 3 with
    pw := { imageRun := true, floodRunDone := true } }
def witKeyed (k : Nat) (s : State) : State := s.modPage k (fun p => { p with key := .opened (.ac 0) })
def witVsup : State := { State.reset with pw := { vsw := .good } }
def witVsw : State := { State.reset with pw := { vsw := .starting, vsupStart := true } }
def witRails : State := { State.reset with pw := { vio33 := .good, vio18 := .good, vcore := .good } }
def witTry (l : List Nat) : State := { State.reset with pw := { kdUp := true }, boot := { toTry := l } }
def witLoad : State := { State.reset with pw := { kdUp := true }, boot := { runBank := some 0 }, dr := { marchDone := true } }
def witTrial : State := { (witKeyed pkSec State.reset).setBit pkSec SEC_BOOT_STAT_TRIAL true with boot := { runBank := some 1 } }
def witPort : State := { State.reset with boot := { portOpen := true } }
def witPortFull : State := { State.reset with boot := { portOpen := true, portTarget := true, portWord := 0x3000000 } }
def witPortKeyed : State := witKeyed pkSec witPort
def witVerifying : State := { State.reset with boot := { verifying := true } }
def witUr : State := { State.reset with pw := { tide := .high, kdUp := true, urReq := [.external] }, mem := [(0x10000000, 7#8)] }
def st : Nat → State
  | 0 => (witSt (pkCs 17) .run State.reset).setBit pkPlb PLA_PLL_STAT_LOCK true
  | 1 => { State.reset with pw := { tapsForced := true } }
  | 2 => { State.reset with sluices := [(3, { disagree := 8 })] }
  | 3 => { State.reset with pw := { vsupLow := true } }
  | 4 => { State.reset with pw := { brownOut := true, tide := .high } }
  | 5 => { State.reset with pw := { brownOut := true, tide := .ebb } }
  | 6 => { State.reset with pw := { vpre := .starting, vio33 := .starting, vio18 := .starting, vcore := .starting, vgd := .starting } }
  | 7 => { State.reset with dr := { phase := .floodRun } }
  | 8 => witTide .slack
  | 9 => witTide .ebb
  | 10 => witFloodEnd
  | 11 => witJoined
  | 12 => witVsup
  | 13 => witVsw
  | 14 => witRails
  | 15 => witTry [0, 1]
  | 16 => witTry [1]
  | 17 => witLoad
  | 18 => witTrial
  | 19 => witPort
  | 20 => witPortFull
  | 21 => witPortKeyed
  | 22 => witVerifying
  | 23 => witUr
  | 24 => witKeyed pkSys (witTide .high)
  | _ => witKeyed pkSys State.reset

/-- States and operands that meet the hypotheses of ClockLosses, clause by clause. -/
theorem test_meets_ClockLosses :
    ((st 0).fixedLive) ∧
    ((st 0).fixedLive ∧ (st 0).st (pkCs 17) = PageSt.run) ∧
    ((st 1).pw.tapsForced = true) ∧
    ((st 0).pw.tide ≠ Tide.slack) ∧
    ((st 8).pw.tide = Tide.slack) ∧
    ((st 0).fixedLive ∧ (st 0).bit pkSea SEAWALL_STAT_HARD = false) :=
  ⟨(by unfold State.fixedLive; decide), (by unfold State.fixedLive; decide), by decide, by decide, by decide, (by unfold State.fixedLive; decide)⟩

/-- States and operands that meet the hypotheses of Sluices, clause by clause. -/
theorem test_meets_Sluices :
    (1 ≠ 0) ∧
    (0#32 = 0#32) ∧
    (((st 0).sluice 0).disagree < 8) ∧
    (((st 2).sluice 3).disagree = 8) :=
  ⟨by decide, by decide, by decide, by decide⟩

/-- States and operands that meet the hypotheses of WakesAndTides, clause by clause. -/
theorem test_meets_WakesAndTides :
    (((st 0).page pkAon).key = KeySeq.idle) ∧
    ((st 8).pw.tide = Tide.slack ∧ bitN ((st 8).fld pkAon AON_WAKE_CFG_WAKE_EN) 3 = true) ∧
    ((st 9).pw.tide = Tide.ebb ∧ bitN ((st 9).fld pkAon AON_WAKE_CFG_WAKE_EN) 3 = true) ∧
    ((st 8).bit pkAon AON_WAKE_CFG_CAN_EN = true ∧ (st 8).pw.tide = Tide.slack) ∧
    ((st 8).bit pkAon AON_WAKE_CFG_MAULO_EN = true ∧ (st 8).pw.tide = Tide.slack) ∧
    ((st 10).pw.tide = Tide.flood ∧ (st 10).pw.imageRun = true ∧ (st 10).pw.floodRunDone = true ∧ (st 10).pw.ebbHeld = false ∧ (st 10).toDryDock =
      true) ∧
    ((st 11).pw.tide = Tide.flood ∧ (st 11).pw.imageRun = true ∧ (st 11).pw.floodRunDone = true ∧ (st 11).pw.ebbHeld = false ∧ (st 11).toDryDock =
      false ∧ (st 11).joined = true) ∧
    ((st 10).pw.tide = Tide.flood ∧ (st 10).pw.imageRun = true ∧ (st 10).pw.floodRunDone = true ∧ (st 10).pw.ebbHeld = false ∧ (st 10).bit pkSea
      SEAWALL_STAT_SEAL_OK = false) ∧
    ((st 0).pw.tide = Tide.flood) ∧
    ((st 0).pw.tide = Tide.flood ∧ (st 0).fld pkHm HM_STAT_UNIT_REC < (st 0).sea.mf.hmLimit) ∧
    (((st 24).pw.tide = Tide.high ∨ (st 24).pw.tide = Tide.dryDock) ∧ ((st 24).page pkSys).key = KeySeq.opened (Initiator.ac 0)) ∧
    ((st 25).pw.tide = Tide.flood ∧ ((st 25).page pkSys).key = KeySeq.opened (Initiator.ac 0)) ∧
    ((st 5).pw.tide = Tide.ebb ∧ (st 5).pw.wakePending = false) ∧
    ((st 5).pw.tide = Tide.ebb ∧ ((st 5).pw.wakePending = true ∨ true = true)) :=
  ⟨by decide, by decide, by decide, by decide, by decide, by decide,
    by decide, by decide, by decide, by decide, by decide, by decide,
    by decide, by decide⟩

/-- States and operands that meet the hypotheses of Supplies, clause by clause. -/
theorem test_meets_Supplies :
    ((st 3).pw.vsupLow = true) ∧
    ((st 12).pw.vsupLow = false ∧ (st 12).pw.vsw = RailSt.good ∧ (st 12).pw.vpre = RailSt.off) ∧
    ((st 0).fixedLive) ∧
    ((st 4).pw.brownOut = true ∧ (st 4).pw.tide ≠ Tide.ebb) ∧
    ((st 5).pw.brownOut = true ∧ (st 5).pw.tide = Tide.ebb) ∧
    (railResets Rail.vsw = true) ∧
    ((st 13).pw.vsw = RailSt.starting ∧ (st 13).pw.vsupStart = true ∧ (st 13).pw.vpre = RailSt.off) ∧
    ((st 6).pw.vpre = RailSt.starting) ∧
    ((st 6).pw.vio33 = RailSt.starting) ∧
    ((st 6).pw.vio18 = RailSt.starting) ∧
    ((st 6).pw.vcore = RailSt.starting) ∧
    ((st 6).pw.vgd = RailSt.starting) ∧
    ((st 0).railStarting Rail.vsw = true) :=
  ⟨by decide, by decide, (by unfold State.fixedLive; decide), by decide, by decide, by decide,
    by decide, by decide, by decide, by decide, by decide, by decide,
    by decide⟩

/-- States and operands that meet the hypotheses of ResetsAndBoot, clause by clause. -/
theorem test_meets_ResetsAndBoot :
    ((st 23).urDue UrCause.external = true) ∧
    (268435456 ≤ 268435456) ∧
    ((st 0).pw.tide ≠ Tide.slack ∧ (st 0).pw.tide ≠ Tide.ebb ∧ (st 0).pw.vsupLow = false) ∧
    ((st 14).pw.tide = Tide.flood ∧ (st 14).kdRails = true ∧ (st 14).pw.kdUp = false ∧ (st 14).pw.extLow = false) ∧
    ((st 15).fixedLive ∧ (st 15).pw.kdUp = true ∧ (st 15).pw.tide = Tide.flood ∧ (st 15).boot.runBank = none ∧ (st 15).pw.noImage = false ∧
      (st 15).imageValid 0 = false ∧ (st 15).boot.toTry = [0, 1]) ∧
    ((st 16).fixedLive ∧ (st 16).pw.kdUp = true ∧ (st 16).pw.tide = Tide.flood ∧ (st 16).boot.runBank = none ∧ (st 16).pw.noImage = false ∧
      (st 16).imageValid 1 = false ∧ (st 16).boot.toTry = [1]) ∧
    ((st 17).pw.tide = Tide.flood ∧ (st 17).dr.marchDone = true ∧ (st 17).pw.imageRun = false ∧ (st 17).pw.noImage = false ∧ (st 17).pw.vgd =
      RailSt.off ∧ (st 17).boot.runBank = some 0) ∧
    ((st 7).dr.phase = DrPhase.floodRun) :=
  ⟨by decide, by decide, by decide, by decide, (by unfold State.fixedLive; decide), (by unfold State.fixedLive; decide),
    by decide, by decide⟩

/-- States and operands that meet the hypotheses of BootRecordsAndUpdate, clause by clause. -/
theorem test_meets_BootRecordsAndUpdate :
    ((st 18).memOk ∧ (st 18).recState < 8 ∧ ((st 18).page pkSec).key = KeySeq.opened (Initiator.ac 0)) ∧
    ((st 18).memOk ∧ (st 18).bit pkSec SEC_BOOT_STAT_TRIAL = true ∧ (st 18).recState < 8 ∧ (st 18).boot.runBank = some 1 ∧ ((st 18).page pkSec).key =
      KeySeq.opened (Initiator.ac 0)) ∧
    ((st 18).boot.portOpen = false ∧ (st 18).boot.verifying = false ∧ ((st 18).page pkSec).key = KeySeq.opened (Initiator.ac 0)) ∧
    (((st 19).page pkSec).key = KeySeq.idle ∧ (st 19).memOk ∧ (st 19).boot.portOpen = true ∧ (st 19).boot.portWord < regionWords
      (st 19).boot.portTarget ∧ (0 < bankBase (st 19).inactiveBank + regionBase (st 19).boot.portTarget + 4 * (st 19).boot.portWord ∨ bankBase
      (st 19).inactiveBank + regionBase (st 19).boot.portTarget + 4 * (st 19).boot.portWord + 4 ≤ 0)) ∧
    (((st 20).page pkSec).key = KeySeq.idle ∧ (st 20).memOk ∧ (st 20).boot.portOpen = true ∧ regionWords (st 20).boot.portTarget ≤
      (st 20).boot.portWord) ∧
    ((st 21).boot.portOpen = true ∧ ((st 21).page pkSec).key = KeySeq.opened (Initiator.ac 0)) ∧
    ((st 22).boot.verifying = true ∧ ((st 22).imageValid (st 22).inactiveBank = false ∨ (st 22).boot.overrun = true)) :=
  ⟨(by unfold State.memOk; decide), (by unfold State.memOk; decide), by decide, (by unfold State.memOk; decide), (by unfold State.memOk; decide), by decide,
    by decide⟩
end W03

namespace W05
def witLock : State := (State.reset.setBit pkPlb PLA_PLL_STAT_LOCK true)
def witCs : State := { witSt (pkCs 3) .run witLock with pw := { kdUp := true }, chans := [(3, { fillF := 0, fillP := 1 }), (17, { fillF := 1, fillP := 0 })] }
def witCm (k : Nat) : State := State.reset.setBit (pkCs k) CS_STAT_CM_FAULT true
/-- The Tender in a phase with a channel that is in RUN. -/
def witTd (phase ch : Nat) (t : Tender) : State :=
  { ((witSt pkCst .run (witSt (pkCs ch) .run State.reset)).setFld pkCst CST_TD_STAT_PHASE phase).setFld pkCst CST_TD_STAT_CH ch with td := t }
def witEmerg (phase : Nat) : State :=
  (((witSt (pkCs 4) .fault (witSt pkCst .run State.reset)).setFld pkCst CST_TD_STAT_PHASE phase).setBit pkCst CST_TD_CTRL_EMERG_EN true)
def st : Nat → State
  | 0 => witCs
  | 1 => witCm 0
  | 2 => witTd tdIdle 5 { req := some 5, selfGain := some 0 }
  | 3 => witTd tdIdle 5 { req := some 5 }
  | 4 => witTd tdConnect 2 {}
  | 5 => witTd tdAgree 2 { run := 64 }
  | 6 => witTd tdVerify 2 { run := 64, relieved := some 2 }
  | 7 => witTd tdRelief 2 { point := 1 }
  | 8 => witTd tdRelief 17 { point := 2 }
  | 9 => witTd tdSelfcal 31 { calGain := 2 }
  | 10 => witEmerg tdIdle
  | 11 => witTd tdHold 7 { calDone := true }
  | _ => witTd tdHold 7 {}

/-- States and operands that meet the hypotheses of CurrentSamples, clause by clause. -/
theorem test_meets_CurrentSamples :
    ((st 0).td.relieved ≠ some 3 ∧ (st 0).converts 3 = true ∧ ((st 0).chan 3).fillF ≤ 1) ∧
    ((st 0).bit (pkCs 0) CS_CFG_INVERT = false) ∧
    ((st 0).pllB = true ∧ (st 0).td.relieved ≠ some 3 ∧ (st 0).busy (pkCs 3) = true ∧ ((st 0).chan 3).fillP ≤ 1) ∧
    ((st 1).bit (pkCs 0) CS_STAT_CM_FAULT = true) ∧
    (((st 0).st (pkCs 17) = PageSt.off ∨ (st 0).st (pkCs 17) = PageSt.idle) ∧ ((st 0).page (pkCs 17)).lock = false ∧ 3 ≠ ((st 0).chan 17).coefGain) :=
  ⟨by decide, by decide, by decide, by decide, by decide⟩

/-- States and operands that meet the hypotheses of TenderRequests, clause by clause. -/
theorem test_meets_TenderRequests :
    ((st 0).st pkCst ≠ PageSt.test ∧ (st 0).td.req = none) ∧
    ((st 2).st pkCst ≠ PageSt.test ∧ (st 2).td.req ≠ none) ∧
    ((st 0).answers pkCst ∧ (st 0).td.req = none) ∧
    ((st 2).answers pkCst ∧ (st 2).td.req ≠ none) ∧
    ((st 0).st pkCst ≠ PageSt.test) ∧
    ((st 0).answers pkCst) ∧
    ((st 2).tdPhase = tdIdle ∧ (st 2).st pkCst = PageSt.run ∧ (st 2).td.req = some 5 ∧ (st 2).st (pkCs 5) = PageSt.run) :=
  ⟨by decide, by decide, (by unfold State.answers; decide), (by unfold State.answers; decide), by decide, (by unfold State.answers; decide),
    by decide⟩

/-- States and operands that meet the hypotheses of TenderService, clause by clause. -/
theorem test_meets_TenderService :
    ((st 2).tdPhase = tdIdle ∧ (st 2).st pkCst = PageSt.run ∧ (st 2).td.req = some 5 ∧ (st 2).st (pkCs 5) = PageSt.run ∧ (st 2).td.selfGain = some
      ((st 2).fld (pkCs 5) CS_CFG_GAIN)) ∧
    ((st 3).tdPhase = tdIdle ∧ (st 3).st pkCst = PageSt.run ∧ (st 3).td.req = some 5 ∧ (st 3).st (pkCs 5) = PageSt.run ∧ (st 3).td.selfGain ≠ some
      ((st 3).fld (pkCs 5) CS_CFG_GAIN)) ∧
    ((st 4).tdPhase = tdConnect) ∧
    ((st 5).tdCh < 18 ∧ 64 ≤ (st 5).td.run ∧ (st 5).tdPhase = tdAgree) ∧
    ((st 6).tdCh < 18 ∧ 64 ≤ (st 6).td.run ∧ (st 6).tdPhase = tdVerify ∧ (st 6).td.relieved = some (st 6).tdCh) ∧
    ((st 7).tdPhase = tdRelief ∧ (st 7).tdCh < 18 ∧ (st 7).st (pkCs (st 7).tdCh) = PageSt.run ∧ (st 7).td.point = 1) ∧
    ((st 8).tdPhase = tdRelief ∧ (st 8).tdCh < 18 ∧ (st 8).st (pkCs (st 8).tdCh) = PageSt.run ∧ (st 8).td.point = 2 ∧ ((st 8).chan
      (st 8).tdCh).refused < 2 ∧ (((st 8).dr.queue ++ (st 8).dr.held).any fun x => x.page == pkCs (st 8).tdCh) = false) ∧
    ((st 9).tdPhase = tdSelfcal ∧ (st 9).td.next = none) ∧
    ((st 10).bit pkCst CST_TD_CTRL_EMERG_EN = true ∧ (st 10).st pkCst = PageSt.run ∧ ((st 10).tdPhase = tdIdle ∨ (st 10).tdPhase = tdSelfcal) ∧
      (st 10).st (pkCs 4) = PageSt.fault) ∧
    ((st 11).tdPhase = tdHold ∧ (st 11).tdCh < 18 ∧ ((st 11).st (pkCs (st 11).tdCh) = PageSt.idle ∨ (st 11).st (pkCs (st 11).tdCh) = PageSt.run) ∧
      (st 11).td.calDone = true) ∧
    ((st 12).tdPhase = tdHold ∧ (st 12).tdCh < 18 ∧ ((st 12).st (pkCs (st 12).tdCh) = PageSt.idle ∨ (st 12).st (pkCs (st 12).tdCh) = PageSt.run) ∧
      (st 12).td.calDone = false) :=
  ⟨by decide, by decide, by decide, by decide, by decide, by decide,
    by decide, by decide, by decide, by decide, by decide⟩
end W05

namespace W06
def witSc (k mode : Nat) (x : Snd) : State :=
  { (witSt (pkSc k) .run State.reset).setFld (pkSc k) SC_MODE_MODE mode with pw := { tide := .high, kdUp := true }, sc := [(k, x)] }
def zz (x : Snd) (zm ztol zofs : Nat) (k : Nat) (m : Nat) : State := (((witSc k m x).setFld (pkSc k) SC_ZCFG_ZMODE zm).setFld (pkSc k) SC_ZCFG_ZTOL ztol).setFld (pkSc k) SC_ZCFG_Z_OFS zofs
def slack (d : AonCnt) : State := { State.reset with pw := { tide := .slack }, aonCnt := [(10, d), (11, d)] }
def st : Nat → State
  | 0 => witSc 2 0 {}
  | 1 => witSc 11 0 { a := true, angle := 4095 }
  | 2 => zz {} 1 0 7 3 1
  | 3 => zz { valid := true, angle := 100 } 2 5 0 3 1
  | 4 => witSc 3 0 { winPos := some 100#32, pos := 164#32 }
  | 5 => witSc 4 3 {}
  | 6 => witSc 4 5 { first := false, angle := 10 }
  | 7 => ((witSc 6 3 { frameTs := some 77#32 }).setBit (pkSc 6) SC_FRAME_PAR true)
  | 8 => ((witSc 6 4 { missed := 16 }))
  | 9 => witSt (pkSc 1) .idle (witSc 1 6 {})
  | 10 => witSc 3 6 {}
  | 11 => { witSt pkSx .run State.reset with sx := { bad0 := 3, bad1 := 2 } }
  | _ => slack { active := true, st := 0#3 }

set_option maxRecDepth 40000 in
/-- States and operands that meet the hypotheses of SoundingEdges, clause by clause. -/
theorem test_meets_SoundingEdges :
    ((st 0).scAlive 2 = true) ∧
    ((st 0).scAlive 2 = true ∧ ((st 0).snd 2).stopped = false ∧ (st 0).scMode 2 = 0 ∧ (quadIndex false false + 4 - quadIndex ((st 0).snd 2).a
      ((st 0).snd 2).b) % 4 = 0) ∧
    ((st 0).scAlive 2 = true ∧ ((st 0).snd 2).stopped = false ∧ (st 0).scMode 2 = 0 ∧ (st 0).scInv 2 = false ∧ ((st 0).snd 2).angle + 1 < (st 0).cpr 2
      ∧ (quadIndex true false + 4 - quadIndex ((st 0).snd 2).a ((st 0).snd 2).b) % 4 = 1) ∧
    ((st 1).scAlive 11 = true ∧ ((st 1).snd 11).stopped = false ∧ (st 1).scMode 11 = 0 ∧ (st 1).scInv 11 = false ∧ ((st 1).snd 11).angle + 1 =
      (st 1).cpr 11 ∧ (quadIndex true true + 4 - quadIndex ((st 1).snd 11).a ((st 1).snd 11).b) % 4 = 1) ∧
    ((st 1).scAlive 11 = true ∧ ((st 1).snd 11).stopped = false ∧ (st 1).scMode 11 = 0 ∧ (st 1).scInv 11 = false ∧ 0 < ((st 1).snd 11).angle ∧
      (quadIndex false false + 4 - quadIndex ((st 1).snd 11).a ((st 1).snd 11).b) % 4 = 3) ∧
    ((st 0).scAlive 2 = true ∧ ((st 0).snd 2).stopped = false ∧ (st 0).scMode 2 = 0 ∧ (st 0).scInv 2 = false ∧ ((st 0).snd 2).angle = 0 ∧ (quadIndex
      false true + 4 - quadIndex ((st 0).snd 2).a ((st 0).snd 2).b) % 4 = 3) ∧
    ((st 0).scAlive 2 = true ∧ ((st 0).snd 2).stopped = false ∧ (st 0).scMode 2 = 0 ∧ (quadIndex true true + 4 - quadIndex ((st 0).snd 2).a
      ((st 0).snd 2).b) % 4 = 2) ∧
    ((st 0).scAlive 2 = true ∧ ((st 0).snd 2).stopped = false ∧ (st 0).scMode 2 = 0) ∧
    ((st 2).scAlive 3 = true ∧ ((st 2).snd 3).stopped = false ∧ (st 2).scMode 3 = 1 ∧ ((st 2).snd 3).z = false ∧ (st 2).zGate 3 ((st 2).snd 3).a
      ((st 2).snd 3).b = true ∧ (st 2).fld (pkSc 3) SC_ZCFG_Z_OFS < (st 2).cpr 3 ∧ ((st 2).snd 3).valid = false ∧ ((st 2).fld (pkSc 3) SC_ZCFG_ZMODE =
      1 ∨ (st 2).fld (pkSc 3) SC_ZCFG_ZMODE = 2)) ∧
    ((st 3).scAlive 3 = true ∧ ((st 3).snd 3).stopped = false ∧ (st 3).scMode 3 = 1 ∧ ((st 3).snd 3).z = false ∧ (st 3).zGate 3 ((st 3).snd 3).a
      ((st 3).snd 3).b = true ∧ (st 3).fld (pkSc 3) SC_ZCFG_Z_OFS < (st 3).cpr 3 ∧ ((st 3).snd 3).valid = true ∧ (st 3).fld (pkSc 3) SC_ZCFG_ZMODE = 2
      ∧ (st 3).fld (pkSc 3) SC_ZCFG_ZTOL < (shorter ((st 3).cpr 3) ((st 3).snd 3).angle ((st 3).fld (pkSc 3) SC_ZCFG_Z_OFS)).natAbs) ∧
    ((st 0).scAlive 2 = true ∧ (st 0).scMode 2 ≤ 2 ∧ ((st 0).snd 2).still = false) ∧
    ((st 4).st (pkSc 3) = PageSt.run ∧ ((st 4).snd 3).still = false ∧ ((st 4).snd 3).winPos = some 100#32) :=
  ⟨by decide, by decide, by decide, by decide, by decide, by decide,
    by decide, by decide, by decide, by decide, by decide, by decide⟩

/-- States and operands that meet the hypotheses of SoundingAbsolute, clause by clause. -/
theorem test_meets_SoundingAbsolute :
    ((st 5).scAlive 4 = true ∧ 3 ≤ (st 5).scMode 4 ∧ ((st 5).snd 4).stopped = false ∧ (st 5).scInv 4 = false ∧ ((st 5).snd 4).first = true ∧ 16777215
      < (st 5).cpr 4) ∧
    ((st 6).scAlive 4 = true ∧ 3 ≤ (st 6).scMode 4 ∧ ((st 6).snd 4).stopped = false ∧ (st 6).scInv 4 = false ∧ ((st 6).snd 4).first = false ∧ 16777215
      < (st 6).cpr 4 ∧ 4 * (shorter ((st 6).cpr 4) ((st 6).snd 4).angle 16777215).natAbs < (st 6).cpr 4) ∧
    ((st 6).scAlive 4 = true ∧ 3 ≤ (st 6).scMode 4 ∧ ((st 6).snd 4).stopped = false ∧ (st 6).scInv 4 = false ∧ ((st 6).snd 4).first = false ∧
      ((st 6).snd 4).jumps < 3 ∧ 8388608 < (st 6).cpr 4 ∧ (st 6).cpr 4 ≤ 4 * (shorter ((st 6).cpr 4) ((st 6).snd 4).angle 8388608).natAbs) ∧
    ((st 5).scMode 4 = 3 ∧ (st 5).st (pkSc 4) = PageSt.run) ∧
    ((st 7).scMode 6 = 3 ∧ (st 7).scAlive 6 = true ∧ (st 7).bit (pkSc 6) SC_FRAME_PAR = true ∧ ((st 7).snd 6).frameTs = some 77#32 ∧ parityOdd
      ((st 7).fld (pkSc 6) SC_FRAME_FLEN) (1#40).toNat = true) ∧
    ((st 8).st (pkSc 6) = PageSt.run ∧ 3 ≤ (st 8).scMode 6 ∧ (st 8).scMode 6 ≤ 5 ∧ (st 8).fld (pkSc 6) SC_TIMING_FTO ≤ ((st 8).snd 6).missed) ∧
    ((st 9).scMode 1 = 6 ∧ (st 9).st (pkSc 1) = PageSt.idle) ∧
    ((st 10).scMode 3 = 6 ∧ (st 10).st (pkSc 3) = PageSt.run ∧ (st 10).bit (pkSc 3) SC_STAT_LOT = false) ∧
    ((st 11).st pkSx = PageSt.run ∧ (st 11).sx.bad0 = 3) ∧
    ((st 10).scMode 3 = 6 ∧ (st 10).st (pkSc 3) = PageSt.run) ∧
    ((st 12).pw.tide = Tide.slack ∧ ((st 12).aon 10).active = true ∧ ((st 12).aon 10).lost = false ∧ bitN (BitVec.toNat ((st 12).aon 10).mode) 8 =
      false ∧ aonSteps (fget SC_MODE_MODE ((st 12).aon 10).mode) ((st 12).aon 10).st (BitVec.ofNat 3 (b2n true + 2 * b2n false + 4 * b2n true)) = some
      1) ∧
    ((st 12).pw.tide = Tide.slack ∧ ((st 12).aon 10).active = true ∧ ((st 12).aon 10).lost = false ∧ aonSteps (fget SC_MODE_MODE ((st 12).aon
      10).mode) ((st 12).aon 10).st (BitVec.ofNat 3 (b2n true + 2 * b2n true + 4 * b2n true)) = none) ∧
    (((st 11).pw.tide = Tide.ebb ∨ (st 11).pw.tide = Tide.flood)) :=
  ⟨by decide, by decide, by decide, by decide, by decide, by decide,
    by decide, by decide, by decide, by decide, by decide, by decide,
    by decide⟩
end W06

namespace W07a
def oW (op dst a b c s aux : Nat) : Nat := op * 2^58 + dst * 2^48 + a * 2^38 + b * 2^28 + c * 2^18 + s * 2^10 + aux
def ceRun (r : Run) : Run := { r with started := true, pc := 3 }
def witCe (k g w : Nat) (r : Run) : State :=
  let s := (witSt (pkCe k) .run State.reset).setFld (pkCe k) (CE_GRP_RANGE_END.ix g 8) 9
  let s := putW s (ceBase k + 8 * 3) [w % 2^32, w / 2^32]
  let s := putW s (ceWAddr k g 0) [0x3F800000, 0x40490FDB, 0xC2F00000, 0x7FC12345, 0x7F800000, 0x00000001, 0xBF000000, 0x501502F9, 0x7F812345]
  let s := putW s (cePAddr k 0) [0x3F800000, 0x40000000, 0xC1200000, 0x3DCCCCCD, 0x00800000, 0x80000000]
  let s := (List.range 16).foldl (fun s i => s.setReg (pkCe k) (0x400 + 4 * i) (BitVec.ofNat 32 ([0x3F000000, 0xBF800000, 0x40400000, 0xC0400000, 0x3DCCCCCD, 0x41200000].getD (i % 6) 0))) s
  { s with ce := [(k, { runs := [(g, ceRun r)] })] }
def st : Nat → State
  | 0 => witCe 0 0 (oW 0 0x1FF 1 2 3 2 0) {}
  | 1 => witCe 1 1 (oW 1 0x1FF 1 2 3 2 0) {}
  | 2 => witCe 2 2 (oW 2 0x1FF 1 2 3 2 0) {}
  | 3 => witCe 3 3 (oW 3 0x1FF 1 2 3 2 0) {}
  | 4 => witCe 4 0 (oW 4 0x1FF 1 2 3 2 0) {}
  | 5 => witCe 5 1 (oW 5 0x1FF 1 2 3 2 0) {}
  | 6 => witCe 0 2 (oW 6 0x1FF 1 2 3 2 0) {}
  | 7 => witCe 1 3 (oW 7 0x1FF 1 2 3 2 0) {}
  | 8 => witCe 2 0 (oW 8 0x1FF 1 2 3 2 0) {}
  | 9 => witCe 3 1 (oW 9 0x1FF 1 2 3 2 0) {}
  | 10 => witCe 4 2 (oW 10 0x1FF 1 2 3 2 0) {}
  | 11 => witCe 5 3 (oW 11 0x1FF 1 2 3 2 0) {}
  | 12 => witCe 0 0 (oW 12 0x1FF 1 2 3 2 0) {}
  | 13 => witCe 1 1 (oW 13 0x1FF 1 2 3 2 0) {}
  | 14 => witCe 0 3 (oW 0x18 9 1 2 0 0 1) {}
  | 15 => witCe 0 3 (oW 0x1A 0x1FE 1 2 0 3 0) {}
  | 16 => witCe 0 3 (oW 0x1B 0x3E 1 2 0 3 0) {}
  | 17 => witCe 5 3 (oW 0x19 0x3D 3 2 2 0 0) {}
  | 18 => witCe 5 3 (oW 0x20 0x103 1 2 2 3 0) {}
  | 19 => witCe 0 3 (oW 0x21 0x103 1 2 2 3 0) {}
  | 20 => witCe 0 3 (oW 0x22 0x104 1 2 2 3 0) {}
  | 21 => witCe 0 3 (oW 0x24 0x103 1 2 2 3 0) {}
  | _ => witCe 0 3 (oW 0x23 5 2 2 0 0 1) {}

/-- States and operands that meet the hypotheses of CapstanArithmetic, clause by clause. -/
theorem test_meets_CapstanArithmetic :
    ((st 0).memOk ∧ (st 0).atOp 0 0 (runOf (st 0) 0) (opOf (st 0) 0) ∧ ((opOf (st 0) 0).dst < 64 ∨ 256 ≤ (opOf (st 0) 0).dst) ∧ (opOf (st 0) 0).op =
      0) ∧
    ((st 1).memOk ∧ (st 1).atOp 1 1 (runOf (st 1) 1) (opOf (st 1) 1) ∧ ((opOf (st 1) 1).dst < 64 ∨ 256 ≤ (opOf (st 1) 1).dst) ∧ (opOf (st 1) 1).op =
      1) ∧
    ((st 2).memOk ∧ (st 2).atOp 2 2 (runOf (st 2) 2) (opOf (st 2) 2) ∧ ((opOf (st 2) 2).dst < 64 ∨ 256 ≤ (opOf (st 2) 2).dst) ∧ (opOf (st 2) 2).op =
      2) ∧
    ((st 3).memOk ∧ (st 3).atOp 3 3 (runOf (st 3) 3) (opOf (st 3) 3) ∧ ((opOf (st 3) 3).dst < 64 ∨ 256 ≤ (opOf (st 3) 3).dst) ∧ (opOf (st 3) 3).op =
      3) ∧
    ((st 4).memOk ∧ (st 4).atOp 4 0 (runOf (st 4) 4) (opOf (st 4) 4) ∧ ((opOf (st 4) 4).dst < 64 ∨ 256 ≤ (opOf (st 4) 4).dst) ∧ (opOf (st 4) 4).op =
      4) ∧
    ((st 5).memOk ∧ (st 5).atOp 5 1 (runOf (st 5) 5) (opOf (st 5) 5) ∧ ((opOf (st 5) 5).dst < 64 ∨ 256 ≤ (opOf (st 5) 5).dst) ∧ (opOf (st 5) 5).op =
      5) ∧
    ((st 6).memOk ∧ (st 6).atOp 0 2 (runOf (st 6) 0) (opOf (st 6) 0) ∧ ((opOf (st 6) 0).dst < 64 ∨ 256 ≤ (opOf (st 6) 0).dst) ∧ (opOf (st 6) 0).op =
      6) ∧
    ((st 7).memOk ∧ (st 7).atOp 1 3 (runOf (st 7) 1) (opOf (st 7) 1) ∧ ((opOf (st 7) 1).dst < 64 ∨ 256 ≤ (opOf (st 7) 1).dst) ∧ (opOf (st 7) 1).op =
      7) ∧
    ((st 8).memOk ∧ (st 8).atOp 2 0 (runOf (st 8) 2) (opOf (st 8) 2) ∧ ((opOf (st 8) 2).dst < 64 ∨ 256 ≤ (opOf (st 8) 2).dst) ∧ (opOf (st 8) 2).op =
      8) ∧
    ((st 9).memOk ∧ (st 9).atOp 3 1 (runOf (st 9) 3) (opOf (st 9) 3) ∧ ((opOf (st 9) 3).dst < 64 ∨ 256 ≤ (opOf (st 9) 3).dst) ∧ (opOf (st 9) 3).op =
      9) ∧
    ((st 10).memOk ∧ (st 10).atOp 4 2 (runOf (st 10) 4) (opOf (st 10) 4) ∧ ((opOf (st 10) 4).dst < 64 ∨ 256 ≤ (opOf (st 10) 4).dst) ∧ (opOf (st 10)
      4).op = 10) ∧
    ((st 11).memOk ∧ (st 11).atOp 5 3 (runOf (st 11) 5) (opOf (st 11) 5) ∧ ((opOf (st 11) 5).dst < 64 ∨ 256 ≤ (opOf (st 11) 5).dst) ∧ (opOf (st 11)
      5).op = 11) ∧
    ((st 12).memOk ∧ (st 12).atOp 0 0 (runOf (st 12) 0) (opOf (st 12) 0) ∧ ((opOf (st 12) 0).dst < 64 ∨ 256 ≤ (opOf (st 12) 0).dst) ∧ (opOf (st 12)
      0).op = 12) ∧
    ((st 13).memOk ∧ (st 13).atOp 1 1 (runOf (st 13) 1) (opOf (st 13) 1) ∧ ((opOf (st 13) 1).dst < 64 ∨ 256 ≤ (opOf (st 13) 1).dst) ∧ (opOf (st 13)
      1).op = 13) :=
  ⟨(by unfold State.memOk State.atOp; decide), (by unfold State.memOk State.atOp; decide), (by unfold State.memOk State.atOp; decide), (by unfold State.memOk State.atOp; decide), (by unfold State.memOk State.atOp; decide), (by unfold State.memOk State.atOp; decide),
    (by unfold State.memOk State.atOp; decide), (by unfold State.memOk State.atOp; decide), (by unfold State.memOk State.atOp; decide), (by unfold State.memOk State.atOp; decide), (by unfold State.memOk State.atOp; decide), (by unfold State.memOk State.atOp; decide),
    (by unfold State.memOk State.atOp; decide), (by unfold State.memOk State.atOp; decide)⟩

/-- States and operands that meet the hypotheses of CapstanBlocks, clause by clause. -/
theorem test_meets_CapstanBlocks :
    ((st 14).memOk ∧ (st 14).atOp 0 3 (runOf (st 14) 0) (opOf (st 14) 0) ∧ ((opOf (st 14) 0).dst + 2 ≤ 64 ∨ 256 ≤ (opOf (st 14) 0).dst) ∧ (opOf
      (st 14) 0).op = 24) ∧
    ((st 15).memOk ∧ (st 15).atOp 0 3 (runOf (st 15) 0) (opOf (st 15) 0) ∧ ((opOf (st 15) 0).dst + 2 ≤ 64 ∨ 256 ≤ (opOf (st 15) 0).dst) ∧ (opOf
      (st 15) 0).op = 26) ∧
    ((st 16).memOk ∧ (st 16).atOp 0 3 (runOf (st 16) 0) (opOf (st 16) 0) ∧ ((opOf (st 16) 0).dst + 2 ≤ 64 ∨ 256 ≤ (opOf (st 16) 0).dst) ∧ (opOf
      (st 16) 0).op = 27) ∧
    ((st 17).memOk ∧ (st 17).atOp 5 3 (runOf (st 17) 5) (opOf (st 17) 5) ∧ ((opOf (st 17) 5).dst + 3 ≤ 64 ∨ 256 ≤ (opOf (st 17) 5).dst) ∧ (opOf
      (st 17) 5).op = 25) ∧
    ((st 18).memOk ∧ (st 18).atOp 5 3 (runOf (st 18) 5) (opOf (st 18) 5) ∧ ((opOf (st 18) 5).dst < 64 ∨ 256 ≤ (opOf (st 18) 5).dst) ∧ (opOf (st 18)
      5).op = 32) ∧
    ((st 19).memOk ∧ (st 19).atOp 0 3 (runOf (st 19) 0) (opOf (st 19) 0) ∧ ((opOf (st 19) 0).dst < 64 ∨ 256 ≤ (opOf (st 19) 0).dst) ∧ (opOf (st 19)
      0).op = 33) ∧
    ((st 20).memOk ∧ (st 20).atOp 0 3 (runOf (st 20) 0) (opOf (st 20) 0) ∧ ((opOf (st 20) 0).dst < 64 ∨ 256 ≤ (opOf (st 20) 0).dst) ∧ (opOf (st 20)
      0).op = 34) ∧
    ((st 21).memOk ∧ (st 21).atOp 0 3 (runOf (st 21) 0) (opOf (st 21) 0) ∧ ((opOf (st 21) 0).dst < 64 ∨ 256 ≤ (opOf (st 21) 0).dst) ∧ (opOf (st 21)
      0).op = 36) ∧
    ((st 22).memOk ∧ (st 22).atOp 0 3 (runOf (st 22) 0) (opOf (st 22) 0) ∧ ((opOf (st 22) 0).dst < 64 ∨ 256 ≤ (opOf (st 22) 0).dst) ∧ (opOf (st 22)
      0).op = 35) :=
  ⟨(by unfold State.memOk State.atOp; decide), (by unfold State.memOk State.atOp; decide), (by unfold State.memOk State.atOp; decide), (by unfold State.memOk State.atOp; decide), (by unfold State.memOk State.atOp; decide), (by unfold State.memOk State.atOp; decide),
    (by unfold State.memOk State.atOp; decide), (by unfold State.memOk State.atOp; decide), (by unfold State.memOk State.atOp; decide)⟩
end W07a

namespace W07b
def oW (op dst a b c s aux : Nat) : Nat := op * 2^58 + dst * 2^48 + a * 2^38 + b * 2^28 + c * 2^18 + s * 2^10 + aux
def ceRun (r : Run) : Run := { r with started := true, pc := 3 }
def witCe (k g w : Nat) (r : Run) : State :=
  let s := (witSt (pkCe k) .run State.reset).setFld (pkCe k) (CE_GRP_RANGE_END.ix g 8) 9
  let s := putW s (ceBase k + 8 * 3) [w % 2^32, w / 2^32]
  let s := putW s (ceWAddr k g 0) [0x3F800000, 0x40490FDB, 0xC2F00000, 0x7FC12345, 0x7F800000, 0x00000001, 0xBF000000, 0x501502F9, 0x7F812345]
  let s := putW s (cePAddr k 0) [0x3F800000, 0x40000000, 0xC1200000, 0x3DCCCCCD, 0x00800000, 0x80000000]
  let s := (List.range 16).foldl (fun s i => s.setReg (pkCe k) (0x400 + 4 * i) (BitVec.ofNat 32 ([0x3F000000, 0xBF800000, 0x40400000, 0xC0400000, 0x3DCCCCCD, 0x41200000].getD (i % 6) 0))) s
  { s with ce := [(k, { runs := [(g, ceRun r)] })] }
def links : List (Word × Bool) := [(0x3F800000#32, false), (0x40000000#32, true), (0x7FC00000#32, false)]
def pairS (s : State) (pubs : List (Nat × Word)) : State := let s := (s.setBit (pkCe 2) CE_CFG_PAIR true).setFld (pkCe 3) (CE_LINK_TYPE.ix 0) 5
  { s with ce := s.ce ++ [(2, { pubs := pubs })] }
def st : Nat → State
  | 0 => witCe 2 3 (oW 0x28 9 1 2 0 0 6) {}
  | 1 => (witCe 2 3 (oW 0x28 9 1 2 0 0 6) {}).setFld (pkSw 2) (SW_TBL_CFG_TEACH.ix 2 0x40) 3
  | 2 => witCe 1 0 (oW 0x10 3 0 0 0 0 0) { links := links }
  | 3 => witCe 1 1 (oW 0x10 7 0 0 0 0 1) { links := links }
  | 4 => witCe 1 1 (oW 0x10 7 0 0 0 0 0x21) { links := links }
  | 5 => pairS (witCe 3 0 (oW 0x10 7 0 0 0 0 0) { tick := 9 }) [(8, 0x40000000#32), (7, 1#32)]
  | 6 => pairS (witCe 3 0 (oW 0x10 7 0 0 0 0 0) { tick := 8 }) [(8, 0x40000000#32), (7, 1#32)]
  | 7 => witCe 2 3 (oW 0x11 0 1 0 0 0 31) {}
  | 8 => witCe 2 3 (oW 0x11 0 3 0 0 0 4) {}
  | 9 => (witCe 2 3 (oW 0x11 0 4 0 0 0 4) {}).setFld (pkCe 2) (CE_GRP_FLAGS_CONS_ABND.ix 3 16) 2
  | 10 => witCe 2 3 (oW 0x12 0 1 0 0 0 2) {}
  | 11 => witCe 2 3 (oW 0x12 0 0x101 0 0 0 0) { stP := [(1, 0x7F800000#32)] }
  | 12 => witCe 0 3 (oW 0x2A 0 1 0 0 0 7) {}
  | _ => witCe 0 3 (oW 0x29 9 1 0 0 0 2) { inj := 0x3F800000#32, injPoints := 4 }

set_option maxRecDepth 40000 in
/-- States and operands that meet the hypotheses of CapstanStreams, clause by clause. -/
theorem test_meets_CapstanStreams :
    ((st 2).memOk ∧ (st 2).atOp 1 0 (runOf (st 2) 1) (opOf (st 2) 1) ∧ ((opOf (st 2) 1).dst < 64 ∨ 256 ≤ (opOf (st 2) 1).dst) ∧ (opOf (st 2) 1).op =
      16 ∧ ¬(st 2).fld (pkCe 1) (CE_LINK_TYPE.ix ((opOf (st 2) 1).aux % 32)) = 5 ∧ ((runOf (st 2) 1).links.getD ((opOf (st 2) 1).aux % 32) (0#32,
      true)).snd = false) ∧
    ((st 3).memOk ∧ (st 3).atOp 1 1 (runOf (st 3) 1) (opOf (st 3) 1) ∧ ((opOf (st 3) 1).dst < 64 ∨ 256 ≤ (opOf (st 3) 1).dst) ∧ (opOf (st 3) 1).op =
      16 ∧ ¬(st 3).fld (pkCe 1) (CE_LINK_TYPE.ix ((opOf (st 3) 1).aux % 32)) = 5 ∧ ((runOf (st 3) 1).links.getD ((opOf (st 3) 1).aux % 32) (0#32,
      true)).snd = true ∧ bitN (opOf (st 3) 1).aux 5 = false ∧ (opOf (st 3) 1).dst < 64) ∧
    ((st 5).memOk ∧ (st 5).atOp 3 0 (runOf (st 5) 3) (opOf (st 5) 3) ∧ ((opOf (st 5) 3).dst < 64 ∨ 256 ≤ (opOf (st 5) 3).dst) ∧ (opOf (st 5) 3).op =
      16 ∧ (st 5).fld (pkCe 3) (CE_LINK_TYPE.ix ((opOf (st 5) 3).aux % 32)) = 5 ∧ (st 5).partnerAngle 3 (runOf (st 5) 3) = none ∧ bitN (opOf (st 5)
      3).aux 5 = false ∧ (opOf (st 5) 3).dst < 64 ∧ ((st 5).eng (3 - 1)).pubs = [(8, 1073741824#32), (7, 1#32)]) ∧
    ((st 6).memOk ∧ (st 6).atOp 3 0 (runOf (st 6) 3) (opOf (st 6) 3) ∧ ((opOf (st 6) 3).dst < 64 ∨ 256 ≤ (opOf (st 6) 3).dst) ∧ (opOf (st 6) 3).op =
      16 ∧ (st 6).fld (pkCe 3) (CE_LINK_TYPE.ix ((opOf (st 6) 3).aux % 32)) = 5 ∧ (st 6).partnerAngle 3 (runOf (st 6) 3) = some (1073741824#32,
      false)) ∧
    ((st 1).memOk ∧ (st 1).atOp 2 3 (runOf (st 1) 2) (opOf (st 1) 2) ∧ ((opOf (st 1) 2).dst < 64 ∨ 256 ≤ (opOf (st 1) 2).dst) ∧ (opOf (st 1) 2).op =
      40 ∧ (bitN (opOf (st 1) 2).aux 2 = false ∨ (st 1).fld (pkSw 2) (SW_TBL_CFG_TEACH.ix ((opOf (st 1) 2).aux % 4) 64) = 3 ∧ tmem (runOf (st 1)
      2).teach ((opOf (st 1) 2).aux % 4) = false)) ∧
    ((st 0).memOk ∧ (st 0).atOp 2 3 (runOf (st 0) 2) (opOf (st 0) 2) ∧ ((opOf (st 0) 2).dst < 64 ∨ 256 ≤ (opOf (st 0) 2).dst) ∧ (opOf (st 0) 2).op =
      40 ∧ bitN (opOf (st 0) 2).aux 2 = true ∧ ¬((st 0).fld (pkSw 2) (SW_TBL_CFG_TEACH.ix ((opOf (st 0) 2).aux % 4) 64) = 3 ∧ tmem (runOf (st 0)
      2).teach ((opOf (st 0) 2).aux % 4) = false) ∧ (opOf (st 0) 2).dst < 64) ∧
    ((st 13).memOk ∧ (st 13).atOp 0 3 (runOf (st 13) 0) (opOf (st 13) 0) ∧ ((opOf (st 13) 0).dst < 64 ∨ 256 ≤ (opOf (st 13) 0).dst) ∧ (opOf (st 13)
      0).op = 41) ∧
    ((st 4).memOk ∧ (st 4).atOp 1 1 (runOf (st 4) 1) (opOf (st 4) 1) ∧ (opOf (st 4) 1).op = 16 ∧ ¬(st 4).fld (pkCe 1) (CE_LINK_TYPE.ix ((opOf (st 4)
      1).aux % 32)) = 5 ∧ ((runOf (st 4) 1).links.getD ((opOf (st 4) 1).aux % 32) (0#32, true)).snd = true ∧ bitN (opOf (st 4) 1).aux 5 = true) ∧
    ((st 7).memOk ∧ (st 7).pairLower 2 = false ∧ (st 7).atOp 2 3 (runOf (st 7) 2) (opOf (st 7) 2) ∧ (opOf (st 7) 2).op = 17 ∧ fIsFinite f32
      ((st 7).opnd 2 3 (runOf (st 7) 2) (opOf (st 7) 2).a) = true) ∧
    ((st 9).memOk ∧ (st 9).fld (pkCe 2) (CE_GRP_FLAGS_CONS_ABND.ix 3 16) = 2 ∧ (st 9).atOp 2 3 (runOf (st 9) 2) (opOf (st 9) 2) ∧ (opOf (st 9) 2).op =
      17 ∧ fIsFinite f32 ((st 9).opnd 2 3 (runOf (st 9) 2) (opOf (st 9) 2).a) = false) ∧
    ((st 8).memOk ∧ (st 8).fld (pkCe 2) (CE_GRP_FLAGS_CONS_ABND.ix 3 16) < 2 ∧ (st 8).atOp 2 3 (runOf (st 8) 2) (opOf (st 8) 2) ∧ (opOf (st 8) 2).op =
      17 ∧ fIsFinite f32 ((st 8).opnd 2 3 (runOf (st 8) 2) (opOf (st 8) 2).a) = false) ∧
    ((st 10).memOk ∧ (st 10).atOp 2 3 (runOf (st 10) 2) (opOf (st 10) 2) ∧ (opOf (st 10) 2).op = 18 ∧ fIsFinite f32 ((st 10).opnd 2 3 (runOf (st 10)
      2) (opOf (st 10) 2).a) = true) ∧
    ((st 11).memOk ∧ (st 11).atOp 2 3 (runOf (st 11) 2) (opOf (st 11) 2) ∧ (opOf (st 11) 2).op = 18 ∧ fIsFinite f32 ((st 11).opnd 2 3 (runOf (st 11)
      2) (opOf (st 11) 2).a) = false) ∧
    ((st 12).memOk ∧ (st 12).atOp 0 3 (runOf (st 12) 0) (opOf (st 12) 0) ∧ (opOf (st 12) 0).op = 42) :=
  ⟨(by unfold State.memOk State.atOp; decide), (by unfold State.memOk State.atOp; decide), (by unfold State.memOk State.atOp; decide), (by unfold State.memOk State.atOp; decide), (by unfold State.memOk State.atOp; decide), (by unfold State.memOk State.atOp; decide),
    (by unfold State.memOk State.atOp; decide), (by unfold State.memOk State.atOp; decide), (by unfold State.memOk State.atOp; decide), (by unfold State.memOk State.atOp; decide), (by unfold State.memOk State.atOp; decide), (by unfold State.memOk State.atOp; decide),
    (by unfold State.memOk State.atOp; decide), (by unfold State.memOk State.atOp; decide)⟩
end W07b

namespace W07c
def ceRun (r : Run) : Run := { r with started := true, pc := 3 }
def witCe (k g w : Nat) (r : Run) : State :=
  let s := (witSt (pkCe k) .run State.reset).setFld (pkCe k) (CE_GRP_RANGE_END.ix g 8) 9
  let s := putW s (ceBase k + 8 * 3) [w % 2^32, w / 2^32]
  let s := putW s (ceWAddr k g 0) [0x3F800000, 0x40490FDB, 0xC2F00000, 0x7FC12345, 0x7F800000, 0x00000001, 0xBF000000, 0x501502F9, 0x7F812345]
  let s := putW s (cePAddr k 0) [0x3F800000, 0x40000000, 0xC1200000, 0x3DCCCCCD, 0x00800000, 0x80000000]
  let s := (List.range 16).foldl (fun s i => s.setReg (pkCe k) (0x400 + 4 * i) (BitVec.ofNat 32 ([0x3F000000, 0xBF800000, 0x40400000, 0xC0400000, 0x3DCCCCCD, 0x41200000].getD (i % 6) 0))) s
  { s with ce := [(k, { runs := [(g, ceRun r)] })] }
def cmt (r : Run) : State := let s := witCe 4 2 0 {}; { s with ce := [(4, { runs := [(2, { ceRun r with pc := 10 }), (1, {})] })] }
def chk (k : Nat) (f : State → State) : State := let s := f State.reset; { s with ce := [(k, { checking := true })] }
def st : Nat → State
  | 0 => State.reset
  | 1 => witSt (pkCe 1) .run State.reset
  | 2 => cmt {}
  | 3 => chk 1 id
  | 4 => chk 3 (fun s => ((s.setBit (pkCe 3) (CE_GRP_SCHED_EN.ix 1 8) true).setFld (pkCe 3) (CE_GRP_RANGE_START.ix 1 8) 12).setFld (pkCe 3)
    (CE_GRP_RANGE_END.ix 1 8) 11)
  | 5 => { (witSt (pkCe 1) .idle (State.reset)).setFld (pkCe 1) CE_STAT_CHECK 1 with tickOn := true }
  | _ => { (witSt (pkCe 1) .drain (cmt {})) with tickOn := true }

/-- States and operands that meet the hypotheses of EngineRuns, clause by clause. -/
theorem test_meets_EngineRuns :
    (((st 0).st (pkCe 5) = PageSt.off ∨ (st 0).st (pkCe 5) = PageSt.idle)) ∧
    (((st 1).st (pkCe 1) = PageSt.run ∨ (st 1).st (pkCe 1) = PageSt.drain)) ∧
    ((st 3).memOk ∧ ((st 3).eng 1).checking = true ∧ (st 3).enabledGroups 1 = [] ∧ (∀ (i : Nat), i < 32 → (st 3).fld (pkCe 1) (CE_LINK_TYPE.ix i) ≠ 5)
      ∧ (st 3).pairLower 1 = false) ∧
    ((st 4).memOk ∧ ((st 4).eng 3).checking = true ∧ (st 4).enabledGroups 3 = [1] ∧ (st 4).grpEnd 3 1 < (st 4).grpStart 3 1) ∧
    ((st 5).tickOn = true ∧ (st 5).bit (pkCe 0) CE_TICK_CFG_SYNC = false ∧ (st 5).fixedLive ∧ (st 5).st (pkCe 1) = PageSt.idle ∧ (st 5).fld (pkCe 1)
      CE_STAT_CHECK = 1) ∧
    ((st 6).tickOn = true ∧ (st 6).bit (pkCe 0) CE_TICK_CFG_SYNC = false ∧ (st 6).fixedLive ∧ (st 6).st (pkCe 1) = PageSt.drain) ∧
    ((st 2).memOk ∧ (st 2).wg.sending = false ∧ (st 2).busy (pkCe 4) = true ∧ (st 2).activeRun 4 = some (2, runOf (st 2) 4) ∧ (runOf (st 2) 4).started
      = true ∧ (st 2).grpEnd 4 2 < (runOf (st 2) 4).pc ∧ (runOf (st 2) 4).teach = [] ∧ (∀ (x : Nat × Word), x ∈ (runOf (st 2) 4).stP → x.fst < 256) ∧
      (∀ (x : Nat × Word), x ∈ (runOf (st 2) 4).stO → x.fst < 32) ∧ (∀ (x : Nat × Word), x ∈ (runOf (st 2) 4).stR → x.fst < 3) ∧ (List.map (fun x =>
      x.fst) (runOf (st 2) 4).stP).Nodup ∧ (List.map (fun x => x.fst) (runOf (st 2) 4).stO).Nodup ∧ (List.map (fun x => x.fst) (runOf (st 2)
      4).stR).Nodup ∧ (∀ (x : Nat × Word), x ∈ (runOf (st 2) 4).stP → x.fst ≠ 255)) ∧
    ((3072 ≤ 3072 ∧ 3072 < 5120 ∨ 3072 < 3072 ∧ (st 0).st (pkCe 5) ≠ PageSt.off ∧ (st 0).st (pkCe 5) ≠ PageSt.idle)) :=
  ⟨by decide, by decide, (by unfold State.memOk; decide), (by unfold State.memOk; decide), (by unfold State.fixedLive; decide), (by unfold State.fixedLive; decide),
    (by unfold State.memOk; decide), by decide⟩
end W07c

namespace W08
def fastW (code : Nat) (stale clip relief : Bool) : Word := (((fput CS_FAST_CODE 0#32 code) |> (fput CS_FAST_STALE · (b2n stale))) |> (fput CS_FAST_CLIP · (b2n clip))) |> (fput CS_FAST_RELIEF · (b2n relief))
def witLeg (k : Nat) (s : State) : State :=
  let m := k / 3
  (((witSt (pkGl k) .run (witSt (pkGb m) .run (witSt (pkIs k) .run s))).setBit (pkGl k) GL_STAT_EN_SW true).setBit (pkGb m) GB_STAT_EN_SW true).setFld (pkIs k) IS_STAT_SW 2
def witLoop (k : Nat) (p : PageSt) (fast : Word) (l : Loop) : State :=
  let s := witSt (pkHl k) p (witLeg k State.reset)
  let s := (s.setWord (pkCs k) CS_FAST fast)
  { s with loops := [(k, l)] }
def hcW (f : State → State) : State :=
  let s := (List.range 3).foldl (fun s j => { (witSt (pkHl j) .run ((witLeg j s).setWord (pkCs j) CS_FAST (fastW 5 false false false))) with loops := s.loops ++ [(j, { sig := some true, h := 5 })] }) State.reset
  f (witSt (pkHc 0) .run s)
def st : Nat → State
  | 0 => witLoop 4 .run (fastW 5 true false false) { age := 40 }
  | 1 => witLoop 3 .idle (fastW 5 false false false) { h := 77 }
  | 2 => (witLoop 3 .run 0#32 { sig := some true }).setBit (pkGl 3) GL_STAT_EN_SW false
  | 3 => hcW (fun s => (s.setBit (pkHc 0) HC_CFG_ZSWAP true).setFld (pkHc 0) HC_STAT_VEC 7)
  | _ => hcW (fun s => s.setBit (pkHc 0) HC_STAT_SWAP_BUSY true)

/-- States and operands that meet the hypotheses of LoopDecisions, clause by clause. -/
theorem test_meets_LoopDecisions :
    ((st 2).st (pkHl 3) = PageSt.run ∧ (st 2).loopMay 3 = false) ∧
    ((st 1).st (pkHl 3) = PageSt.idle ∧ (st 1).loopMay 3 = true ∧ ((st 1).fastUse 3).snd = false ∧ ((st 1).page (pkHl 3)).swapPending = false) ∧
    ((st 0).st (pkHl 4) = PageSt.run ∧ (st 0).loopMay 4 = true ∧ ((st 0).fastUse 4).snd = true ∧ (st 0).fld (pkHl 4) HL_COAST_LIMIT ≤ ((st 0).loop
      4).age) ∧
    ((st 3).st (pkHc 0) = PageSt.run ∧ (st 3).bit (pkHc 0) HC_CFG_ZSWAP = true ∧ (st 3).fld (pkHc 0) HC_STAT_VEC = 7) ∧
    ((st 4).st (pkHc 0) = PageSt.run ∧ (st 4).bit (pkHc 0) HC_STAT_SWAP_BUSY = true ∧ (∀ (j : Nat), j < 3 → (st 4).st (pkHl (3 * 0 + j)) = PageSt.run
      ∧ (st 4).loopMay (3 * 0 + j) = true ∧ ((st 4).loop (3 * 0 + j)).sig = some true ∧ ((st 4).fastUse (3 * 0 + j)).snd = false)) :=
  ⟨by decide, by decide, by decide, by decide, by decide⟩
end W08

namespace W09
def sw (v : Nat) : State := putW ((witSt (pkSw 2) .run State.reset).setWord (pkSw 2) (SW_TBL_RMSLIM.ix 1 0x40) (BitVec.ofNat 32 v)) (swBin 2 1 0) [0x3F800000, 0x40000000]
def ij (f : State → State) : State := f ((witSt (pkIj 1) .idle State.reset).setFld (pkIj 1) IJ_CFG_WAVE 1)
def cp (st : Nat) (c : Capture) : State := let s := (witSt pkCp .run State.reset).setCapState 2 st; { s with cap := [(2, c)] }
def st : Nat → State
  | 0 => sw 0x3F800000
  | 1 => ij (fun s => s.setWord (pkIj 1) IJ_LIMIT 0x3F800000#32)
  | 2 => ij (fun s => s.setFld (pkIj 1) IJ_CFG_WAVE 0)
  | 3 => ij (fun s => s.setFld (pkIj 1) IJ_STAT_GEN 1)
  | 4 => ij (fun s => s.setFld (pkIj 1) IJ_STAT_GEN 2)
  | 5 => cp 1 { segs := [0, 1] }
  | 6 => cp 2 { segs := [0, 1] }
  | _ => { cp 0 {} with clearing := [3, 4] }

set_option maxRecDepth 40000 in
/-- States and operands that meet the hypotheses of SwellInjectionCapture, clause by clause. -/
theorem test_meets_SwellInjectionCapture :
    ((st 1).st (pkIj 1) = PageSt.idle ∧ (st 1).ijGen 1 = 0 ∧ (st 1).fld (pkIj 1) IJ_CFG_WAVE ≠ 0 ∧ flt f32 0 (BitVec.toNat ((st 1).word (pkIj 1)
      IJ_LIMIT)) = true ∧ decide (BitVec.toNat ((st 1).word (pkCe 0) CE_TICKNO - (st 1).word (pkIj 1) IJ_START_TICK) < 2 ^ 31) = true) ∧
    ((st 2).st (pkIj 1) = PageSt.idle ∧ (st 2).fld (pkIj 1) IJ_CFG_WAVE = 0) ∧
    ((st 3).st (pkIj 1) = PageSt.idle ∧ (st 3).ijGen 1 = 1) ∧
    ((st 4).st (pkIj 1) = PageSt.idle ∧ (st 4).ijGen 1 = 2) ∧
    ((st 0).st pkCp ≠ PageSt.test ∧ (st 0).capState 5 = 0 ∧ 1 ≤ (List.filter (fun g => (st 0).segCode g == 0) (List.range 64)).length) ∧
    ((st 5).st pkCp ≠ PageSt.test ∧ ((st 5).capState 2 ≠ 0 ∨ (List.filter (fun g => (st 5).segCode g == 0) (List.range 64)).length < 1)) ∧
    ((st 5).st pkCp ≠ PageSt.test ∧ ((st 5).capState 2 = 1 ∨ (st 5).capState 2 = 4)) ∧
    ((st 6).st pkCp ≠ PageSt.test ∧ (st 6).capState 2 = 2) ∧
    ((st 5).st pkCp ≠ PageSt.test ∧ (st 5).capState 2 ≠ 0 ∧ (∀ (g : Nat), g ∈ ((st 5).capt 2).segs → g < 64)) ∧
    ((st 7).clearing = [3, 4]) :=
  ⟨by decide, by decide, by decide, by decide, by decide, by decide,
    by decide, by decide, by decide, by decide⟩

/-- Swell table 1 of page 2 with bin 1023 at 1.0 and every other bin at 0, under a limit. -/
def swOne (v : Nat) : State :=
  { (witSt (pkSw 2) .run State.reset).setWord (pkSw 2) (SW_TBL_RMSLIM.ix 1 0x40) (BitVec.ofNat 32 v) with
    mem := [(0x33009FFE, 0x80#8), (0x33009FFF, 0x3F#8)] }

theorem foldl_fixed {f : Nat → Nat → Nat} {z : Nat} (l : List Nat) (h : ∀ b ∈ l, f z b = z) : l.foldl f z = z := by
  induction l with
  | nil => rfl
  | cons a t ih => rw [List.foldl_cons, h a (by simp), ih (fun b hb => h b (by simp [hb]))]

theorem swOne_sum (v : Nat) : (swOne v).swSum 2 1 = 0x3FF0000000000000 := by
  have hz : (fadd f64 0 (fmul f64 (fconv f32 f64 (0#32).toNat).1 (fconv f32 f64 (0#32).toNat).1).1).1 = 0 := by decide
  have hb : ∀ b ∈ List.range 1023, (swOne v).m32 (swBin 2 1 b) = 0#32 := by
    intro b h
    have h := List.mem_range.mp h
    have hm : ∀ i, i < 4 → mget (swOne v).mem (swBin 2 1 b + i) = 0#8 := by
      intro i hi
      have h1 : (0x33009FFE : Nat) ≠ swBin 2 1 b + i := by unfold swBin; omega
      have h2 : (0x33009FFF : Nat) ≠ swBin 2 1 b + i := by unfold swBin; omega
      simp [swOne, mget, h1, h2, memDefault]
    have h0 := hm 0 (by omega)
    have h1 := hm 1 (by omega)
    have h2 := hm 2 (by omega)
    have h3 := hm 3 (by omega)
    simp only [Nat.add_zero] at h0
    simp [State.m32, mgetN, h0, h1, h2, h3, Nat.add_assoc]
  have hl : (swOne v).m32 (swBin 2 1 1023) = 0x3F800000#32 := by simp [State.m32, mgetN, swOne, mget, swBin, memDefault]
  have hs : List.range 1024 = List.range 1023 ++ [1023] := List.range_succ
  unfold State.swSum
  rw [hs, List.foldl_append, List.foldl_cons, List.foldl_nil, foldl_fixed]
  · dsimp only
    rw [hl]
    decide +kernel
  · intro b h
    dsimp only
    rw [hb b h]
    exact hz

set_option maxRecDepth 40000 in
/-- A table within its limit, and one above it, for SwellInjectionCapture. -/
theorem test_meets_SwellInjectionCapture_tables :
    ((swOne 0x3F800000).st (pkSw 2) ≠ PageSt.test ∧ fIsNan f32 (rmsOf ((swOne 0x3F800000).swSum 2 1)) = false ∧
      flt f32 (BitVec.toNat ((swOne 0x3F800000).word (pkSw 2) (SW_TBL_RMSLIM.ix 1 64))) (rmsOf ((swOne 0x3F800000).swSum 2 1)) = false) ∧
    ((swOne 0x3B800000).st (pkSw 2) ≠ PageSt.test ∧
      flt f32 (BitVec.toNat ((swOne 0x3B800000).word (pkSw 2) (SW_TBL_RMSLIM.ix 1 64))) (rmsOf ((swOne 0x3B800000).swSum 2 1)) = true) := by
  have hw : ∀ v : Nat, (swOne v).word (pkSw 2) (SW_TBL_RMSLIM.ix 1 64) = BitVec.ofNat 32 v := fun _ => rfl
  have hp : ∀ v : Nat, (swOne v).st (pkSw 2) = PageSt.run := fun _ => rfl
  rw [hw, hw, hp, hp, swOne_sum, swOne_sum]
  decide +kernel
end W09

namespace W10
def leg (k out : Nat) (l : Leg) : State :=
  let s := (((witSt (pkGl k) .run (witSt (pkGb (k / 3)) .run State.reset)).setBit (pkGl k) GL_STAT_EN_SW true).setBit (pkGb (k / 3)) GB_STAT_EN_SW true).setFld (pkGl k) GL_STAT_OUT out
  { s with legs := [(k, l)], cyc := 1000 }
def det (high : Bool) : Leg := let w := (fput (if high then GL_DIDT_HS_EN else GL_DIDT_LS_EN) 0#32 1, fput GL_VDS_EN 0#32 1, 0#32); if high then { cfgH := w } else { cfgL := w }
def isw (x : Nat) (permit auto : Bool) : State := (((witSt (pkIs 4) (if x = 0 then .idle else .run) State.reset).setFld (pkIs 4) IS_STAT_SW x).setBit (pkIs 4) IS_STAT_PERMIT permit).setBit (pkIs 4) IS_CFG_AUTO auto
def keyed (s : State) : State := s.modPage (pkIs 4) (fun p => { p with key := .opened .host })
def st : Nat → State
  | 0 => leg 4 0 {}
  | 1 => leg 4 0 { tHoff := some 15990, tLoff := some 15900 }
  | 2 => leg 4 0 { acts := [⟨500, false, false⟩, ⟨600, true, true⟩] }
  | 3 => leg 4 0 { latch := .latch }
  | 4 => leg 4 0 { latch := .waitEdge }
  | 5 => leg 4 0 { word := some 0x1000#16, crossRun := 49 }
  | 6 => leg 4 1 {}
  | 7 => leg 4 2 {}
  | 8 => leg 4 2 (det true)
  | 9 => (leg 4 2 {}).setBit (pkGb 1) GB_STAT_CUT true
  | 10 => leg 4 2 { acts := [⟨9, true, false⟩, ⟨12, false, true⟩] }
  | 11 => witSt (pkGb 2) .idle State.reset
  | 12 => (witSt (pkGl 7) .idle ((witSt (pkGb 2) .idle State.reset).setBit (pkGl 7) GL_STAT_LEAK_BUSY true))
  | 13 => witSt (pkGb 2) .run ((State.reset.setBit (pkGb 2) GB_STAT_EN_SW true).setFld (pkIs 7) IS_STAT_SW 2)
  | 14 => (witSt (pkGb 2) .idle State.reset).setBit (pkGb 2) GB_STAT_EN_SW true
  | 15 => seaOn ((witSt (pkGl 7) .idle ((witSt (pkGb 2) .idle State.reset).setBit (pkGl 7) GL_STAT_LEAK_BUSY true)))
  | 16 => keyed (isw 0 true false)
  | 17 => keyed (isw 0 false false)
  | 18 => isw 1 true false
  | 19 => isw 3 true false
  | 20 => isw 4 true false
  | _ => seaOn (isw 0 false true)

/-- States and operands that meet the hypotheses of BridgeSupplies, clause by clause. -/
theorem test_meets_BridgeSupplies :
    ((st 15).enable 2 = true ∧ (st 15).st (pkGb 2) = PageSt.idle ∧ (st 15).bit (pkGb 2) GB_STAT_VGD_UV = false ∧ (st 15).st (pkGl (3 * 2 + 1)) =
      PageSt.idle) ∧
    ((st 15).enable 2 = true ∧ (st 15).st (pkGb 2) = PageSt.idle ∧ (st 15).bit (pkGb 2) GB_STAT_VGD_UV = false ∧ (st 15).bit (pkGl (3 * 2 + 1))
      GL_STAT_LEAK_BUSY = true) ∧
    ((st 13).enable 2 = false ∧ (st 13).bit (pkGb 2) GB_STAT_EN_SW = true ∧ (st 13).bit (pkGb 2) GB_STAT_CUT = false ∧ ((st 13).sw (3 * 2 + 1) = 1 ∨
      (st 13).sw (3 * 2 + 1) = 2 ∨ (st 13).sw (3 * 2 + 1) = 3)) ∧
    ((st 0).running (pkGb 1) = true) ∧
    ((st 0).running (pkGb 5) = false) ∧
    ((st 14).st (pkGb 2) = PageSt.idle ∧ (st 14).bit (pkGb 2) GB_STAT_EN_SW = true) ∧
    ((st 11).st (pkGb 2) = PageSt.idle ∧ (st 11).bit (pkGb 2) GB_STAT_EN_SW = false) ∧
    ((st 0).running (pkGl 4) = true) ∧
    ((true = false ∨ (st 0).running (pkGl 17) = false)) ∧
    ((st 7).running (pkGl 4) = true ∧ (st 7).fld (pkGl 4) GL_STAT_OUT = 2 ∧ ((st 7).leg 4).latch = Latch.none ∧ ((st 7).leg 4).acts = [] ∧ fget
      GL_BOOT_KEEP_EN ((st 7).leg 4).cfgH.snd.snd = 0) :=
  ⟨by decide, by decide, by decide, by decide, by decide, by decide,
    by decide, by decide, by decide, by decide⟩

/-- States and operands that meet the hypotheses of GateProtection, clause by clause. -/
theorem test_meets_GateProtection :
    ((st 8).switchOn 4 true = true ∧ (true = true → fget (if true = true then GL_DIDT_HS_EN else GL_DIDT_LS_EN) ((st 8).switchCfg 4 true).fst = 1) ∧
      (true = false → fget GL_VDS_EN ((st 8).switchCfg 4 true).snd.fst = 1)) ∧
    ((st 0).switchOn 17 true = false) ∧
    (17 < 18) ∧
    (((st 3).leg 4).latch = Latch.latch) ∧
    ((st 4).legLive 4 = true ∧ ((st 4).leg 4).latch = Latch.waitEdge ∧ (st 4).fld (pkGl 4) GL_STAT_OUT = 0 ∧ ((st 4).leg 4).acts = [] ∧ wordCmd
      34816#16 ≠ 3 ∧ wordEdge 34816#16 = true ∧ wordCmd 34816#16 ≠ 0) ∧
    ((st 4).legLive 4 = true ∧ ((st 4).leg 4).latch = Latch.waitEdge ∧ (st 4).fld (pkGl 4) GL_STAT_OUT = 0 ∧ ((st 4).leg 4).acts = [] ∧ wordCmd
      4096#16 ≠ 3 ∧ (wordEdge 4096#16 = false ∨ wordCmd 4096#16 = 0)) ∧
    ((st 0).bit (pkGb (bridgeOf 17)) GB_STAT_CUT = false ∧ (st 0).bit (pkGl 17) GL_STAT_LEAK_BUSY = false) ∧
    (((st 9).bit (pkGb (bridgeOf 5)) GB_STAT_CUT = true ∨ (st 9).bit (pkGl 5) GL_STAT_LEAK_BUSY = true)) ∧
    ((st 0).st (pkGl 4) ≠ PageSt.test ∧ (st 0).busy (pkGl 4) = true) ∧
    ((st 0).st (pkGl 17) ≠ PageSt.test ∧ (st 0).busy (pkGl 17) = false ∧ bitN (1#32).toNat 0 = true) ∧
    ((st 12).bit (pkGl 7) GL_STAT_LEAK_BUSY = true ∧ (st 12).bit (pkGl 7) GL_LEAK_HS_BST_LOW = false ∧ (false = true ∨ (st 12).fld (pkGl 7)
      GL_LEAK_LIM < 1023 ∨ false = true)) ∧
    ((st 12).bit (pkGl 7) GL_STAT_LEAK_BUSY = true ∧ (st 12).bit (pkGl 7) GL_LEAK_HS_BST_LOW = false ∧ 0 ≤ (st 12).fld (pkGl 7) GL_LEAK_LIM ∧ 0 ≤
      (st 12).fld (pkGl 7) GL_LEAK_LIM) :=
  ⟨by decide, by decide, by decide, by decide, by decide, by decide,
    by decide, by decide, by decide, by decide, by decide, by decide⟩

set_option maxRecDepth 40000 in
/-- States and operands that meet the hypotheses of GateWords, clause by clause. -/
theorem test_meets_GateWords :
    ((st 0).legLive 4 = true ∧ ((st 0).leg 4).latch = Latch.none ∧ (st 0).bit (pkGl 4) GL_STAT_REFRESH = false ∧ ((st 0).leg 4).acts = [] ∧
      ((st 0).leg 4).word ≠ some 32768#16 ∧ wordCmd 32768#16 ≠ 3 ∧ wordCmd 32768#16 = (st 0).fld (pkGl 4) GL_STAT_OUT) ∧
    ((st 7).legLive 4 = true ∧ ((st 7).leg 4).latch = Latch.none ∧ (st 7).bit (pkGl 4) GL_STAT_REFRESH = false ∧ ((st 7).leg 4).acts = [] ∧ (st 7).fld
      (pkGl 4) GL_STAT_OUT = 2 ∧ ((st 7).leg 4).word ≠ some 34816#16 ∧ wordCmd 34816#16 ≠ 3 ∧ wordCmd 34816#16 = 1) ∧
    ((st 6).legLive 4 = true ∧ ((st 6).leg 4).latch = Latch.none ∧ (st 6).bit (pkGl 4) GL_STAT_REFRESH = false ∧ ((st 6).leg 4).acts = [] ∧ (st 6).fld
      (pkGl 4) GL_STAT_OUT = 1 ∧ ((st 6).leg 4).word ≠ some 36864#16 ∧ wordCmd 36864#16 ≠ 3 ∧ wordCmd 36864#16 = 2) ∧
    ((st 7).legLive 4 = true ∧ ((st 7).leg 4).latch = Latch.none ∧ (st 7).bit (pkGl 4) GL_STAT_REFRESH = false ∧ ((st 7).leg 4).acts = [] ∧ (st 7).fld
      (pkGl 4) GL_STAT_OUT = 2 ∧ ((st 7).leg 4).word ≠ some 32768#16 ∧ wordCmd 32768#16 ≠ 3 ∧ wordCmd 32768#16 = 0) ∧
    ((st 6).legLive 4 = true ∧ ((st 6).leg 4).latch = Latch.none ∧ (st 6).bit (pkGl 4) GL_STAT_REFRESH = false ∧ ((st 6).leg 4).acts = [] ∧ (st 6).fld
      (pkGl 4) GL_STAT_OUT = 1 ∧ ((st 6).leg 4).word ≠ some 32768#16 ∧ wordCmd 32768#16 ≠ 3 ∧ wordCmd 32768#16 = 0) ∧
    ((st 0).legLive 4 = true ∧ ((st 0).leg 4).latch = Latch.none ∧ (st 0).bit (pkGl 4) GL_STAT_REFRESH = false ∧ ((st 0).leg 4).acts = [] ∧ (st 0).fld
      (pkGl 4) GL_STAT_OUT = 0 ∧ ((st 0).leg 4).word ≠ some 34816#16 ∧ wordCmd 34816#16 ≠ 3 ∧ wordCmd 34816#16 = 1) ∧
    ((st 0).legLive 4 = true ∧ ((st 0).leg 4).latch = Latch.none ∧ (st 0).bit (pkGl 4) GL_STAT_REFRESH = false ∧ ((st 0).leg 4).acts = [] ∧ (st 0).fld
      (pkGl 4) GL_STAT_OUT = 0 ∧ ((st 0).leg 4).word ≠ some 36864#16 ∧ wordCmd 36864#16 ≠ 3 ∧ wordCmd 36864#16 = 2) ∧
    ((st 6).legLive 4 = true ∧ ((st 6).leg 4).latch = Latch.none ∧ (st 6).bit (pkGl 4) GL_STAT_REFRESH = false ∧ ((st 6).leg 4).word ≠ some 36864#16 ∧
      wordCmd 36864#16 ≠ 3 ∧ { time := 16640, high := true, on := true } ∈ ((nxt (Instr.commandWord 4 36864#16) (st 6)).leg 4).acts ∧ (st 6).fld (pkGl
      4) GL_STAT_OUT = if true = true then 1 else 2) ∧
    ((st 1).legLive 4 = true ∧ ((st 1).leg 4).latch = Latch.none ∧ (st 1).bit (pkGl 4) GL_STAT_REFRESH = false ∧ (st 1).fld (pkGl 4) GL_STAT_OUT = 0 ∧
      ((st 1).leg 4).word ≠ some 34816#16 ∧ wordCmd 34816#16 ≠ 3 ∧ { time := 16630, high := false, on := true } ∈ ((nxt (Instr.commandWord 4 34816#16)
      (st 1)).leg 4).acts ∧ (if false = true then ((st 1).leg 4).tLoff else ((st 1).leg 4).tHoff) = some 15990) ∧
    (((st 10).leg 4).acts = [{ time := 9, high := true, on := false }, { time := 12, high := false, on := true }]) ∧
    (((st 2).leg 4).acts = [{ time := 500, high := false, on := false }, { time := 600, high := true, on := true }]) ∧
    ((st 7).legLive 4 = true ∧ ((st 7).leg 4).latch ≠ Latch.latch ∧ (st 7).fld (pkGl 4) GL_STAT_OUT = 2 ∧ wordCmd 6144#16 = 3) ∧
    ((st 6).legLive 4 = true ∧ ((st 6).leg 4).latch ≠ Latch.latch ∧ (st 6).fld (pkGl 4) GL_STAT_OUT = 1 ∧ wordCmd 6144#16 = 3) ∧
    ((st 0).legLive 4 = true ∧ ((st 0).leg 4).latch ≠ Latch.latch ∧ ((st 0).leg 4).crossRun = 0 ∧ wordCmd 6144#16 = 3) ∧
    ((st 5).legLive 4 = true ∧ ((st 5).leg 4).latch ≠ Latch.latch ∧ ((st 5).leg 4).crossRun = 49 ∧ wordCmd 6144#16 = 3) ∧
    ((st 9).busy (pkGl 4) = true ∧ (st 9).bit (pkGb (bridgeOf 4)) GB_STAT_CUT = true) :=
  ⟨by decide, by decide, by decide, by decide, by decide, by decide,
    by decide, by decide, by decide, by decide, by decide, by decide,
    by decide, by decide, by decide, by decide⟩

/-- States and operands that meet the hypotheses of IsolationSwitches, clause by clause. -/
theorem test_meets_IsolationSwitches :
    ((st 16).sw 4 = 0 ∧ (st 16).st (pkIs 4) = PageSt.idle ∧ (st 16).bit (pkIs 4) IS_STAT_PERMIT = true ∧ (st 16).keyOk (pkIs 4) Initiator.host = true) ∧
    ((st 17).sw 4 = 0 ∧ (st 17).st (pkIs 4) = PageSt.idle ∧ (st 17).bit (pkIs 4) IS_STAT_PERMIT = false ∧ (st 17).keyOk (pkIs 4) Initiator.host =
      true) ∧
    ((st 0).st (pkIs 17) ≠ PageSt.test ∧ (st 0).keyOk (pkIs 17) (Initiator.ac 0) = false) ∧
    ((st 21).enable (bridgeOf 4) = true ∧ (st 21).bit (pkIs 4) IS_STAT_PERMIT = false ∧ (st 21).sw 4 = 0 ∧ (st 21).st (pkIs 4) = PageSt.idle) ∧
    ((st 18).sw 4 = 1) ∧
    ((st 19).sw 4 = 3) ∧
    ((st 20).sw 4 = 4 ∧ (st 20).st (pkIs 4) = PageSt.run) :=
  ⟨by decide, by decide, by decide, by decide, by decide, by decide,
    by decide⟩
end W10

namespace W11a
/-- Core `chk` of pair k with the word w to issue next. -/
def cvAt (k : Nat) (chk : Bool) (w : Nat) (c : CvCore) : State :=
  let s := witSt (pkCv k) .run State.reset
  let s := { s with cv := [(k, if chk then { main := { retired := 4 }, chk := c } else { main := c })] }
  let m := (s.setM32 (cvPAddr k c.pc) (BitVec.ofNat 32 w)).mem
  if chk then { s with ckMem := m } else { s with mem := m }
def cvR (a b : Nat) : CvCore := { rf := [(0, a), (1, b)] }
def st : Nat → State
  | 0 => cvAt 0 true 0x80000000 (cvR 0 0)
  | 1 => cvAt 0 false 0x80400000 (cvR 0 0)
  | 2 => cvAt 3 true 0x80600000 (cvR 0 0)
  | 3 => cvAt 0 true 0x81800000 (cvR 0 0)
  | 4 => cvAt 3 true 0x81A00000 (cvR 0 0)
  | 5 => cvAt 0 false 0x81C00000 (cvR 0 0)
  | 6 => cvAt 0 true 0x82000000 (cvR 0 0)
  | 7 => cvAt 0 true 0x83000000 (cvR 0 0)
  | 8 => cvAt 3 true 0x83200000 (cvR 0 0)
  | 9 => cvAt 0 false 0x83400000 (cvR 0 0)
  | 10 => cvAt 0 true 0x83800000 (cvR 0 0)
  | 11 => cvAt 3 true 0x88000003 (cvR 0 0)
  | 12 => cvAt 0 false 0x89000003 (cvR 0 0)
  | 13 => cvAt 3 true 0x8A000003 (cvR 0 0)
  | 14 => cvAt 0 true 0x8B000003 (cvR 0 0)
  | _ => cvAt 3 true 0xA8000000 (cvR 0 0)

/-- States and operands that meet the hypotheses of CoveIntegers, clause by clause. -/
theorem test_meets_CoveIntegers :
    ((st 0).cvNext 0 true 64 2147483648) ∧
    ((st 1).cvNext 0 false 66 ((st 1).cvWord 0 false)) ∧
    ((st 2).cvNext 3 true 67 2153775104) ∧
    ((st 13).cvNext 3 true 130 ((st 13).cvWord 3 true)) ∧
    ((st 14).cvNext 0 true 131 ((st 14).cvWord 0 true)) ∧
    ((st 11).cvNext 3 true 128 ((st 11).cvWord 3 true)) ∧
    ((st 12).cvNext 0 false 129 ((st 12).cvWord 0 false)) :=
  ⟨(by unfold State.cvNext; decide), (by unfold State.cvNext; decide), (by unfold State.cvNext; decide), (by unfold State.cvNext; decide), (by unfold State.cvNext; decide), (by unfold State.cvNext; decide),
    (by unfold State.cvNext; decide)⟩

/-- States and operands that meet the hypotheses of CoveShifts, clause by clause. -/
theorem test_meets_CoveShifts :
    ((st 3).cvNext 0 true (if false = true then 132 else 76) 2172649472) ∧
    ((st 4).cvNext 3 true (if false = true then 133 else 77) 2174746624) ∧
    ((st 5).cvNext 0 false (if false = true then 134 else 78) 2176843776) :=
  ⟨(by unfold State.cvNext; decide), (by unfold State.cvNext; decide), (by unfold State.cvNext; decide)⟩

/-- States and operands that meet the hypotheses of CoveFloats, clause by clause. -/
theorem test_meets_CoveFloats :
    ((st 6).cvNext 0 true 80 2181038080) ∧
    ((st 9).cvNext 0 false 90 ((st 9).cvWord 0 false)) ∧
    ((st 7).cvNext 0 true 88 ((st 7).cvWord 0 true)) ∧
    ((st 8).cvNext 3 true 89 ((st 8).cvWord 3 true)) ∧
    ((st 10).cvNext 0 true 92 2206203904) :=
  ⟨(by unfold State.cvNext; decide), (by unfold State.cvNext; decide), (by unfold State.cvNext; decide), (by unfold State.cvNext; decide), (by unfold State.cvNext; decide)⟩

/-- States and operands that meet the hypotheses of CoveAccumulatorShift, clause by clause. -/
theorem test_meets_CoveAccumulatorShift :
    ((st 15).cvNext 3 true 163 ((st 15).cvWord 3 true)) :=
  by unfold State.cvNext; decide
end W11a

namespace W11d
/-- Core `chk` of pair k with the word w to issue next. -/
def cvAt (k : Nat) (chk : Bool) (w : Nat) (c : CvCore) : State :=
  let s := witSt (pkCv k) .run State.reset
  let s := { s with cv := [(k, if chk then { main := { retired := 4 }, chk := c } else { main := c })] }
  let m := (s.setM32 (cvPAddr k c.pc) (BitVec.ofNat 32 w)).mem
  if chk then { s with ckMem := m } else { s with mem := m }
def cvR (a b : Nat) : CvCore := { rf := [(0, a), (1, b)] }
def cvD (k : Nat) (chk : Bool) (act : CvAct) (rep : Nat) : State := let s := witSt (pkCv k) .run State.reset
  let c : CvCore := { delay := some ⟨1, 0x77, act⟩, rep := rep, rf := [(cvSR, 0x0010)], bank := act != .jump }
  { s with cv := [(k, if chk then { main := { retired := 4 }, chk := c } else { main := c })] }
def ill (k : Nat) (chk : Bool) (exc : Bool) : State := 
  let s := witSt (pkCv k) .run State.reset
  let s := { s with cv := [(k, { main := { retired := 4, exc := if exc then some (1, 9) else none }, chk := { retired := 4 } })] }
  let m := (s.setM32 (cvPAddr k 0) 0x80000FFF#32).mem
  if chk then { s with ckMem := m } else { s with mem := m }
def st : Nat → State
  | 0 => cvAt 0 false 0x90400055 (cvR 0 0)
  | 1 => cvAt 3 true 0x91400055 (cvR 0 0)
  | 2 => cvAt 0 true 0x92400055 (cvR 0 0)
  | 3 => cvAt 3 false 0x93400055 (cvR 0 0)
  | 4 => cvAt 0 true 0x98000000 (cvR 0 0)
  | 5 => cvAt 3 true 0xA0000010 (cvR 0 0)
  | 6 => cvAt 0 false 0xA2000010 (cvR 0 0)
  | 7 => cvAt 0 true 0xB0000020 (cvR 0 0)
  | 8 => cvAt 3 false 0xB1000020 (cvR 0 0)
  | 9 => cvAt 0 true 0xB2000000 (cvR 0 0)
  | 10 => cvAt 3 true 0xB3000000 (cvR 0 0)
  | 11 => cvAt 0 false 0xB4000000 (cvR 0 0)
  | 12 => cvAt 3 true 0xB8000002 (cvR 0 0)
  | 13 => cvAt 0 true 0xC0100000 (cvR 0 0)
  | 14 => cvAt 3 false 0xC0118000 (cvR 0 0)
  | 15 => cvAt 3 true 0x98680000 (cvR 0x12345 0)
  | 16 => cvAt 3 true 0x9A018000 (cvR 0x12345 0)
  | 17 => cvAt 3 true 0x9C010000 (cvR 0x12345 0)
  | 18 => cvAt 3 true 0x9A088000 (cvR 0x12345 0)
  | 19 => cvAt 3 true 0x9B010000 (cvR 0x12345 0)
  | 20 => ill 1 true true
  | _ => ill 1 false false

set_option maxRecDepth 40000 in
/-- States and operands that meet the hypotheses of CoveMovesAndFlow, clause by clause. -/
theorem test_meets_CoveMovesAndFlow :
    ((st 0).cvNext 0 false 144 ((st 0).cvWord 0 false)) ∧
    (((st 1).cvCore 3 true).land = [] ∧ (st 1).cvNext 3 true 145 ((st 1).cvWord 3 true)) ∧
    (((st 2).cvCore 0 true).land = [] ∧ (st 2).cvNext 0 true 146 ((st 2).cvWord 0 true)) ∧
    (((st 3).cvCore 3 false).land = [] ∧ (st 3).cvNext 3 false 147 ((st 3).cvWord 3 false)) ∧
    ((st 4).cvNext 0 true 160 ((st 4).cvWord 0 true) ∧ bitsN ((st 4).cvWord 0 true) 26 21 < 16 ∧ bitsN ((st 4).cvWord 0 true) 20 15 < 16) ∧
    ((st 15).cvNext 3 true 160 ((st 15).cvWord 3 true) ∧ bitsN ((st 15).cvWord 3 true) 26 21 < 16 ∧ cvAC ≤ bitsN ((st 15).cvWord 3 true) 20 15 ∧ bitsN
      ((st 15).cvWord 3 true) 20 15 < cvA) ∧
    ((st 16).cvNext 3 true 160 ((st 16).cvWord 3 true) ∧ cvAC ≤ bitsN ((st 16).cvWord 3 true) 26 21 ∧ bitsN ((st 16).cvWord 3 true) 26 21 < cvA ∧
      bitsN ((st 16).cvWord 3 true) 20 15 < 16) ∧
    ((st 18).cvNext 3 true 160 ((st 18).cvWord 3 true) ∧ cvAC ≤ bitsN ((st 18).cvWord 3 true) 26 21 ∧ bitsN ((st 18).cvWord 3 true) 26 21 < cvA ∧ cvAC
      ≤ bitsN ((st 18).cvWord 3 true) 20 15 ∧ bitsN ((st 18).cvWord 3 true) 20 15 < cvA) ∧
    ((st 19).cvNext 3 true 160 ((st 19).cvWord 3 true) ∧ cvA ≤ bitsN ((st 19).cvWord 3 true) 26 21 ∧ bitsN ((st 19).cvWord 3 true) 26 21 < cvM ∧ bitsN
      ((st 19).cvWord 3 true) 20 15 < 16) ∧
    ((st 17).cvNext 3 true 160 ((st 17).cvWord 3 true) ∧ cvM ≤ bitsN ((st 17).cvWord 3 true) 26 21 ∧ bitsN ((st 17).cvWord 3 true) 26 21 < cvSR ∧
      bitsN ((st 17).cvWord 3 true) 20 15 < 16) ∧
    ((st 5).cvNext 3 true 161 ((st 5).cvWord 3 true) ∧ bitsN ((st 5).cvWord 3 true) 15 0 < 32768) ∧
    ((st 6).memOk ∧ (st 6).cvNext 0 false 162 ((st 6).cvWord 0 false) ∧ bitsN ((st 6).cvWord 0 false) 15 0 < 32768 ∧ (0 < cvAddr 0 (bitN
      ((st 6).cvWord 0 false) 26) (bitsN ((st 6).cvWord 0 false) 15 0) ∨ cvAddr 0 (bitN ((st 6).cvWord 0 false) 26) (bitsN ((st 6).cvWord 0 false) 15
      0) + 4 ≤ 0)) ∧
    ((st 7).cvNext 0 true 176 ((st 7).cvWord 0 true)) ∧
    ((st 8).cvNext 3 false 177 ((st 8).cvWord 3 false)) ∧
    ((st 9).cvNext 0 true 178 ((st 9).cvWord 0 true)) ∧
    ((st 10).cvNext 3 true 179 ((st 10).cvWord 3 true)) ∧
    ((st 11).cvNext 0 false 180 ((st 11).cvWord 0 false)) ∧
    ((st 12).cvNext 3 true 184 ((st 12).cvWord 3 true)) ∧
    ((st 13).memOk ∧ (st 13).cvNext 0 true 185 ((st 13).cvWord 0 true) ∧ ((st 13).cvCore 0 true).get (cvA + bitsN ((st 13).cvWord 0 true) 22 20) <
      32768 ∧ ((st 13).cvCore 0 true).get (cvA + bitsN ((st 13).cvWord 0 true) 19 17) < 32768 ∧ cvUpdate (((st 13).cvCore 0 true).get (cvA + bitsN
      ((st 13).cvWord 0 true) 22 20)) (((st 13).cvCore 0 true).get (cvBase + bitsN ((st 13).cvWord 0 true) 22 20)) (((st 13).cvCore 0 true).get (cvM +
      bitsN ((st 13).cvWord 0 true) 22 20)) 1 < 32768 ∧ (0 < cvXAddr 0 (cvUpdate (((st 13).cvCore 0 true).get (cvA + bitsN ((st 13).cvWord 0 true) 22
      20)) (((st 13).cvCore 0 true).get (cvBase + bitsN ((st 13).cvWord 0 true) 22 20)) (((st 13).cvCore 0 true).get (cvM + bitsN ((st 13).cvWord 0
      true) 22 20)) 1) ∨ cvXAddr 0 (cvUpdate (((st 13).cvCore 0 true).get (cvA + bitsN ((st 13).cvWord 0 true) 22 20)) (((st 13).cvCore 0 true).get
      (cvBase + bitsN ((st 13).cvWord 0 true) 22 20)) (((st 13).cvCore 0 true).get (cvM + bitsN ((st 13).cvWord 0 true) 22 20)) 1) + 4 ≤ 0)) ∧
    ((st 13).memOk ∧ ((st 13).cvCore 0 true).land = [] ∧ (st 13).cvNext 0 true 185 ((st 13).cvWord 0 true) ∧ ((st 13).cvCore 0 true).get (cvA + bitsN
      ((st 13).cvWord 0 true) 22 20) < 32768 ∧ ((st 13).cvCore 0 true).get (cvA + bitsN ((st 13).cvWord 0 true) 19 17) < 32768 ∧ cvUpdate
      (((st 13).cvCore 0 true).get (cvA + bitsN ((st 13).cvWord 0 true) 22 20)) (((st 13).cvCore 0 true).get (cvBase + bitsN ((st 13).cvWord 0 true)
      22 20)) (((st 13).cvCore 0 true).get (cvM + bitsN ((st 13).cvWord 0 true) 22 20)) 1 < 32768 ∧ bitsN ((st 13).cvWord 0 true) 16 15 = 0) ∧
    ((st 14).memOk ∧ ((st 14).cvCore 3 false).land = [] ∧ (st 14).cvNext 3 false 185 ((st 14).cvWord 3 false) ∧ ((st 14).cvCore 3 false).get (cvA +
      bitsN ((st 14).cvWord 3 false) 22 20) < 32768 ∧ ((st 14).cvCore 3 false).get (cvA + bitsN ((st 14).cvWord 3 false) 19 17) < 32768 ∧ cvUpdate
      (((st 14).cvCore 3 false).get (cvA + bitsN ((st 14).cvWord 3 false) 22 20)) (((st 14).cvCore 3 false).get (cvBase + bitsN ((st 14).cvWord 3
      false) 22 20)) (((st 14).cvCore 3 false).get (cvM + bitsN ((st 14).cvWord 3 false) 22 20)) 1 < 32768 ∧ bitsN ((st 14).cvWord 3 false) 16 15 = 3) ∧
    ((st 21).cvReady 1 false = true ∧ cvLegal ((st 21).cvWord 1 false) = false) ∧
    ((st 20).cvReady 1 true = true ∧ cvLegal ((st 20).cvWord 1 true) = false ∧ ((st 20).cvCore 1 true).retired = ((st 20).cove 1).main.retired ∧
      ((st 20).cove 1).main.exc = some (1, 9)) :=
  ⟨(by unfold State.cvNext; decide), (by unfold State.cvNext; decide), (by unfold State.cvNext; decide), (by unfold State.cvNext; decide), (by unfold State.cvNext; decide), (by unfold State.cvNext; decide),
    (by unfold State.cvNext; decide), (by unfold State.cvNext; decide), (by unfold State.cvNext; decide), (by unfold State.cvNext; decide), (by unfold State.cvNext; decide), (by unfold State.memOk State.cvNext; decide),
    (by unfold State.cvNext; decide), (by unfold State.cvNext; decide), (by unfold State.cvNext; decide), (by unfold State.cvNext; decide), (by unfold State.cvNext; decide), (by unfold State.cvNext; decide),
    (by unfold State.memOk State.cvNext; decide), (by unfold State.memOk State.cvNext; decide), (by unfold State.memOk State.cvNext; decide), by decide, by decide⟩

/-- The state with the pending jump, call or return of a core taken away. -/
def undelayed (s : State) (k : Nat) (chk : Bool) : State :=
  { s with cv := tput s.cv k (if chk then { s.cove k with chk := { s.cvCore k chk with delay := none } }
    else { s.cove k with main := { s.cvCore k chk with delay := none } }) }

set_option maxRecDepth 40000 in
/-- A core in the last delay slot of each kind of transfer, on the main core and on the checker, for CoveMovesAndFlow. -/
theorem test_meets_CoveMovesAndFlow_delayed :
    ∀ act ∈ [CvAct.none, .jump, .call 0x12345, .reti 0x7FFF, .retf 0xFFFF], ∀ chk ∈ [false, true],
      ((cvD 1 chk act 0).cvCore 1 chk).delay = some ⟨1, 0x77, act⟩ ∧ ((cvD 1 chk act 0).cvCore 1 chk).land = [] ∧
      ((cvD 1 chk act 0).cvCore 1 chk).rep ≤ 1 ∧ (undelayed (cvD 1 chk act 0) 1 chk).cvNext 1 chk 0 0 := by
  unfold State.cvNext
  decide

/-- A parallel word: both moves load, both store, or there is none; the address registers are A1 and A2. -/
def parWord (pop op : Nat) : Nat :=
  pop * 2^27 + (if pop = 0 then 0 else 2^24) + (if op = 0 then 0 else (op * 2^7 + 0x1A) * 2^9 + (op * 2^7 + 0x23))
def parAt (pop op : Nat) : State := cvAt 3 false (parWord pop op) { rf := [(0, 5), (1, 7), (cvA + 1, 0x123), (cvA + 2, 0x7FFF)] }

set_option maxRecDepth 40000 in
/-- Every POP with no move, with loads and with stores, for CoveParallel. -/
theorem test_meets_CoveParallel : ∀ pop ∈ List.range 16, ∀ op ∈ List.range 3,
    (parAt pop op).memOk ∧ (parAt pop op).cvNext 3 false pop (parWord pop op) ∧ (cvX (parWord pop op)).op = op ∧ (cvY (parWord pop op)).op = op ∧
    ((parAt pop op).cvCore 3 false).get (cvA + (cvX (parWord pop op)).a) < 0x8000 ∧
    ((parAt pop op).cvCore 3 false).get (cvA + (cvY (parWord pop op)).a) < 0x8000 := by
  unfold State.memOk State.cvNext
  decide
end W11d

namespace W11e
def pr (p : PageSt) (v : Cove) : State := { witSt (pkCv 1) p State.reset with cv := [(1, v)] }
def irq (s : State) : State := ((s.setWord (pkCv 1) CV_IRQ_EN 0xFFF#32).setFld (pkCv 1) CV_CFG_FIQ_SRC 2)
def st : Nat → State
  | 0 => pr .idle { main := { retired := 5, rf := [(3, 7)] } }
  | 1 => pr .run {}
  | 2 => pr .drain { main := { win := 7 } }
  | 3 => pr .drain { main := { win := 7, rep := 2 } }
  | 4 => pr .run { main := { win := 5000, retired := 70000 } }
  | 5 => pr .run { timerLoad := 5#32 }
  | 6 => pr .run { hold := [(0x8040, 7#32)], main := {} }
  | 7 => pr .run { hold := [(0x8052, 2#32)], farAddr := 0x30000000#32 }
  | 8 => pr .run { hold := [(0x8052, 1#32)], farAddr := 0x30000000#32, far := some (true, 0#32, 0#32) }
  | 9 => pr .run { far := some (false, 0x30000000#32, 0#32) }
  | 10 => pr .run { far := some (false, 0x00000004#32, 0#32) }
  | 11 => pr .run { sigs := [(3, 5#32)], ckSigs := [(3, 5#32)] }
  | 12 => pr .run { sigs := [(3, 5#32)], ckSigs := [(3, 6#32)] }
  | 13 => pr .run { sigs := [(3, 5#32)], ckSigs := [(3, 5#32)], main := { halted := true } }
  | 14 => (pr .fault { copying := true }).modPage (pkCv 1) (fun p => { p with en := true })
  | _ => irq (pr .run { iflag := 0x3FF#32, main := { rf := [(cvSR, 0x31F)] } })

/-- States and operands that meet the hypotheses of CovePairs, clause by clause. -/
theorem test_meets_CovePairs :
    ((st 0).st (pkCv 1) = PageSt.idle) ∧
    ((st 0).st (pkCv 3) ≠ PageSt.idle) ∧
    ((st 0).st (pkCv 3) ≠ PageSt.test) ∧
    ((st 1).busy (pkCv 1) = true ∧ ((st 1).cove 1).main.closeNow = false ∧ ((st 1).cove 1).closeReq = false) ∧
    ((st 5).busy (pkCv 1) = true ∧ ((st 5).cove 1).timerLoad ≠ 0#32) ∧
    ((st 6).busy (pkCv 1) = true ∧ ((st 6).cove 1).chk.closeNow = false ∧ cvHeld 32832 = true ∧ ((st 6).cove 1).hold = [(32832, 7#32)]) ∧
    ((st 7).busy (pkCv 1) = true ∧ ((st 7).cove 1).chk.closeNow = false ∧ ((st 7).cove 1).far = none ∧ cvHeld 32850 = true ∧ ((st 7).cove 1).hold =
      [(32850, 2#32)] ∧ 2#32 = if true = true then 2#32 else 1#32) ∧
    ((st 8).busy (pkCv 1) = true ∧ ((st 8).cove 1).chk.closeNow = false ∧ ((st 8).cove 1).far ≠ none ∧ cvHeld 32850 = true ∧ ((st 8).cove 1).hold =
      [(32850, 1#32)] ∧ 1#32 = if false = true then 2#32 else 1#32) ∧
    (((st 9).cove 1).far = some (false, 805306368#32, 0#32) ∧ ((st 9).busRead (Initiator.cv 1) (805306368#32).toNat 4).snd = BusOut.ok 0#32) ∧
    (((st 10).busRead (Initiator.cv 1) (4#32).toNat 4).snd = BusOut.err ∧ ((st 10).cove 1).far = some (false, 4#32, 0#32)) ∧
    ((st 4).busy (pkCv 1) = true ∧ (st 4).fld (pkCv 1) CV_CHK_WIN ≤ ((st 4).cove 1).main.win) ∧
    ((st 11).busy (pkCv 1) = true ∧ ((st 11).cove 1).main.halted = false ∧ ((st 11).cove 1).sigs = [(3, 5#32)] ∧ ((st 11).cove 1).ckSigs = [(3,
      5#32)]) ∧
    ((st 13).busy (pkCv 1) = true ∧ ((st 13).cove 1).main.halted = true ∧ (st 13).st (pkCv 1) = PageSt.run ∧ ((st 13).cove 1).sigs = [(3, 5#32)] ∧
      ((st 13).cove 1).ckSigs = [(3, 5#32)]) ∧
    ((st 12).busy (pkCv 1) = true ∧ ((st 12).cove 1).sigs = [(3, 5#32)] ∧ ((st 12).cove 1).ckSigs = [(3, 6#32)]) ∧
    ((st 2).st (pkCv 1) = PageSt.drain ∧ ((st 2).cove 1).main.halted = false ∧ ((st 2).cove 1).main.rep = 0) ∧
    ((st 3).st (pkCv 1) = PageSt.drain ∧ ((st 3).cove 1).main.halted = false ∧ ((st 3).cove 1).main.rep ≠ 0) ∧
    ((st 15).cvBoundary 1 false = true ∧ (∀ (l : CvLand), l ∈ ((st 15).cvCore 1 false).land → l.key ≠ cvSR) ∧ (if true = true then
      (st 15).cvFastPending 1 else (st 15).cvNormalPending 1) = true) ∧
    ((st 14).memOk ∧ ((st 14).cove 1).copying = true ∧ ((st 14).page (pkCv 1)).en = true ∧ cvPAddr 1 0 ≤ 823132164) ∧
    ((st 14).memOk ∧ ((st 14).cove 1).copying = true ∧ ((st 14).page (pkCv 1)).en = true ∧ (0 < cvPAddr 1 0 ∨ cvPAddr 1 0 + 524288 ≤ 0)) :=
  ⟨by decide, by decide, by decide, by decide, by decide, by decide,
    by decide, by decide, by decide, by decide, by decide, by decide,
    by decide, by decide, by decide, by decide, by decide, (by unfold State.memOk; decide),
    (by unfold State.memOk; decide)⟩
end W11e

namespace W13a
def ap (p : PageSt) (a : App) : State := { witSt (pkQg 1) .run (witSt (pkAc 1) p State.reset) with app := [(1, a)] }
def pc0 : Word := 0x30100010#32
def core (r : List (Nat × Word)) : AppCore := { pc := pc0, regs := r, csrs := [(0x300, 8#32), (0x305, 0x30100100#32), (0x304, 0xFFFFFFFF#32)] }
def qg (s : State) : State := ((s.setWord (pkQg 1) (QG_RANGE_BASE.ix 0 8) 0x20000001#32).setWord (pkQg 1) (QG_RANGE_LIMIT_LIMIT.ix 0 8) 0x20000F00#32)
def dA : Word := 0x30140010#32
def qe (a d : Word) : QuayEntry := { addr := a, size := 4, data := d, fenced := false, window := 0 }
def st : Nat → State
  | 0 => qg (ap .run { main := core [] })
  | 1 => qg (ap .run { main := core [(5, 3#32)], reserved := some dA.toNat })
  | 2 => qg (ap .run { main := core [], quay := [qe 0x20000004#32 1#32] })
  | _ => qg (ap .run { main := core [], quay := List.replicate 32 (qe 0x20000004#32 1#32) })

/-- States and operands that meet the hypotheses of AppMainCore, clause by clause. -/
theorem test_meets_AppMainCore :
    ((st 0).acNext 1 (AppAct.plain 31 dA 0#5)) ∧
    (inDtcm 1 (BitVec.toNat dA) = true ∧ ((st 0).inQuay 1 dA = true → ((st 0).appOf 1).quay = []) ∧ (st 0).acNext 1 (AppAct.load dA 1 true 63)) ∧
    ((st 0).memOk ∧ inDtcm 1 (BitVec.toNat dA) = true ∧ (st 0).inQuay 1 dA = false ∧ (st 0).acNext 1 (AppAct.store dA 1 dA) ∧ (0 < BitVec.toNat dA ∨
      BitVec.toNat dA + 1 ≤ 0)) ∧
    ((st 0).memOk ∧ inDtcm 1 (BitVec.toNat dA) = true ∧ (st 0).acNext 1 (AppAct.lr dA 31)) ∧
    ((st 1).memOk ∧ ((st 1).appOf 1).reserved = some (BitVec.toNat dA) ∧ inDtcm 1 (BitVec.toNat dA) = true ∧ (st 1).acNext 1 (AppAct.sc dA dA 31) ∧ (0
      < BitVec.toNat dA ∨ BitVec.toNat dA + 4 ≤ 0)) ∧
    ((st 0).memOk ∧ inDtcm 1 (BitVec.toNat dA) = true ∧ ((st 0).appOf 1).reserved ≠ some (BitVec.toNat dA) ∧ (st 0).acNext 1 (AppAct.sc dA dA 31)) ∧
    ((st 0).memOk ∧ inDtcm 1 (BitVec.toNat dA) = true ∧ (st 0).acNext 1 (AppAct.amo AmoOp.add dA dA 31) ∧ (0 < BitVec.toNat dA ∨ BitVec.toNat dA + 4 ≤
      0)) ∧
    (((st 0).appOf 1).halted = false ∧ (st 0).mainReady 1 = true ∧ ((st 0).appOf 1).main.win < 256 ∧ ((st 0).inQuay 1 ((st 0).appOf 1).main.pc = true
      → ((st 0).appOf 1).quay = []) ∧ (4#32).getLsbD 31 = false ∧ (st 0).acExcept 1 ((st 0).appOf 1).main (AppAct.load (806617105#32) 2 true 3) = some
      (4#32, 806617105#32)) ∧
    (((st 0).appOf 1).quay.length < 32 ∧ (st 0).inQuay 1 536870920#32 = true ∧ (st 0).acNext 1 (AppAct.store (536870920#32) 1 dA)) ∧
    (((st 3).appOf 1).quay.length = 32 ∧ ((st 3).appOf 1).fullStall = false ∧ Option.map (fun e => e.fenced) ((st 3).appOf 1).quay.head? = some false
      ∧ (st 3).inQuay 1 536870920#32 = true ∧ (st 3).acNext 1 (AppAct.store (536870920#32) 1 dA)) ∧
    ((st 2).acNext 1 (AppAct.plain 0 0#32 0#5) ∧ ((st 2).appOf 1).quay ≠ []) ∧
    ((st 0).acNext 1 (AppAct.plain 0 0#32 0#5) ∧ ((st 0).appOf 1).quay = []) ∧
    ((st 0).acNext 1 (AppAct.csr 1984 31 (some dA))) :=
  ⟨(by unfold State.acNext; decide), (by unfold State.acNext; decide), (by unfold State.memOk State.acNext; decide), (by unfold State.memOk State.acNext; decide), (by unfold State.memOk State.acNext; decide), (by unfold State.memOk State.acNext; decide),
    (by unfold State.memOk State.acNext; decide), by decide, (by unfold State.acNext; decide), (by unfold State.acNext; decide), (by unfold State.acNext; decide), (by unfold State.acNext; decide),
    (by unfold State.acNext; decide)⟩
end W13a

namespace W13c
def ap (p : PageSt) (a : App) : State := { witSt (pkQg 1) .run (witSt (pkAc 1) p State.reset) with app := [(1, a)] }
def pc0 : Word := 0x30100010#32
def core (r : List (Nat × Word)) : AppCore := { pc := pc0, regs := r, csrs := [(0x300, 8#32), (0x305, 0x30100100#32), (0x304, 0xFFFFFFFF#32)] }
def qg (s : State) : State := ((s.setWord (pkQg 1) (QG_RANGE_BASE.ix 0 8) 0x20000001#32).setWord (pkQg 1) (QG_RANGE_LIMIT_LIMIT.ix 0 8) 0x20000F00#32)
def dA : Word := 0x30140010#32
def qe (a d : Word) : QuayEntry := { addr := a, size := 4, data := d, fenced := false, window := 0 }
def en (a : AppAct) (q : Bool) : AppEntry := { seq := 3, fetch := pc0, act := a, val := 0x77#32, quay := q }
def ck (f : List AppEntry) : App := { main := { core [] with retired := 9 }, chk := { core [(2, 5#32)] with retired := 131, pc := pc0 }, fifo := f }
def qA : Word := 0x20000008#32
def ent : Nat → AppEntry
  | 0 => en (.plain 4 9#32 0#5) false
  | 1 => en (.plain 5 1#32 3#5) false
  | 2 => { en (.plain 4 9#32 0#5) false with seq := 4 }
  | 3 => { en (.plain 4 9#32 0#5) false with fetch := 0x30100020#32 }
  | 4 => en (.load dA 4 false 4) false
  | _ => en (.store qA 4 9#32) true
def st : Nat → State
  | 0 => ap .run (ck [ent 0])
  | 1 => ap .run (ck [ent 2])
  | 2 => ap .run (ck [ent 3])
  | 3 => ap .run (ck [ent 4])
  | 4 => qg (ap .run { ck [en (.store qA 4 9#32) true] with quay := [qe qA 9#32] })
  | 5 => ap .run { main := { core [] with win := 256, retired := 256 } }
  | 6 => ap .run { sigs := [(9, 5#32)], ckSigs := [5#32] }
  | 7 => ap .run { sigs := [(9, 5#32)], ckSigs := [6#32] }
  | 8 => ap .run { hashes := [5#32], ckHashes := [5#32] }
  | 9 => ap .run { hashes := [5#32], ckHashes := [9#32] }
  | 10 => ap .run { pulses := 0xFFFF0000#32, main := core [] }
  | 11 => ap .run { repair := some (.mainParity 4), main := core [(4, 1#32)], chk := core [(4, 2#32)] }
  | 12 => ap .run { repair := some (.mainParity 4), main := core [(4, 1#32)], chk := { core [(4, 2#32)] with bad := [4] } }
  | _ => ap .run { werrs := [dA, qA] }

set_option maxRecDepth 40000 in
/-- States and operands that meet the hypotheses of AppChecker, clause by clause. -/
theorem test_meets_AppChecker :
    ((ent 0).quay = false ∧ (ent 0).seq = ((st 0).appOf 1).chk.retired % 128 ∧ ((ent 0).act = AppAct.plain 4 9#32 0#5) ∧ (ent 0).fetch = (ent 0).fetch
      ∧ (st 0).ckNext 1 (ent 0) [] (ent 0).fetch (AppAct.plain 4 9#32 0#5)) ∧
    ((ent 3).quay = false ∧ (ent 3).seq = ((st 2).appOf 1).chk.retired % 128 ∧ (ent 3).fetch ≠ 806354960#32 ∧ (st 2).ckNext 1 (ent 3) []
      (806354960#32) (AppAct.plain 31 9#32 0#5)) ∧
    ((ent 2).quay = false ∧ (ent 2).seq ≠ ((st 1).appOf 1).chk.retired % 128 ∧ (st 1).ckNext 1 (ent 2) [] (806354960#32) (AppAct.plain 31 9#32 0#5)) ∧
    ((ent 0).quay = false ∧ (st 0).ckNext 1 (ent 0) [] (806354960#32) (AppAct.plain 31 9#32 0#5)) ∧
    ((ent 0).quay = false ∧ (ent 0).seq = ((st 0).appOf 1).chk.retired % 128 ∧ (4 ≠ 31 ∧ (ent 0).act = AppAct.plain 4 9#32 0#5) ∧ (ent 0).fetch = (ent
      0).fetch ∧ (st 0).ckNext 1 (ent 0) [] (ent 0).fetch (AppAct.plain 31 9#32 0#5)) ∧
    ((ent 4).quay = false ∧ (ent 4).seq = ((st 3).appOf 1).chk.retired % 128 ∧ (ent 4).fetch = (ent 4).fetch ∧ (ent 4).act = AppAct.load
      (806617104#32) 4 false 4 ∧ (st 3).ckNext 1 (ent 4) [] (ent 4).fetch (AppAct.load (806617104#32) 4 false 4)) ∧
    ((st 4).memOk ∧ (ent 5).quay = true ∧ (ent 5).seq = ((st 4).appOf 1).chk.retired % 128 ∧ (ent 5).fetch = (ent 5).fetch ∧ ((st 4).appOf 1).quay =
      [qe qA 9#32] ∧ (qe qA 9#32).matched = false ∧ (qe qA 9#32).fenced = false ∧ (qe qA 9#32).size = 4 ∧ (qe qA 9#32).addr = (qe qA 9#32).addr ∧
      (st 4).inQuay 1 (qe qA 9#32).addr = true ∧ 536870912 ≤ BitVec.toNat (qe qA 9#32).addr ∧ BitVec.toNat (qe qA 9#32).addr < 545259520 ∧
      BitVec.toNat (qe qA 9#32).addr % 4 = 0 ∧ (qe qA 9#32).data = (qe qA 9#32).data ∧ (st 4).ckNext 1 (ent 5) [] (ent 5).fetch (AppAct.store (qe qA
      9#32).addr 4 (qe qA 9#32).data) ∧ (1 < BitVec.toNat (qe qA 9#32).addr ∨ BitVec.toNat (qe qA 9#32).addr + 4 ≤ 1)) ∧
    ((st 4).memOk ∧ (st 4).inQuay 1 536870920#32 = true ∧ 536870912 ≤ (536870920#32).toNat ∧ (536870920#32).toNat < 545259520 ∧ (536870920#32).toNat %
      4 = 0 ∧ (ent 5).quay = true ∧ (ent 5).seq = ((st 4).appOf 1).chk.retired % 128 ∧ (ent 5).fetch = (ent 5).fetch ∧ (st 4).ckNext 1 (ent 5) [] (ent
      5).fetch (AppAct.store (536870920#32) 4 5#32) ∧ ((st 4).appOf 1).quay = [qe qA 9#32] ∧ (qe qA 9#32).matched = false ∧ (qe qA 9#32).fenced =
      false ∧ (qe qA 9#32).size = 4 ∧ ((qe qA 9#32).addr ≠ 536870920#32 ∨ (qe qA 9#32).data ≠ 5#32)) ∧
    (((st 10).appOf 1).halted = false ∧ (st 10).takesIrq 1 17 = true) ∧
    ((st 5).acOn 1 = true ∧ 256 ≤ ((st 5).appOf 1).main.win) ∧
    (((st 6).appOf 1).quay = [] ∧ ((st 6).appOf 1).sigs = [(9, 5#32)] ∧ ((st 6).appOf 1).ckSigs = [5#32]) ∧
    (((st 7).appOf 1).repair = none ∧ ((st 7).appOf 1).sigs = [(9, 5#32)] ∧ ((st 7).appOf 1).ckSigs = [6#32]) ∧
    (((st 8).appOf 1).hashes = [5#32] ∧ ((st 8).appOf 1).ckHashes = [5#32]) ∧
    (((st 9).appOf 1).repair = none ∧ ((st 9).appOf 1).hashes = [5#32] ∧ ((st 9).appOf 1).ckHashes = [9#32]) ∧
    ((st 0).acOn 1 = true ∧ ((st 0).appOf 1).repair = none) ∧
    (((st 11).appOf 1).fifo = [] ∧ ((st 11).appOf 1).quay = [] ∧ ((st 11).appOf 1).repair = some (Repair.mainParity 4) ∧ ((st 11).appOf
      1).chk.bad.contains 4 = false) ∧
    (((st 12).appOf 1).fifo = [] ∧ ((st 12).appOf 1).repair = some (Repair.mainParity 4) ∧ ((st 12).appOf 1).chk.bad.contains 4 = true) ∧
    (((st 13).appOf 1).werrs = [806617104#32, 536870920#32]) :=
  ⟨(by unfold State.ckNext; decide), (by unfold State.ckNext; decide), (by unfold State.ckNext; decide), (by unfold State.ckNext; decide), (by unfold State.ckNext; decide), (by unfold State.ckNext; decide),
    (by unfold State.memOk State.ckNext; decide), (by unfold State.memOk State.ckNext; decide), by decide, by decide, by decide, by decide,
    by decide, by decide, by decide, by decide, by decide, by decide⟩
end W13c

namespace W13d
def ap (p : PageSt) (a : App) : State := { witSt (pkQg 1) .run (witSt (pkAc 1) p State.reset) with app := [(1, a)] }
def pc0 : Word := 0x30100010#32
def core (r : List (Nat × Word)) : AppCore := { pc := pc0, regs := r, csrs := [(0x300, 8#32), (0x305, 0x30100100#32), (0x304, 0xFFFFFFFF#32)] }
def att (s : State) : State := (List.range 4).foldl (fun s j => s.setBit (pkAc j) AC_STAT_DBG_ATTACHED true) s
def cp (en rs : Bool) : State := ((putW (ap .fault { copying := true }) 0x30100000 [1, 2, 3]).modPage (pkAc 1) (fun p => { p with en := en })).setBit (pkAc 1) AC_CFG_RESTART rs
def st : Nat → State
  | 0 => ap .idle {}
  | 1 => ap .drain { main := { core [] with win := 4 } }
  | 2 => cp true true
  | 3 => cp true false
  | 4 => att (ap .run { halted := true })
  | 5 => seaOn (ap .run {})
  | 6 => { seaOn (ap .run {}) with sea := { (seaOn (ap .run {})).sea with mf := { bench := true } } }
  | 7 => ap .run { halted := true, main := core [], replay := [(0x1004, 9#32)] }
  | _ => ap .run { halted := true, replay := List.replicate 64 (0x1004, 9#32) }

/-- States and operands that meet the hypotheses of AppStatesAndDebug, clause by clause. -/
theorem test_meets_AppStatesAndDebug :
    ((st 0).st (pkAc 1) = PageSt.idle ∧ (st 0).st (pkQg 1) ≠ PageSt.fault) ∧
    ((st 1).st (pkAc 1) = PageSt.drain ∧ ((st 1).appOf 1).stopped = false) ∧
    ((st 2).memOk ∧ ((st 2).appOf 1).copying = true ∧ (st 2).st (pkAc 1) = PageSt.fault ∧ ((st 2).page (pkAc 1)).en = true ∧ inMirror 1 806354952 =
      true) ∧
    ((st 2).memOk ∧ ((st 2).appOf 1).copying = true ∧ (st 2).st (pkAc 1) = PageSt.fault ∧ ((st 2).page (pkAc 1)).en = true ∧ inMirror 1 1 = false) ∧
    ((st 3).memOk ∧ ((st 3).appOf 1).copying = true ∧ (st 3).st (pkAc 1) = PageSt.fault ∧ ((st 3).page (pkAc 1)).en = true ∧ (st 3).bit (pkAc 1)
      AC_CFG_RESTART = false) ∧
    ((st 2).memOk ∧ ((st 2).appOf 1).copying = true ∧ (st 2).st (pkAc 1) = PageSt.fault ∧ ((st 2).page (pkAc 1)).en = true ∧ (st 2).bit (pkAc 1)
      AC_CFG_RESTART = true) ∧
    ((st 1).acOn 1 = true ∧ ((st 1).appOf 1).halted = false) ∧
    ((∀ (j : Nat), j < 4 → (st 5).bit (pkAc j) AC_STAT_DBG_ATTACHED = false) ∧ (st 5).debugExempt = false ∧ (st 5).bolOut = true) ∧
    ((∀ (j : Nat), j < 4 → (st 6).bit (pkAc j) AC_STAT_DBG_ATTACHED = false) ∧ (st 6).debugExempt = true) ∧
    ((∀ (j : Nat), j < 4 → ((st 0).appOf j).halted = false)) ∧
    (((st 4).appOf 1).halted = true ∧ ((st 4).appOf 1).replay.length < 64) ∧
    (((st 8).appOf 1).halted = true ∧ 64 ≤ ((st 8).appOf 1).replay.length) ∧
    (((st 7).appOf 1).halted = true ∧ ((st 7).appOf 1).fifo = [] ∧ (st 7).mainReady 1 = true ∧ ((st 7).appOf 1).main.win < 256 ∧ (st 7).acExcept 1
      ((st 7).appOf 1).main (AppAct.plain 0 0#32 0#5) = none ∧ ((st 7).appOf 1).quay = [] ∧ ((st 7).appOf 1).replay = [(4096 + 4, 9#32)]) ∧
    ((st 4).memOk ∧ ((st 4).appOf 1).halted = true ∧ inItcm 1 806354952 = true) ∧
    ((st 4).memOk ∧ ((st 4).appOf 1).halted = true ∧ inItcm 1 806354952 = true ∧ inMirror 1 806354952 = true) ∧
    ((st 4).memOk ∧ ((st 4).appOf 1).halted = true ∧ inItcm 1 806477824 = true ∧ inMirror 1 806477824 = false) :=
  ⟨by decide, by decide, (by unfold State.memOk; decide), (by unfold State.memOk; decide), (by unfold State.memOk; decide), (by unfold State.memOk; decide),
    by decide, by decide, by decide, by decide, by decide, by decide,
    by decide, (by unfold State.memOk; decide), (by unfold State.memOk; decide), (by unfold State.memOk; decide)⟩
end W13d

namespace W14a
def on1 (s : State) : State :=
  let s := (List.range 3).foldl (fun s i => (witSt (pkIs (3 + i)) .run (witSt (pkGl (3 + i)) .run s)).setFld (pkIs (3 + i)) IS_STAT_SW (i + 1)) s
  (witSt (pkGb 1) .run s).setBit (pkGb 1) GB_STAT_EN_SW true
def openF (s : State) : State := { s with sea := { s.sea with mf := { s.sea.mf with bridges := List.replicate 6 { en := true, form := false } } } }
def grp (s : State) (sil : List Nat) (e : List Nat) : State := { s with sea := { s.sea with silent := sil, mf := { s.sea.mf with gsize := 2, bridges := (List.range 6).map (fun i => { en := e.contains i }) } } }
def st : Nat → State
  | 0 => State.reset
  | 1 => seaOn State.reset
  | 2 => openF (on1 (seaOn State.reset))
  | 3 => grp (on1 (seaOn State.reset)) [0] [0, 1]
  | _ => (on1 (seaOn State.reset)).setFld pkSea SEAWALL_STAT_SOFT 0x3F

/-- States and operands that meet the hypotheses of SeawallSoftCuts, clause by clause. -/
theorem test_meets_SeawallSoftCuts :
    ((st 0).fixedLive ∧ (st 0).sea.mf.gsize = 0) ∧
    ((st 2).fixedLive ∧ (st 2).sea.mf.gsize = 0 ∧ (st 2).dr.running = [] ∧ (st 2).bit (pkGb 1) GB_STAT_CUT = false ∧ ((st 2).entry 1).form = false ∧
      ((st 2).sw (3 * 1 + 2) = 1 ∨ (st 2).sw (3 * 1 + 2) = 2 ∨ (st 2).sw (3 * 1 + 2) = 3)) ∧
    ((st 1).fixedLive ∧ (st 1).sea.mf.gsize = 0 ∧ (st 1).dr.running = [] ∧ (st 1).bit (pkGb 5) GB_STAT_CUT = false ∧ ((st 1).entry 5).form = true ∧
      ((st 1).leg (3 * 5 + 2)).latch ≠ Latch.latch ∧ (st 1).st (pkGl (3 * 5 + 2)) ≠ PageSt.fault) ∧
    ((st 0).fixedLive ∧ (st 0).bit pkSea SEAWALL_STAT_UNIT_SOFT = false ∧ (st 0).dr.running = []) ∧
    ((st 3).fixedLive ∧ (st 3).sea.mf.gsize = 2 ∧ (st 3).bit pkSea SEAWALL_STAT_UNIT_SOFT = false ∧ ((st 3).entry (bridgeOf 5)).en = true ∧ (∀ (m :
      Nat), m < 6 → m ≠ bridgeOf 5 → ((st 3).entry m).en = true → ∃ j ∈ (st 3).sea.silent, bridgeOf j = m)) ∧
    ((st 4).bit pkSea SEAWALL_STAT_HARD = false ∧ (st 4).bit pkSea SEAWALL_STAT_UNIT_SOFT = false ∧ (st 4).softCutOf 5 = true) :=
  ⟨(by unfold State.fixedLive; decide), (by unfold State.fixedLive; decide), (by unfold State.fixedLive; decide), (by unfold State.fixedLive; decide), (by unfold State.fixedLive; decide), by decide⟩
end W14a

namespace W14b
def on1 (s : State) : State :=
  let s := (List.range 3).foldl (fun s i => (witSt (pkIs (3 + i)) .run (witSt (pkGl (3 + i)) .run s)).setFld (pkIs (3 + i)) IS_STAT_SW (i + 1)) s
  (witSt (pkGb 1) .run s).setBit (pkGb 1) GB_STAT_EN_SW true
def shoot (n : Nat) (s : State) : State := { s with cyc := 1000000000, sea := { s.sea with shoot := [(1, List.replicate n 999999999)] } }
def hard (s : State) : State := (s.setBit pkSea SEAWALL_STAT_HARD true).setFld pkSea SEAWALL_STAT_HCAUSE 3
def aon (s : State) : State := { s with sea := { s.sea with aonHard := true } }
def st : Nat → State
  | 0 => shoot 2 (on1 (seaOn State.reset))
  | 1 => hard (shoot 2 (seaOn State.reset))
  | _ => aon State.reset

/-- States and operands that meet the hypotheses of SeawallHardCuts, clause by clause. -/
theorem test_meets_SeawallHardCuts :
    ((st 0).fixedLive ∧ (st 0).bit pkSea SEAWALL_STAT_HARD = false ∧ (st 0).dr.running = [] ∧ 2 ≤ ((st 0).shootTimes (bridgeOf 5)).length ∧ (st 0).bit
      (pkGb 5) GB_STAT_CUT = false) ∧
    ((st 0).fixedLive ∧ (((st 0).shootTimes (bridgeOf 17)).length < 2 ∨ (st 0).bit pkSea SEAWALL_STAT_HARD = true)) ∧
    ((st 1).fixedLive ∧ (st 1).bit pkSea SEAWALL_STAT_HARD = true) ∧
    ((st 2).fixedLive ∧ (st 2).bit pkSea SEAWALL_STAT_HARD = false ∧ (st 2).sea.aonHard = true) ∧
    ((st 0).fixedLive ∧ (st 0).bit pkSea SEAWALL_STAT_HARD = false ∧ (st 0).sea.aonHard = false) ∧
    ((st 0).fixedLive ∧ (st 0).sea.aonHard = false) ∧
    (2000000 < 2000001) ∧
    ((st 1).bit pkSea SEAWALL_STAT_HARD = true) ∧
    ((st 0).bit pkSea SEAWALL_STAT_HARD = false) :=
  ⟨(by unfold State.fixedLive; decide), (by unfold State.fixedLive; decide), (by unfold State.fixedLive; decide), (by unfold State.fixedLive; decide), (by unfold State.fixedLive; decide), (by unfold State.fixedLive; decide),
    by decide, by decide, by decide⟩
end W14b

namespace W14c
/-- A legal manifest in bank A: magic, 1024 bytes, version 7, the watchdog line, the swell line and the harbour line. -/
def mfS (s : State) : State := { s with mem := [(0x10bf0000, 0x46#8), (0x10bf0001, 0x4d#8), (0x10bf0002, 0x5a#8), (0x10bf0003, 0x4b#8), (0x10bf0005, 0x4#8), (0x10bf000c, 0x7#8), (0x10bf00a0, 0x64#8), (0x10bf00a2, 0x32#8), (0x10bf00a3, 0x13#8), (0x10bf00a4, 0x9#8), (0x10bf00b0, 0x96#8), (0x10bf00c0, 0x2#8), (0x10bf00c2, 0x64#8)] }
def recS (d : Nat) (s : State) : State := putW s 0x10BFFFC0 [0x4B5A5343, d, 4294967295 - d, 5]
def kd (s : State) : State := { s with pw := { s.pw with kdUp := true } }
def wd (s : State) (n : Nat) (bad : Bool) (fc : Nat) : State := let s := seaOn s; { s.setFld pkSea SEAWALL_WD_Q_FAIL_CNT fc with sea := { s.sea with wdRun := true, wdAnswers := n, wdBad := bad, mf := { s.sea.mf with wdPairs := 1 } } }
def comm (cs : Nat) (kf : Bool) (mfp : Bool) : State := let s := (State.reset.setFld pkSea SEAWALL_COMM_CSTATE cs).setWord pkSea SEAWALL_SEAL_CALC 0xA5#32
  { s with pw := { s.pw with tide := .dryDock, kdUp := true }, sea := { s.sea with keyFirst := kf, mfPassed := mfp, mfBank := some 0 } }
def run (s : State) : State := { s with boot := { s.boot with runBank := some 0 } }
def st : Nat → State
  | 0 => wd State.reset 2 false 2
  | 1 => wd State.reset 2 true 2
  | 2 => wd State.reset 1 false 2
  | 3 => { wd State.reset 0 false 2 with pw := { tide := .flood } }
  | 4 => kd (mfS State.reset)
  | 5 => recS 0 (kd State.reset)
  | 6 => run (recS 0 (kd State.reset))
  | 7 => comm 0 false true
  | 8 => comm 0 false false
  | 9 => comm 1 false true
  | 10 => comm 1 true true
  | 11 => comm 2 false true
  | _ => comm 3 false true

set_option maxRecDepth 40000 in
/-- States and operands that meet the hypotheses of SeawallWatchdogAndSeal, clause by clause. -/
theorem test_meets_SeawallWatchdogAndSeal :
    ((st 0).sea.wdRun = true ∧ (st 0).fixedLive ∧ (st 0).sea.wdAnswers = 2 ∧ (st 0).sea.wdBad = false) ∧
    ((st 1).sea.wdRun = true ∧ (st 1).fixedLive ∧ ((st 1).sea.wdAnswers ≠ 2 ∨ (st 1).sea.wdBad = true) ∧ (st 1).inHigh = true ∧ (st 1).fld pkSea
      SEAWALL_WD_Q_FAIL_CNT < 255 ∧ (st 1).fld pkSea SEAWALL_WD_Q_FAIL_CNT + 1 = (st 1).sea.mf.wdFailMax ∧ (st 1).bit pkSea SEAWALL_STAT_UNIT_SOFT =
      false) ∧
    ((st 3).sea.wdRun = true ∧ (st 3).fixedLive ∧ ((st 3).sea.wdAnswers ≠ 2 ∨ (st 3).sea.wdBad = true) ∧ (st 3).inHigh = false) ∧
    ((st 2).sea.wdAnswers = 1 ∧ bitsN (115447#32).toNat 17 16 = 1) ∧
    ((st 4).pw.kdUp = true ∧ (st 4).fixedLive ∧ (st 4).checkBank = (st 4).checkBank ∧ (st 4).mfLegal (st 4).checkBank = true) ∧
    ((st 0).pw.kdUp = true ∧ (st 0).fixedLive ∧ (st 0).checkBank = (st 0).checkBank ∧ (st 0).recordValid (st 0).checkBank = false) ∧
    ((st 5).pw.kdUp = true ∧ (st 5).fixedLive ∧ (st 5).boot.runBank = none ∧ (st 5).pw.noImage = false ∧ (st 5).checkBank = (st 5).checkBank ∧
      (st 5).recordValid (st 5).checkBank = true ∧ (st 5).mfLegal (st 5).checkBank = false) ∧
    ((st 6).pw.kdUp = true ∧ (st 6).fixedLive ∧ (st 6).boot.runBank ≠ none ∧ (st 6).bit pkSea SEAWALL_STAT_HARD = false ∧ (st 6).checkBank =
      (st 6).checkBank ∧ (st 6).recordValid (st 6).checkBank = true ∧ (st 6).mfLegal (st 6).checkBank = false) ∧
    ((st 0).rwdOpen = false) ∧
    ((st 7).rwdOpen = true ∧ (st 7).fld pkSea SEAWALL_COMM_CSTATE = 0 ∧ 4294967130#32 ≠ (st 7).word pkSea SEAWALL_SEAL_CALC) ∧
    ((st 8).rwdOpen = true ∧ (st 8).fld pkSea SEAWALL_COMM_CSTATE = 0 ∧ (st 8).sea.mfPassed = false) ∧
    ((st 9).rwdOpen = true ∧ (st 9).fld pkSea SEAWALL_COMM_CSTATE = 1 ∧ (st 9).sea.keyFirst = false ∧ 4294967130#32 ≠ (st 9).word pkSea
      SEAWALL_SEAL_CALC) ∧
    ((st 10).rwdOpen = true ∧ (st 10).fld pkSea SEAWALL_COMM_CSTATE = 1 ∧ (st 10).sea.keyFirst = true ∧ 165#32 ≠ ~~~(st 10).word pkSea
      SEAWALL_SEAL_CALC) ∧
    ((st 10).fld pkSea SEAWALL_COMM_CSTATE = 1 ∧ (st 10).sea.keyFirst = true) ∧
    ((st 11).fld pkSea SEAWALL_COMM_CSTATE = 2) ∧
    ((st 11).memOk ∧ (st 11).fld pkSea SEAWALL_COMM_CSTATE = 2 ∧ (st 11).pw.tide = Tide.dryDock ∧ (st 11).sea.mfBank = some 0 ∧ (0 < mfBase 0 + 65472
      ∨ mfBase 0 + 65536 ≤ 0)) ∧
    ((st 7).memOk ∧ (st 7).sea.mfBank = some 0 ∧ (0 < 10000 ∨ (st 7).fld pkSea SEAWALL_COMM_CSTATE ≠ 2 ∨ (st 7).pw.tide ≠ Tide.dryDock)) ∧
    ((st 12).fld pkSea SEAWALL_COMM_CSTATE = 3) :=
  ⟨(by unfold State.fixedLive; decide), (by unfold State.fixedLive; decide), (by unfold State.fixedLive; decide), by decide, (by unfold State.fixedLive; decide), (by unfold State.fixedLive; decide),
    (by unfold State.fixedLive; decide), (by unfold State.fixedLive; decide), by decide, by decide, by decide, by decide,
    by decide, by decide, by decide, (by unfold State.memOk; decide), (by unfold State.memOk; decide), by decide⟩
end W14c

namespace W15a
def pw (src kind lvl seq : Nat) : BitVec 64 := Pennant.word ⟨src, BitVec.ofNat 6 kind, lvl, BitVec.ofNat 6 seq, 5#8, 9#32⟩
def hmS (f : Hm → Hm) (s : State) : State := { s with hm := f s.hm, cyc := 1000000000 }
def srcs (src : Nat) (x : SrcSt) : State := hmS (fun h => { h with src := [(src, x)] }) State.reset
def pn (src kind lvl seq : Nat) : Pennant := pennantOf (pw src kind lvl seq)
def st : Nat → State
  | 0 => srcs 0xA7 {}
  | 1 => srcs 0xA7 { lastAdm := some 999999700 }
  | 2 => hmS (fun h => { h with queue := List.replicate 64 ⟨pn 1 1 1 1, 0⟩, lastDrop := some 999999999 }) State.reset
  | 3 => (State.reset.setWord pkHm HM_GRP_MODE 0xFFFFFFFF#32)
  | 4 => srcs 32 { lineWait := true }
  | _ => srcs 32 { pennWait := true }

/-- States and operands that meet the hypotheses of HarbourIntake, clause by clause. -/
theorem test_meets_HarbourIntake :
    ((st 0).hm.queue.length < 64 ∧ (pennantOf (pw 167 8 1 0)).source < 640 ∧ (pennantOf (pw 167 8 1 0)).seq = ((st 0).srcSt (pennantOf (pw 167 8 1
      0)).source).expSeq ∧ (∀ (a : Nat), ((st 0).srcSt (pennantOf (pw 167 8 1 0)).source).lastAdm = some a → a + 400 ≤ (st 0).cyc) ∧ 15 ≠ (pennantOf
      (pw 167 8 1 0)).source) ∧
    ((pennantOf (pw 167 8 1 0)).source < 640 ∧ (pennantOf (pw 167 8 1 0)).seq = ((st 1).srcSt (pennantOf (pw 167 8 1 0)).source).expSeq ∧ ((∃ a,
      ((st 1).srcSt (pennantOf (pw 167 8 1 0)).source).lastAdm = some a ∧ (st 1).cyc < a + 400) ∨ 64 ≤ (st 1).hm.queue.length) ∧ 15 ≠ srcGroup
      (pennantOf (pw 167 8 1 0)).source) ∧
    ((st 1).hm.lastDrop = none ∧ (pennantOf (pw 167 8 1 0)).source < 640 ∧ (pennantOf (pw 167 8 1 0)).seq = ((st 1).srcSt (pennantOf (pw 167 8 1
      0)).source).expSeq ∧ ((∃ a, ((st 1).srcSt (pennantOf (pw 167 8 1 0)).source).lastAdm = some a ∧ (st 1).cyc < a + 400) ∨ 64 ≤
      (st 1).hm.queue.length)) ∧
    ((∃ a, (st 2).hm.lastDrop = some a ∧ (st 2).cyc < a + (st 2).quietCycles) ∧ (pennantOf (pw 167 8 1 0)).source < 640 ∧ (pennantOf (pw 167 8 1
      0)).seq = ((st 2).srcSt (pennantOf (pw 167 8 1 0)).source).expSeq ∧ ((∃ a, ((st 2).srcSt (pennantOf (pw 167 8 1 0)).source).lastAdm = some a ∧
      (st 2).cyc < a + 400) ∨ 64 ≤ (st 2).hm.queue.length)) ∧
    ((pennantOf (pw 167 8 2 5)).source < 640 ∧ (pennantOf (pw 167 8 2 5)).seq ≠ ((st 0).srcSt (pennantOf (pw 167 8 2 5)).source).expSeq) ∧
    (640 ≤ (pennantOf (pw 640 8 3 0)).source) ∧
    ((st 3).hm.queue.length < 64 ∧ (st 3).lineMode (srcGroup 639) = true ∧ ((st 3).srcSt 639).lastAdm = none) ∧
    ((st 5).lineMode (srcGroup 32) = false ∧ ((st 5).srcSt 32).pennWait = true) ∧
    ((st 0).lineMode (srcGroup 639) = false ∧ ((st 0).srcSt 639).pennWait = false) ∧
    (((st 4).srcSt 32).lineWait = true) ∧
    (((st 4).srcSt 32).lineWait ≠ ((st 4).srcSt 32).pennWait) ∧
    (((st 0).srcSt 639).lineWait = false ∧ ((st 0).srcSt 639).pennWait = false) :=
  ⟨by decide, by decide, by decide, by decide, by decide, by decide,
    by decide, by decide, by decide, by decide, by decide, by decide⟩

/-- One pennant of its source under way, for HarbourIntake. -/
theorem test_meets_HarbourIntake_wire : ∃ s : State, pn 0xA7 8 1 0 ∈ s.wires ∧
    (∀ q ∈ s.wires, q.source = (pn 0xA7 8 1 0).source → q = pn 0xA7 8 1 0) ∧ (pn 0xA7 8 1 0).source < 0x280 :=
  ⟨{ State.reset with wires := [pn 0xA7 8 1 0] }, by decide⟩
end W15a

namespace W15b
def pw (src kind lvl seq : Nat) : BitVec 64 := Pennant.word ⟨src, BitVec.ofNat 6 kind, lvl, BitVec.ofNat 6 seq, 5#8, 9#32⟩
def hmS (f : Hm → Hm) (s : State) : State := { s with hm := f s.hm, cyc := 1000000000 }
def pn (src kind lvl seq : Nat) : Pennant := pennantOf (pw src kind lvl seq)
def ev (lvl : Nat) (x : Incident) (s : State) : State := hmS (fun h => { h with queue := [⟨pn 0xA7 8 lvl 0, 77⟩, ⟨pn 1 1 1 1, 0⟩], inc := [(10, x)] }) s
def fz (s : State) : State := s.setBit pkHm HM_STAT_FROZEN true
def fl (s : State) : State := { s with pw := { s.pw with tide := .flood } }
def st : Nat → State
  | 0 => ev 0 {} State.reset
  | 1 => ev 0 { st := .held, level := 1, count := 65535 } (seaOn State.reset)
  | 2 => ev 0 { st := .held, level := 3, kinds := 0x100 } (fl (seaOn State.reset))
  | 3 => ev 0 { st := .closed } (fz State.reset)
  | 4 => ev 1 {} State.reset
  | 5 => ev 1 { st := .probation, level := 2, kinds := 0x100, count := 3 } (seaOn State.reset)
  | 6 => ev 1 { st := .held, level := 3, kinds := 0x100 } (fl (seaOn State.reset))
  | 7 => ev 2 {} State.reset
  | 8 => ev 3 {} State.reset
  | 9 => ev 3 {} ((seaOn State.reset).setFld pkHm HM_STAT_UNIT_REC 7)
  | 10 => hmS (fun h => { h with held := [(10, 1)], inc := [(10, { st := .held, level := 2, helds := 255 })] }) State.reset
  | 11 => hmS (fun h => { h with openedNow := [3] }) State.reset
  | _ => hmS (fun h =>
    { h with inc := [(10, { st := .held, level := 1 }), (11, { st := .held, level := 2, lanes := [0xB2] }), (12, { st := .held, level := 3 }), (3, { st := .probation, level := 2 }), (4, { st := .lee, level := 3 })] })
    (witSt (pkGb 0) .fault State.reset)

/-- States and operands that meet the hypotheses of HarbourIncidents, clause by clause. -/
theorem test_meets_HarbourIncidents :
    ((st 0).hm.turn = 0 ∧ (st 0).dr.running = [] ∧ (st 0).hm.queue = [{ p := pn 167 8 0 0, time := 77 }, { p := pn 1 1 1 1, time := 0 }] ∧ 15 ≠
      srcGroup (pn 167 8 0 0).source) ∧
    ((st 0).hm.turn = 0 ∧ (st 0).dr.running = [] ∧ (st 0).eventLevel (pn 167 8 0 0) = 0 ∧ (st 0).hm.queue = [{ p := pn 167 8 0 0, time := 77 },
      { p := pn 1 1 1 1, time := 0 }]) ∧
    ((st 4).hm.turn = 0 ∧ (st 4).dr.running = [] ∧ 1 ≤ (st 4).eventLevel (pn 167 8 1 0) ∧ ((st 4).incident (srcGroup (pn 167 8 1 0).source)).st =
      IncSt.closed ∧ (st 4).eventLevel (pn 167 8 1 0) < 3 ∧ (st 4).hm.queue = [{ p := pn 167 8 1 0, time := 77 }, { p := pn 1 1 1 1, time := 0 }]) ∧
    ((st 5).hm.turn = 0 ∧ (st 5).dr.running = [] ∧ 1 ≤ (st 5).eventLevel (pn 167 8 1 0) ∧ ((st 5).incident (srcGroup (pn 167 8 1 0).source)).st ≠
      IncSt.closed ∧ (((st 5).pw.tide == Tide.flood || ((st 5).incident (srcGroup (pn 167 8 1 0).source)).st == IncSt.probation) && bitN
      ((st 5).incident (srcGroup (pn 167 8 1 0).source)).kinds.toNat (pn 167 8 1 0).kind.toNat && !((st 5).incident (srcGroup (pn 167 8 1
      0).source)).acked) = true ∧ max ((st 5).incident (srcGroup (pn 167 8 1 0).source)).level ((st 5).eventLevel (pn 167 8 1 0)) < 3 ∧
      (st 5).hm.queue = [{ p := pn 167 8 1 0, time := 77 }, { p := pn 1 1 1 1, time := 0 }]) ∧
    ((st 6).hm.turn = 0 ∧ (st 6).dr.running = [] ∧ 1 ≤ (st 6).eventLevel (pn 167 8 1 0) ∧ ((st 6).incident (srcGroup (pn 167 8 1 0).source)).st ≠
      IncSt.closed ∧ (((st 6).pw.tide == Tide.flood || ((st 6).incident (srcGroup (pn 167 8 1 0).source)).st == IncSt.probation) && bitN
      ((st 6).incident (srcGroup (pn 167 8 1 0).source)).kinds.toNat (pn 167 8 1 0).kind.toNat && !((st 6).incident (srcGroup (pn 167 8 1
      0).source)).acked) = true ∧ max ((st 6).incident (srcGroup (pn 167 8 1 0).source)).level ((st 6).eventLevel (pn 167 8 1 0)) = 3 ∧
      (st 6).hm.queue = [{ p := pn 167 8 1 0, time := 77 }, { p := pn 1 1 1 1, time := 0 }]) ∧
    ((st 7).hm.turn = 0 ∧ (st 7).dr.running = [] ∧ (st 7).eventLevel (pn 167 8 2 0) = 2 ∧ ((st 7).incident (srcGroup (pn 167 8 2 0).source)).st =
      IncSt.closed ∧ (st 7).hm.queue = [{ p := pn 167 8 2 0, time := 77 }, { p := pn 1 1 1 1, time := 0 }]) ∧
    ((st 9).hm.turn = 0 ∧ (st 9).dr.running = [] ∧ (st 9).sea.mf.hmLimit ≤ (st 9).fld pkHm HM_STAT_UNIT_REC ∧ (st 9).eventLevel (pn 167 8 3 0) = 3 ∧
      ((st 9).incident (srcGroup (pn 167 8 3 0).source)).st = IncSt.closed ∧ (st 9).hm.queue = [{ p := pn 167 8 3 0, time := 77 },
      { p := pn 1 1 1 1, time := 0 }]) ∧
    ((st 8).hm.turn = 0 ∧ (st 8).dr.running = [] ∧ (st 8).eventLevel (pn 167 8 3 0) = 3 ∧ ((st 8).incident (srcGroup (pn 167 8 3 0).source)).st =
      IncSt.closed ∧ (inOutputPath (pn 167 8 3 0).source = true ∨ (st 8).lee = false ∧ (st 8).leeGrant = false) ∧ (st 8).hm.queue =
      [{ p := pn 167 8 3 0, time := 77 }, { p := pn 1 1 1 1, time := 0 }]) ∧
    ((st 7).hm.turn = 0 ∧ (st 7).dr.running = [] ∧ (st 7).bit pkHm HM_STAT_FROZEN = false ∧ 2 ≤ (st 7).eventLevel (pn 167 8 2 0) ∧ (st 7).hm.queue =
      [{ p := pn 167 8 2 0, time := 77 }, { p := pn 1 1 1 1, time := 0 }]) ∧
    ((st 3).hm.turn = 0 ∧ (st 3).dr.running = [] ∧ (st 3).bit pkHm HM_STAT_FROZEN = true ∧ (st 3).hm.queue = [{ p := pn 167 8 0 0, time := 77 },
      { p := pn 1 1 1 1, time := 0 }]) ∧
    ((st 10).hm.queue = [] ∧ (st 10).hm.own = [] ∧ (st 10).dr.running = [] ∧ ((st 10).incident 10).st ≠ IncSt.closed ∧ (st 10).hm.held = [(10, 1)]) ∧
    ((st 11).hm.queue = [] ∧ (st 11).hm.own = [] ∧ (st 11).hm.held = []) ∧
    ((((st 0).incident 15).st = IncSt.closed ∨ ((st 0).incident 15).st = IncSt.lee)) ∧
    ((((st 1).incident 10).st = IncSt.probation ∨ ((st 1).incident 10).st = IncSt.held ∧ ((st 1).incident 10).level ≤ 1)) ∧
    (((st 12).incident 11).st = IncSt.held ∧ ((st 12).incident 11).level = 2 ∧ 178 ∈ ((st 12).incident 11).lanes ∧ 216 ∈ lanePages 178 ∧ kindOf 216 ≠
      some PKind.cv ∧ kindOf 216 ≠ some PKind.ac ∧ (st 12).failed 216 = false) ∧
    (((st 2).incident 10).st = IncSt.held ∧ ((st 2).incident 10).level = 3) :=
  ⟨by decide, by decide, by decide, by decide, by decide, by decide,
    by decide, by decide, by decide, by decide, by decide, by decide,
    by decide, by decide, by decide, by decide⟩
end W15b

namespace W16a
def slotW (en : Bool) (sender start guard len src : Nat) : Nat × Nat := (b2n en * 2^31 + sender * 2^24 + start, guard * 2^24 + src * 2^16 + len)
def setSlot (t e : Nat) (w : Nat × Nat) (s : State) : State := (s.setReg pkMs (0x800 + 8 * (64 * t + e)) (BitVec.ofNat 32 w.1)).setReg pkMs (0x804 + 8 * (64 * t + e)) (BitVec.ofNat 32 w.2)
/-- berth b: en dir ch slot id base dlen -/
def setBth (b : Nat) (en dir ch slot id base dlen : Nat) (s : State) : State := (s.setReg pkBth (0x800 + 8 * b) (BitVec.ofNat 32 (en * 2^31 + dir * 2^30 + ch * 2^29 + slot * 2^22 + id))).setReg pkBth (0x804 + 8 * b) (BitVec.ofNat 32 (base * 65536 + dlen))
def cs0 : Int := 1600000
def net0 : State :=
  let s := witSt pkMs .run (witSt (pkMa 0) .run (witSt (pkMa 1) .run (witSt pkBth .run State.reset)))
  let s := (List.range 4).foldl (fun s p => (witSt (pkPort p) .run s).setBit (pkPort p) PORT_STAT_LINK true) s
  let s := (List.range 2).foldl (fun s c => s.setFld (pkMa c) MA_CFG_PORTS 3) s
  let s := (s.setFld pkMs MS_NODE_ID 3).setFld pkMs MS_SCHED_CYCLE 1000
  let s := (((s.setBit pkMs MS_TIME_CFG_CS_V1 true).setFld pkMs MS_TIME_CFG_CS_ID1 7).setBit pkMs MS_TIME_CFG_CS_V2 true).setFld pkMs MS_TIME_CFG_CS_ID2 3
  let s := (s.setBit pkMs MS_TIME_CFG_CS_V3 true).setFld pkMs MS_TIME_CFG_CS_ID3 9
  let s := [0, 1, 2, 3].foldl (fun s t => setSlot t 0 (slotW true 0 10 20 64 0) (setSlot t 1 (slotW true 7 200 20 200 (1 + 128 * (t % 2))) (setSlot t 2 (slotW true 3 400 20 150 (2 + 128 * (t % 2))) s))) s
  let s := setBth 0 1 0 0 1 0x1234 0 8 (setBth 5 1 1 0 2 0x777 100 12 (setBth 9 1 1 1 2 0x888 200 12 (setBth 255 1 1 0 3 0x999 300 4 s)))
  let s := s.setWord pkMs MS_CYCLE 55#32
  s.setMa { s.ma with cycStart := cs0, tm := 1600000 * 2^28 + 12345 }
def tst (n : Nat) (s : State) : State := s.setFld pkMs MS_TSTAT_STATE n
def paths (s : State) : State := (List.range 4).foldl (fun s p => (List.range 32).foldl (fun s n => s.setWord (pkPort p) (PORT_PATH.ix n) 5000#32) s) s
def as (n : Nat) (s : State) : State := s.setFld pkMs MS_NODE_ID n
def pdu (id dlen cnt : Nat) (good : Bool) : List Byte :=
  let l := beBytes id 2 ++ beBytes dlen 2 ++ [BitVec.ofNat 8 cnt, 0#8, 0#8, 0#8] ++ (List.range dlen).map (fun i => BitVec.ofNat 8 (i * 7 + 1))
  l ++ beBytes ((crc32c l).toNat + b2n (!good)) 4
def dataF (cnt : Nat) : List Byte := (as 7 net0).mkFrame 0 0 1 1 (pdu 0x1234 8 cnt true) 200
def leadF (who kind ld : Nat) : List Byte := (as who net0).mkFrame 3 0 0 0 (beBytes ld 4 ++ beBytes 700 4 ++ [0x87#8, BitVec.ofNat 8 kind, 1#8, 0#8] ++ (List.range 8).flatMap (fun i => beBytes (100 + i) 4)) 80
def ma (f : Maulo → Maulo) (s : State) : State := s.setMa (f s.ma)
def act : State := tst 3 (paths net0)
def withB (b : Berth) (m : Maulo → Maulo) : State := { ma m act with berths := [(0, b)] }
def prt (p : Nat) (x : MPort) (s : State) : State := s.setMport p x
def st : Nat → State
  | 0 => net0
  | 1 => act
  | 2 => ma (fun m => { m with accepted := [1] }) (act.setBit (pkMa 0) MA_CFG_RING true)
  | 3 => (tst 2 (paths net0)).setSt (pkMa 0) .idle
  | 4 => withB { buf := true, copies := 65535, age := 9 } (fun m => { m with lastCnt := [(0x1234, 5)] })
  | 5 => withB {} (fun m => { m with lastCnt := [(0x1234, 6)] })
  | 6 => prt 0 { neigh := some 7, t1 := some 17000000 } (act.setBit (pkPort 0) PORT_STAT_ROLE true)
  | _ => prt 0 { neigh := some 7, t2 := some 5 } act

set_option maxRecDepth 40000 in
/-- States and operands that meet the hypotheses of MauloFramesAndLinks, clause by clause. -/
theorem test_meets_MauloFramesAndLinks :
    ((st 0).timeState = 0 ∧ (st 0).portTakes 0 = true ∧ (st 0).portTakes (if 0 % 2 = 0 then 0 + 1 else 0 - 1) = true) ∧
    ((st 1).timeState ≠ 0 ∧ (st 1).portTakes 0 = true ∧ (st 1).window 0 (cs0 + 200 * 1600 + 5000 + 32001) = Win.outside) ∧
    ((st 1).timeState ≠ 0 ∧ (st 1).portTakes 0 = true ∧ (st 1).window 0 (cs0 + 200 * 1600 + 5000 + 32000) = Win.edge 7 true) ∧
    ((st 3).timeState ≠ 0 ∧ (st 3).portTakes 0 = true ∧ (st 3).running (pkMa (0 / 2)) = false ∧ (st 3).window 0 (cs0 + 200 * 1600 + 5000) = Win.slot 1
      7) ∧
    ((st 1).timeState ≠ 0 ∧ (st 1).portTakes 0 = true ∧ (st 1).hdrFits ((dataF 6).set 17 3#8) = true ∧ (st 1).window 0 (cs0 + 200 * 1600 + 5000) =
      Win.slot 1 7 ∧ ((parseHdr ((dataF 6).set 17 3#8)).ch ≠ 0 / 2 ∨ (parseHdr ((dataF 6).set 17 3#8)).slot ≠ 1 ∨ (parseHdr ((dataF 6).set 17
      3#8)).sender ≠ 7 ∨ (parseHdr ((dataF 6).set 17 3#8)).cycle ≠ (st 1).maCycle ∨ ((dataF 6).set 17 3#8).length + 4 ≠ ((st 1).slotOf (0 / 2)
      1).len)) ∧
    ((st 2).timeState ≠ 0 ∧ (st 2).portTakes 0 = true ∧ (st 2).bit (pkMa (0 / 2)) MA_CFG_RING = true ∧ (st 2).hdrFits (dataF 6) = true ∧ (parseHdr
      (dataF 6)).typ = 0 ∧ (parseHdr (dataF 6)).ch = 0 / 2 ∧ (parseHdr (dataF 6)).cycle = (st 2).maCycle ∧ (parseHdr (dataF 6)).slot = (parseHdr
      (dataF 6)).slot ∧ (dataF 6).length + 4 = ((st 2).slotOf (0 / 2) (parseHdr (dataF 6)).slot).len ∧ 64 * (0 / 2) + (parseHdr (dataF 6)).slot ∈
      (st 2).ma.accepted ∧ (st 2).window 0 (cs0 + 200 * 1600 + 5000) = Win.slot (parseHdr (dataF 6)).slot 7 ∧ (parseHdr (dataF 6)).sender = 7) ∧
    ((st 1).timeState ≠ 0 ∧ (st 1).memOk ∧ (st 1).portTakes 0 = true ∧ (st 1).running (pkMa (0 / 2)) = true ∧ (st 1).hdrFits (dataF 6) = true ∧
      (parseHdr (dataF 6)).typ = 0 ∧ (parseHdr (dataF 6)).ch = 0 / 2 ∧ (parseHdr (dataF 6)).cycle = (st 1).maCycle ∧ (parseHdr (dataF 6)).npdu = 1 ∧
      bitN (beAt (dataF 6) 31 1) 0 = false ∧ 38 + beAt (dataF 6) 28 2 ≤ (dataF 6).length ∧ beAt (dataF 6) (34 + beAt (dataF 6) 28 2) 4 = BitVec.toNat
      (crc32c (List.take (8 + beAt (dataF 6) 28 2) (List.drop 26 (dataF 6)))) ∧ (parseHdr (dataF 6)).slot = (parseHdr (dataF 6)).slot ∧ (dataF
      6).length + 4 = ((st 1).slotOf (0 / 2) (parseHdr (dataF 6)).slot).len ∧ ((st 1).bit (pkMa (0 / 2)) MA_CFG_RING = false ∨ ¬64 * (0 / 2) +
      (parseHdr (dataF 6)).slot ∈ (st 1).ma.accepted) ∧ (st 1).window 0 (cs0 + 200 * 1600 + 5000) = Win.slot (parseHdr (dataF 6)).slot 7 ∧ (parseHdr
      (dataF 6)).sender = 7 ∧ List.find? (fun i => fget BTH_BERTH0_DATA_ID ((st 1).berth0 i) == beAt (dataF 6) 26 2 && fget BTH_BERTH1_DLEN
      ((st 1).berth1 i) == beAt (dataF 6) 28 2) ((st 1).slotBerths ((st 1).contentOf (0 / 2) (parseHdr (dataF 6)).slot).fst ((st 1).contentOf (0 / 2)
      (parseHdr (dataF 6)).slot).snd false) = some 0) ∧
    ((st 1).timeState ≠ 0 ∧ (st 1).memOk ∧ (st 1).portTakes 0 = true ∧ (st 1).running (pkMa (0 / 2)) = true ∧ (st 1).hdrFits (dataF 6) = true ∧
      (parseHdr (dataF 6)).typ = 0 ∧ (parseHdr (dataF 6)).ch = 0 / 2 ∧ (parseHdr (dataF 6)).cycle = (st 1).maCycle ∧ (parseHdr (dataF 6)).npdu = 1 ∧
      bitN (beAt (dataF 6) 31 1) 0 = false ∧ 38 + beAt (dataF 6) 28 2 ≤ (dataF 6).length ∧ beAt (dataF 6) (34 + beAt (dataF 6) 28 2) 4 = BitVec.toNat
      (crc32c (List.take (8 + beAt (dataF 6) 28 2) (List.drop 26 (dataF 6)))) ∧ (parseHdr (dataF 6)).slot = (parseHdr (dataF 6)).slot ∧ (dataF
      6).length + 4 = ((st 1).slotOf (0 / 2) (parseHdr (dataF 6)).slot).len ∧ ((st 1).bit (pkMa (0 / 2)) MA_CFG_RING = false ∨ ¬64 * (0 / 2) +
      (parseHdr (dataF 6)).slot ∈ (st 1).ma.accepted) ∧ (st 1).window 0 (cs0 + 200 * 1600 + 5000) = Win.slot (parseHdr (dataF 6)).slot 7 ∧ (parseHdr
      (dataF 6)).sender = 7 ∧ 7 = (parseHdr (dataF 6)).sender ∧ List.find? (fun i => fget BTH_BERTH0_DATA_ID ((st 1).berth0 i) == beAt (dataF 6) 26 2
      && fget BTH_BERTH1_DLEN ((st 1).berth1 i) == beAt (dataF 6) 28 2) ((st 1).slotBerths ((st 1).contentOf (0 / 2) (parseHdr (dataF 6)).slot).fst
      ((st 1).contentOf (0 / 2) (parseHdr (dataF 6)).slot).snd false) = some 0) ∧
    ((st 1).timeState ≠ 0 ∧ (st 1).memOk ∧ (st 1).portTakes 0 = true ∧ (st 1).running (pkMa (0 / 2)) = true ∧ (st 1).hdrFits (dataF 6) = true ∧
      (parseHdr (dataF 6)).typ = 0 ∧ (parseHdr (dataF 6)).ch = 0 / 2 ∧ (parseHdr (dataF 6)).cycle = (st 1).maCycle ∧ (parseHdr (dataF 6)).npdu = 1 ∧
      bitN (beAt (dataF 6) 31 1) 0 = false ∧ 38 + beAt (dataF 6) 28 2 ≤ (dataF 6).length ∧ beAt (dataF 6) (34 + beAt (dataF 6) 28 2) 4 = BitVec.toNat
      (crc32c (List.take (8 + beAt (dataF 6) 28 2) (List.drop 26 (dataF 6)))) ∧ (tmem (st 1).ma.lastCnt (beAt (dataF 6) 26 2) = false ∨ 1 ≤ (beAt
      (dataF 6) 30 1 + 256 - tget 0 (st 1).ma.lastCnt (beAt (dataF 6) 26 2)) % 256 ∧ (beAt (dataF 6) 30 1 + 256 - tget 0 (st 1).ma.lastCnt (beAt
      (dataF 6) 26 2)) % 256 ≤ 127) ∧ (parseHdr (dataF 6)).slot = (parseHdr (dataF 6)).slot ∧ (dataF 6).length + 4 = ((st 1).slotOf (0 / 2) (parseHdr
      (dataF 6)).slot).len ∧ ((st 1).bit (pkMa (0 / 2)) MA_CFG_RING = false ∨ ¬64 * (0 / 2) + (parseHdr (dataF 6)).slot ∈ (st 1).ma.accepted) ∧
      (st 1).window 0 (cs0 + 200 * 1600 + 5000) = Win.slot (parseHdr (dataF 6)).slot 7 ∧ (parseHdr (dataF 6)).sender = 7 ∧ List.find? (fun i => fget
      BTH_BERTH0_DATA_ID ((st 1).berth0 i) == beAt (dataF 6) 26 2 && fget BTH_BERTH1_DLEN ((st 1).berth1 i) == beAt (dataF 6) 28 2) ((st 1).slotBerths
      ((st 1).contentOf (0 / 2) (parseHdr (dataF 6)).slot).fst ((st 1).contentOf (0 / 2) (parseHdr (dataF 6)).slot).snd false) = some 0 ∧
      ((st 1).berth 0).doneNow = false ∧ (0 < (st 1).berthAddr 0 !((st 1).berth 0).buf ∨ ((st 1).berthAddr 0 !((st 1).berth 0).buf) + beAt (dataF 6)
      28 2 ≤ 0)) ∧
    ((st 4).timeState ≠ 0 ∧ (st 4).memOk ∧ (st 4).portTakes 0 = true ∧ (st 4).running (pkMa (0 / 2)) = true ∧ (st 4).hdrFits (dataF 6) = true ∧
      (parseHdr (dataF 6)).typ = 0 ∧ (parseHdr (dataF 6)).ch = 0 / 2 ∧ (parseHdr (dataF 6)).cycle = (st 4).maCycle ∧ (parseHdr (dataF 6)).npdu = 1 ∧
      bitN (beAt (dataF 6) 31 1) 0 = false ∧ 38 + beAt (dataF 6) 28 2 ≤ (dataF 6).length ∧ beAt (dataF 6) (34 + beAt (dataF 6) 28 2) 4 = BitVec.toNat
      (crc32c (List.take (8 + beAt (dataF 6) 28 2) (List.drop 26 (dataF 6)))) ∧ (tmem (st 4).ma.lastCnt (beAt (dataF 6) 26 2) = false ∨ 1 ≤ (beAt
      (dataF 6) 30 1 + 256 - tget 0 (st 4).ma.lastCnt (beAt (dataF 6) 26 2)) % 256 ∧ (beAt (dataF 6) 30 1 + 256 - tget 0 (st 4).ma.lastCnt (beAt
      (dataF 6) 26 2)) % 256 ≤ 127) ∧ tmem (st 4).ma.lastCnt (beAt (dataF 6) 26 2) = true ∧ (parseHdr (dataF 6)).slot = (parseHdr (dataF 6)).slot ∧
      (dataF 6).length + 4 = ((st 4).slotOf (0 / 2) (parseHdr (dataF 6)).slot).len ∧ ((st 4).bit (pkMa (0 / 2)) MA_CFG_RING = false ∨ ¬64 * (0 / 2) +
      (parseHdr (dataF 6)).slot ∈ (st 4).ma.accepted) ∧ (st 4).window 0 (cs0 + 200 * 1600 + 5000) = Win.slot (parseHdr (dataF 6)).slot 7 ∧ (parseHdr
      (dataF 6)).sender = 7 ∧ List.find? (fun i => fget BTH_BERTH0_DATA_ID ((st 4).berth0 i) == beAt (dataF 6) 26 2 && fget BTH_BERTH1_DLEN
      ((st 4).berth1 i) == beAt (dataF 6) 28 2) ((st 4).slotBerths ((st 4).contentOf (0 / 2) (parseHdr (dataF 6)).slot).fst ((st 4).contentOf (0 / 2)
      (parseHdr (dataF 6)).slot).snd false) = some 0 ∧ ((st 4).berth 0).doneNow = false) ∧
    ((st 5).timeState ≠ 0 ∧ (st 5).memOk ∧ (st 5).portTakes 0 = true ∧ (st 5).running (pkMa (0 / 2)) = true ∧ (st 5).hdrFits (dataF 6) = true ∧
      (parseHdr (dataF 6)).typ = 0 ∧ (parseHdr (dataF 6)).ch = 0 / 2 ∧ (parseHdr (dataF 6)).cycle = (st 5).maCycle ∧ (parseHdr (dataF 6)).npdu = 1 ∧
      bitN (beAt (dataF 6) 31 1) 0 = false ∧ 38 + beAt (dataF 6) 28 2 ≤ (dataF 6).length ∧ beAt (dataF 6) (34 + beAt (dataF 6) 28 2) 4 = BitVec.toNat
      (crc32c (List.take (8 + beAt (dataF 6) 28 2) (List.drop 26 (dataF 6)))) ∧ tmem (st 5).ma.lastCnt (beAt (dataF 6) 26 2) = true ∧ (beAt (dataF 6)
      30 1 + 256 - tget 0 (st 5).ma.lastCnt (beAt (dataF 6) 26 2)) % 256 = 0 ∧ (parseHdr (dataF 6)).slot = (parseHdr (dataF 6)).slot ∧ (dataF
      6).length + 4 = ((st 5).slotOf (0 / 2) (parseHdr (dataF 6)).slot).len ∧ ((st 5).bit (pkMa (0 / 2)) MA_CFG_RING = false ∨ ¬64 * (0 / 2) +
      (parseHdr (dataF 6)).slot ∈ (st 5).ma.accepted) ∧ (st 5).window 0 (cs0 + 200 * 1600 + 5000) = Win.slot (parseHdr (dataF 6)).slot 7 ∧ (parseHdr
      (dataF 6)).sender = 7 ∧ List.find? (fun i => fget BTH_BERTH0_DATA_ID ((st 5).berth0 i) == beAt (dataF 6) 26 2 && fget BTH_BERTH1_DLEN
      ((st 5).berth1 i) == beAt (dataF 6) 28 2) ((st 5).slotBerths ((st 5).contentOf (0 / 2) (parseHdr (dataF 6)).slot).fst ((st 5).contentOf (0 / 2)
      (parseHdr (dataF 6)).slot).snd false) = some 0) ∧
    ((st 4).timeState ≠ 0 ∧ (st 4).memOk ∧ (st 4).portTakes 0 = true ∧ (st 4).running (pkMa (0 / 2)) = true ∧ (st 4).hdrFits (dataF 200) = true ∧
      (parseHdr (dataF 200)).typ = 0 ∧ (parseHdr (dataF 200)).ch = 0 / 2 ∧ (parseHdr (dataF 200)).cycle = (st 4).maCycle ∧ (parseHdr (dataF 200)).npdu
      = 1 ∧ bitN (beAt (dataF 200) 31 1) 0 = false ∧ 38 + beAt (dataF 200) 28 2 ≤ (dataF 200).length ∧ beAt (dataF 200) (34 + beAt (dataF 200) 28 2) 4
      = BitVec.toNat (crc32c (List.take (8 + beAt (dataF 200) 28 2) (List.drop 26 (dataF 200)))) ∧ tmem (st 4).ma.lastCnt (beAt (dataF 200) 26 2) =
      true ∧ 128 ≤ (beAt (dataF 200) 30 1 + 256 - tget 0 (st 4).ma.lastCnt (beAt (dataF 200) 26 2)) % 256 ∧ (parseHdr (dataF 200)).slot = (parseHdr
      (dataF 200)).slot ∧ (dataF 200).length + 4 = ((st 4).slotOf (0 / 2) (parseHdr (dataF 200)).slot).len ∧ ((st 4).bit (pkMa (0 / 2)) MA_CFG_RING =
      false ∨ ¬64 * (0 / 2) + (parseHdr (dataF 200)).slot ∈ (st 4).ma.accepted) ∧ (st 4).window 0 (cs0 + 200 * 1600 + 5000) = Win.slot (parseHdr
      (dataF 200)).slot 7 ∧ (parseHdr (dataF 200)).sender = 7 ∧ List.find? (fun i => fget BTH_BERTH0_DATA_ID ((st 4).berth0 i) == beAt (dataF 200) 26
      2 && fget BTH_BERTH1_DLEN ((st 4).berth1 i) == beAt (dataF 200) 28 2) ((st 4).slotBerths ((st 4).contentOf (0 / 2) (parseHdr (dataF
      200)).slot).fst ((st 4).contentOf (0 / 2) (parseHdr (dataF 200)).slot).snd false) = some 0) ∧
    ((st 0).portOn 3 = true ∧ ((st 0).st (pkPort 3) = PageSt.idle ∨ (st 0).st (pkPort 3) = PageSt.run) ∧ 0 ≠ pkPort 3) ∧
    ((st 0).linkUp 3 = true ∧ 0 ≠ pkPort 3) ∧
    ((st 6).timeState ≠ 0 ∧ (st 6).portTakes 0 = true ∧ (st 6).portMaster 0 = true ∧ ((st 6).mport 0).ldCount = 0 ∧ ((st 6).mport 0).t1 = some
      17000000 ∧ (st 6).inLeadSlot (cs0 + 16000000 - 344000) = true ∧ 0 ≤ cs0 + 16000000 - 344000 - 17000000 - 144000 ∧ (st 6).hdrFits (leadF 7 1 33)
      = true ∧ (parseHdr (leadF 7 1 33)).typ = 3 ∧ (parseHdr (leadF 7 1 33)).ch = 0 / 2 ∧ (parseHdr (leadF 7 1 33)).npdu = 0 ∧ (leadF 7 1 33).length =
      76 ∧ (((st 6).mport 0).neigh = none ∨ ((st 6).mport 0).neigh = some (parseHdr (leadF 7 1 33)).sender) ∧ beAt (leadF 7 1 33) 35 1 % 4 = 1) ∧
    ((st 6).timeState ≠ 0 ∧ (st 6).portTakes 0 = true ∧ (st 6).portMaster 0 = true ∧ (st 6).inLeadSlot (cs0 + 16000000 - 344000) = true ∧
      (st 6).hdrFits (leadF 7 0 33) = true ∧ (parseHdr (leadF 7 0 33)).typ = 3 ∧ (parseHdr (leadF 7 0 33)).ch = 0 / 2 ∧ (parseHdr (leadF 7 0 33)).npdu
      = 0 ∧ (leadF 7 0 33).length = 76 ∧ (((st 6).mport 0).neigh = none ∨ ((st 6).mport 0).neigh = some (parseHdr (leadF 7 0 33)).sender) ∧ beAt
      (leadF 7 0 33) 35 1 % 4 = 0) ∧
    ((st 1).timeState ≠ 0 ∧ (st 1).portTakes 0 = true ∧ (st 1).portMaster 0 = false ∧ (st 1).inLeadSlot (cs0 + 16000000 - 344000) = true ∧
      (st 1).hdrFits (leadF 7 0 33) = true ∧ (parseHdr (leadF 7 0 33)).typ = 3 ∧ (parseHdr (leadF 7 0 33)).ch = 0 / 2 ∧ (parseHdr (leadF 7 0 33)).npdu
      = 0 ∧ (leadF 7 0 33).length = 76 ∧ (((st 1).mport 0).neigh = none ∨ ((st 1).mport 0).neigh = some (parseHdr (leadF 7 0 33)).sender) ∧ beAt
      (leadF 7 0 33) 35 1 % 4 = 0) ∧
    ((st 1).timeState ≠ 0 ∧ (st 1).portTakes 0 = true ∧ (st 1).inLeadSlot (cs0 + 16000000 - 344000) = true ∧ (st 1).hdrFits (leadF 7 1 33) = true ∧
      (parseHdr (leadF 7 1 33)).typ = 3 ∧ (parseHdr (leadF 7 1 33)).ch = 0 / 2 ∧ (parseHdr (leadF 7 1 33)).npdu = 0 ∧ (leadF 7 1 33).length = 76 ∧
      (((st 1).mport 0).neigh = none ∨ ((st 1).mport 0).neigh = some (parseHdr (leadF 7 1 33)).sender) ∧ 0 ≠ pkPort 0 ∧ 0 ≠ pkMa (0 / 2)) ∧
    ((st 6).timeState ≠ 0 ∧ (st 6).portTakes 0 = true ∧ (st 6).portMaster 0 = true) ∧
    ((st 1).timeState ≠ 0 ∧ ((st 1).portTakes 0 = false ∨ (st 1).portMaster 0 = false)) ∧
    ((st 7).timeState ≠ 0 ∧ (st 7).portTakes 0 = true ∧ (st 7).portMaster 0 = false ∧ ((st 7).mport 0).t2.isSome = true) ∧
    ((st 1).timeState ≠ 0 ∧ (st 1).portTakes 0 = true ∧ (st 1).portMaster 0 = false ∧ ((st 1).mport 0).t2 = none) :=
  ⟨by decide, by decide, by decide, by decide, by decide, by decide,
    (by unfold State.memOk; decide), (by unfold State.memOk; decide), (by unfold State.memOk; decide), (by unfold State.memOk; decide), (by unfold State.memOk; decide), (by unfold State.memOk; decide),
    by decide, by decide, by decide, by decide, by decide, by decide,
    by decide, by decide, by decide, by decide⟩
end W16a

namespace W16b
def slotW (en : Bool) (sender start guard len src : Nat) : Nat × Nat := (b2n en * 2^31 + sender * 2^24 + start, guard * 2^24 + src * 2^16 + len)
def setSlot (t e : Nat) (w : Nat × Nat) (s : State) : State := (s.setReg pkMs (0x800 + 8 * (64 * t + e)) (BitVec.ofNat 32 w.1)).setReg pkMs (0x804 + 8 * (64 * t + e)) (BitVec.ofNat 32 w.2)
/-- berth b: en dir ch slot id base dlen -/
def setBth (b : Nat) (en dir ch slot id base dlen : Nat) (s : State) : State := (s.setReg pkBth (0x800 + 8 * b) (BitVec.ofNat 32 (en * 2^31 + dir * 2^30 + ch * 2^29 + slot * 2^22 + id))).setReg pkBth (0x804 + 8 * b) (BitVec.ofNat 32 (base * 65536 + dlen))
def cs0 : Int := 1600000
def net0 : State :=
  let s := witSt pkMs .run (witSt (pkMa 0) .run (witSt (pkMa 1) .run (witSt pkBth .run State.reset)))
  let s := (List.range 4).foldl (fun s p => (witSt (pkPort p) .run s).setBit (pkPort p) PORT_STAT_LINK true) s
  let s := (List.range 2).foldl (fun s c => s.setFld (pkMa c) MA_CFG_PORTS 3) s
  let s := (s.setFld pkMs MS_NODE_ID 3).setFld pkMs MS_SCHED_CYCLE 1000
  let s := (((s.setBit pkMs MS_TIME_CFG_CS_V1 true).setFld pkMs MS_TIME_CFG_CS_ID1 7).setBit pkMs MS_TIME_CFG_CS_V2 true).setFld pkMs MS_TIME_CFG_CS_ID2 3
  let s := (s.setBit pkMs MS_TIME_CFG_CS_V3 true).setFld pkMs MS_TIME_CFG_CS_ID3 9
  let s := [0, 1, 2, 3].foldl (fun s t => setSlot t 0 (slotW true 0 10 20 64 0) (setSlot t 1 (slotW true 7 200 20 200 (1 + 128 * (t % 2))) (setSlot t 2 (slotW true 3 400 20 150 (2 + 128 * (t % 2))) s))) s
  let s := setBth 0 1 0 0 1 0x1234 0 8 (setBth 5 1 1 0 2 0x777 100 12 (setBth 9 1 1 1 2 0x888 200 12 (setBth 255 1 1 0 3 0x999 300 4 s)))
  let s := s.setWord pkMs MS_CYCLE 55#32
  s.setMa { s.ma with cycStart := cs0, tm := 1600000 * 2^28 + 12345 }
def tst (n : Nat) (s : State) : State := s.setFld pkMs MS_TSTAT_STATE n
def paths (s : State) : State := (List.range 4).foldl (fun s p => (List.range 32).foldl (fun s n => s.setWord (pkPort p) (PORT_PATH.ix n) 5000#32) s) s
def as (n : Nat) (s : State) : State := s.setFld pkMs MS_NODE_ID n
def timeF (who typ cs rank cyc : Nat) : List Byte := ((as who net0).setWord pkMs MS_CYCLE (BitVec.ofNat 32 cyc)).mkFrame typ 0 0 0 (beBytes cs 8 ++ [BitVec.ofNat 8 rank]) 64
def prt (p : Nat) (x : MPort) (s : State) : State := s.setMport p x
def nb (s : State) : State := prt 0 { neigh := some 7 } (prt 1 { neigh := some 9 } s)
def st : Nat → State
  | 0 => nb net0
  | 1 => tst 1 net0
  | 2 => tst 3 (paths net0)
  | 3 => (tst 3 (paths net0)).setFld pkMs MS_TSTAT_OVER 2
  | 4 => (tst 3 (paths net0)).setBit pkMs MS_TSTAT_PH true
  | _ => (tst 4 net0).setFld pkMs MS_TSTAT_MISS 15

set_option maxRecDepth 40000 in
/-- States and operands that meet the hypotheses of MauloTimeStates, clause by clause. -/
theorem test_meets_MauloTimeStates :
    ((st 0).timeState = 0 ∧ (st 0).listenHeld = false ∧ (st 0).portTakes 0 = true ∧ ((st 0).mport 0).neigh = some (parseHdr (timeF 7 1 100000 1
      55)).sender ∧ (st 0).timeFrameRank (0 / 2) 1 (timeF 7 1 100000 1 55) = some 1) ∧
    ((st 0).timeState = 0 ∧ (st 0).listenHeld = false ∧ (st 0).portTakes 0 = true ∧ ((st 0).mport 0).neigh = some (parseHdr (timeF 7 2 100000 1
      0)).sender ∧ (st 0).timeFrameRank (0 / 2) 2 (timeF 7 2 100000 1 0) = some 1) ∧
    (((st 2).timeState = 3 ∨ (st 2).timeState = 4) ∧ (st 2).pierHead = false ∧ (st 2).ma.synced = false ∧ 0 < (st 2).cycleUs ∧ (st 2).portTakes 0 =
      true ∧ (st 2).bit (pkMa (0 / 2)) MA_CFG_RING = false ∧ (st 2).window 0 (cs0 + 10 * 1600 + 5000) = Win.slot 0 7 ∧ (st 2).syncWindow 0 (parseHdr
      (timeF 7 1 100000 1 55)).sender (cs0 + 10 * 1600 + 5000) = Win.slot 0 7 ∧ (st 2).timeFrameRank (0 / 2) 1 (timeF 7 1 100000 1 55) = some 1 ∧
      (st 2).path 0 (parseHdr (timeF 7 1 100000 1 55)).sender = some 5000 ∧ (if 400 * ↑(if ((st 2).planSingle == (parseHdr (timeF 7 1 100000 1
      55)).plan) = true then (st 2) else (st 2).setPlan (parseHdr (timeF 7 1 100000 1 55)).plan).gmin < ↑(cs0 + 10 * 1600 + 5000 - 16 * ↑(beAt (timeF
      7 1 100000 1 55) 26 8) - ↑5000).natAbs then min 3 ((st 2).fld pkMs MS_TSTAT_OVER + 1) else 0) < 3) ∧
    (((st 3).timeState = 3 ∨ (st 3).timeState = 4) ∧ (st 3).pierHead = false ∧ (st 3).ma.synced = false ∧ 0 < (st 3).cycleUs ∧ (st 3).portTakes 0 =
      true ∧ (st 3).bit (pkMa (0 / 2)) MA_CFG_RING = false ∧ (st 3).window 0 (cs0 + 10 * 1600 + 5000) = Win.slot 0 7 ∧ (st 3).syncWindow 0 (parseHdr
      (timeF 7 1 100000 1 55)).sender (cs0 + 10 * 1600 + 5000) = Win.slot 0 7 ∧ (st 3).timeFrameRank (0 / 2) 1 (timeF 7 1 100000 1 55) = some 1 ∧
      (st 3).path 0 (parseHdr (timeF 7 1 100000 1 55)).sender = some 5000 ∧ (if 400 * ↑(if ((st 3).planSingle == (parseHdr (timeF 7 1 100000 1
      55)).plan) = true then (st 3) else (st 3).setPlan (parseHdr (timeF 7 1 100000 1 55)).plan).gmin < ↑(cs0 + 10 * 1600 + 5000 - 16 * ↑(beAt (timeF
      7 1 100000 1 55) 26 8) - ↑5000).natAbs then min 3 ((st 3).fld pkMs MS_TSTAT_OVER + 1) else 0) = 3) ∧
    ((st 4).timeState = 3 ∧ (st 4).pierHead = true ∧ (st 4).csRank (st 4).nodeId = some 2 ∧ (st 4).portTakes 0 = true ∧ (st 4).window 0 (cs0 + 10 *
      1600 + 5000) = Win.slot 0 7 ∧ (st 4).syncWindow 0 (parseHdr (timeF 7 1 100000 1 55)).sender (cs0 + 10 * 1600 + 5000) = Win.slot 0 7 ∧
      (st 4).timeFrameRank (0 / 2) 1 (timeF 7 1 100000 1 55) = some 1) ∧
    ((st 1).timeState = 1 ∧ (st 1).csRank (st 1).nodeId = some 2 ∧ (st 1).portTakes 0 = true ∧ (st 1).timeFrameRank (0 / 2) 1 (timeF 7 1 100000 1 55)
      = some 1) ∧
    ((st 1).timeState = 1 ∧ (st 1).csRank (st 1).nodeId = some 2 ∧ (st 1).portTakes 0 = true ∧ (st 1).timeFrameRank (0 / 2) 2 (timeF 7 2 100000 1 0) =
      some 1 ∧ (1 < 2 ∨ 1 = 2 ∧ (parseHdr (timeF 7 2 100000 1 0)).sender < (st 1).nodeId)) ∧
    ((st 1).timeState = 1 ∧ (st 1).csRank (st 1).nodeId = some 2 ∧ (st 1).portTakes 0 = true ∧ (st 1).timeFrameRank (0 / 2) 2 (timeF 9 2 100000 3 0) =
      some 3) ∧
    ((st 0).timeState = 0 ∧ ((st 0).csRank (st 0).nodeId).isSome = true ∧ (st 0).listenHeld = false ∧ (∃ p, p < 4 ∧ (st 0).linkUp p = true) ∧
      (st 0).chanUp 1 = true) ∧
    ((st 5).timeState = 4 ∧ (st 5).fld pkMs MS_TIME_CFG_HOLD ≤ (st 5).fld pkMs MS_TSTAT_MISS ∧ (st 5).running (pkMa 1) = true) ∧
    (((st 5).timeState = 3 ∨ (st 5).timeState = 4) ∧ (st 5).pierHead = false ∧ (st 5).csRank (st 5).nodeId = some 2 ∧ 4 + (st 5).betterRanked 2 ≤
      (st 5).fld pkMs MS_TSTAT_MISS) ∧
    (((st 2).timeState = 3 ∨ (st 2).timeState = 4) ∧ (st 2).pierHead = false ∧ (st 2).csRank (st 2).nodeId = some 2 ∧ (st 2).fld pkMs MS_TSTAT_MISS <
      4 + (st 2).betterRanked 2) ∧
    ((st 4).pierHead = true) ∧
    ((st 0).pierHead = false) :=
  ⟨by decide, by decide, by decide, by decide, by decide, by decide,
    by decide, by decide, by decide, by decide, by decide, by decide,
    by decide, by decide⟩
end W16b

namespace W16c
def slotW (en : Bool) (sender start guard len src : Nat) : Nat × Nat := (b2n en * 2^31 + sender * 2^24 + start, guard * 2^24 + src * 2^16 + len)
def setSlot (t e : Nat) (w : Nat × Nat) (s : State) : State := (s.setReg pkMs (0x800 + 8 * (64 * t + e)) (BitVec.ofNat 32 w.1)).setReg pkMs (0x804 + 8 * (64 * t + e)) (BitVec.ofNat 32 w.2)
/-- berth b: en dir ch slot id base dlen -/
def setBth (b : Nat) (en dir ch slot id base dlen : Nat) (s : State) : State := (s.setReg pkBth (0x800 + 8 * b) (BitVec.ofNat 32 (en * 2^31 + dir * 2^30 + ch * 2^29 + slot * 2^22 + id))).setReg pkBth (0x804 + 8 * b) (BitVec.ofNat 32 (base * 65536 + dlen))
def cs0 : Int := 1600000
def net0 : State :=
  let s := witSt pkMs .run (witSt (pkMa 0) .run (witSt (pkMa 1) .run (witSt pkBth .run State.reset)))
  let s := (List.range 4).foldl (fun s p => (witSt (pkPort p) .run s).setBit (pkPort p) PORT_STAT_LINK true) s
  let s := (List.range 2).foldl (fun s c => s.setFld (pkMa c) MA_CFG_PORTS 3) s
  let s := (s.setFld pkMs MS_NODE_ID 3).setFld pkMs MS_SCHED_CYCLE 1000
  let s := (((s.setBit pkMs MS_TIME_CFG_CS_V1 true).setFld pkMs MS_TIME_CFG_CS_ID1 7).setBit pkMs MS_TIME_CFG_CS_V2 true).setFld pkMs MS_TIME_CFG_CS_ID2 3
  let s := (s.setBit pkMs MS_TIME_CFG_CS_V3 true).setFld pkMs MS_TIME_CFG_CS_ID3 9
  let s := [0, 1, 2, 3].foldl (fun s t => setSlot t 0 (slotW true 0 10 20 64 0) (setSlot t 1 (slotW true 7 200 20 200 (1 + 128 * (t % 2))) (setSlot t 2 (slotW true 3 400 20 150 (2 + 128 * (t % 2))) s))) s
  let s := setBth 0 1 0 0 1 0x1234 0 8 (setBth 5 1 1 0 2 0x777 100 12 (setBth 9 1 1 1 2 0x888 200 12 (setBth 255 1 1 0 3 0x999 300 4 s)))
  let s := s.setWord pkMs MS_CYCLE 55#32
  s.setMa { s.ma with cycStart := cs0, tm := 1600000 * 2^28 + 12345 }
def tst (n : Nat) (s : State) : State := s.setFld pkMs MS_TSTAT_STATE n
def paths (s : State) : State := (List.range 4).foldl (fun s p => (List.range 32).foldl (fun s n => s.setWord (pkPort p) (PORT_PATH.ix n) 5000#32) s) s
def ma (f : Maulo → Maulo) (s : State) : State := s.setMa (f s.ma)
def act : State := tst 3 (paths net0)
def bs (s : State) : State := { s with berths := [(0, { valid := true, age := 255, accepted := true, seen := 63 }), (5, { valid := true, fresh := true, cnt := 255 }), (9, { valid := true }), (255, { fresh := true, copies := 65535 })] }
def sw (n : Nat) (s : State) : State := (s.modPage pkMs (fun p => { p with swapPending := true })).setWord pkMs MS_SWAP_AT (BitVec.ofNat 32 n)
def ph (s : State) : State := s.setBit pkMs MS_TSTAT_PH true
def syn (c : Nat) (b : Bool) (s : State) : State := s.setBit (pkMa c) MA_STAT_SYNCED b
def mis (c n : Nat) (s : State) : State := s.setFld (pkMa c) MA_STAT_MISS n
def cl (l : List Nat) (s : State) : State := ma (fun m => { m with closed := l }) s
def st : Nat → State
  | 0 => net0
  | 1 => bs act
  | 2 => bs (ph act)
  | 3 => tst 4 (bs act)
  | 4 => bs (tst 2 net0)
  | 5 => ma (fun m => { m with starts := 3 }) (tst 1 net0)
  | 6 => ma (fun m => { m with cleanNow := true }) ((tst 2 net0).setFld pkMs MS_TSTAT_CLEAN 8)
  | 7 => sw 56 act
  | 8 => cl [1] act
  | 9 => cl [1] (syn 1 true act)
  | 10 => cl [1] (syn 1 true (mis 0 1 act))
  | 11 => cl [1] ((tst 2 net0).setFld pkMs MS_TSTAT_MISS 1)
  | 12 => cl [0] (syn 0 true (syn 1 true act))
  | 13 => ma (fun m => { m with reqSeen := true }) (ph act)
  | 14 => ma (fun m => { m with returnReq := true }) ((ph act).setBit pkMs MS_STAT_PLAN true)
  | _ => ma (fun m => { m with healthy := [7] }) (((ph act).setBit pkMs MS_STAT_PLAN true).setBit pkMs MS_SCHED_AUTO_RETURN true)

set_option maxRecDepth 40000 in
/-- States and operands that meet the hypotheses of MauloCycles, clause by clause. -/
theorem test_meets_MauloCycles :
    (((st 1).timeState = 3 ∨ (st 1).timeState = 4) ∧ (st 1).chanUp 1 = true ∧ (st 1).running (pkMa 1) = true ∧ ((st 1).slotOf 1 2).en = true ∧
      ((st 1).slotOf 1 2).sender = (st 1).nodeId ∧ ((st 1).slotOf 1 2).len = 150 ∧ ↑(((st 1).slotOf 1 2).start * 1600) ≤ cs0 + 400 * 1600 -
      (st 1).ma.cycStart ∧ cs0 + 400 * 1600 - (st 1).ma.cycStart ≤ ↑(((st 1).slotOf 1 2).start * 1600 + 1600) ∧ 9 ∈ (st 1).slotBerths
      ((st 1).contentOf 1 2).fst ((st 1).contentOf 1 2).snd true ∧ ((st 1).berth 9).valid = true) ∧
    ((st 2).timeState = 3 ∧ (st 2).pierHead = true ∧ (st 2).chanUp 1 = true ∧ ((st 2).slotOf 1 0).en = true ∧ ((st 2).slotOf 1 0).len = 64 ∧
      ↑(((st 2).slotOf 1 0).start * 1600) ≤ cs0 + 10 * 1600 - (st 2).ma.cycStart ∧ cs0 + 10 * 1600 - (st 2).ma.cycStart ≤ ↑(((st 2).slotOf 1 0).start
      * 1600 + 1600) ∧ 0 ≤ cs0 + 10 * 1600) ∧
    ((st 0).chanUp 1 = true ∧ (((st 0).slotOf 1 63).en = false ∨ ¬(((st 0).slotOf 1 63).len = 0 ∧ ↑(((st 0).slotOf 1 63).start * 1600) ≤ cs0 + 400 *
      1600 - (st 0).ma.cycStart ∧ cs0 + 400 * 1600 - (st 0).ma.cycStart ≤ ↑(((st 0).slotOf 1 63).start * 1600 + 1600)) ∨ 63 ≠ 0 ∧ ((st 0).slotOf 1
      63).sender ≠ (st 0).nodeId ∨ (st 0).timeState = 0 ∨ (st 0).timeState = 2)) ∧
    (2 ≤ (st 10).timeState ∧ (st 10).pierHead = false ∧ (st 10).chanUp 0 = true ∧ ¬0 ∈ (st 10).ma.closed ∧ 1 - 0 ∈ (st 10).ma.closed ∧ (st 10).bit
      (pkMa 0) MA_STAT_SYNCED = false ∧ (st 10).fld (pkMa 0) MA_STAT_MISS = 1) ∧
    (2 ≤ (st 8).timeState ∧ (st 8).pierHead = false ∧ (st 8).chanUp 0 = true ∧ ¬0 ∈ (st 8).ma.closed ∧ 1 - 0 ∈ (st 8).ma.closed ∧ (st 8).bit (pkMa 0)
      MA_STAT_SYNCED = false ∧ (st 8).fld (pkMa 0) MA_STAT_MISS ≠ 1) ∧
    (2 ≤ (st 8).timeState ∧ (st 8).pierHead = false ∧ (st 8).timeState = 3 ∧ (st 8).chanUp 0 = true ∧ ¬0 ∈ (st 8).ma.closed ∧ 1 - 0 ∈ (st 8).ma.closed
      ∧ (st 8).bit (pkMa 0) MA_STAT_SYNCED = false ∧ (st 8).bit (pkMa (1 - 0)) MA_STAT_SYNCED = false) ∧
    (2 ≤ (st 11).timeState ∧ (st 11).pierHead = false ∧ (st 11).timeState = 2 ∧ 1 ≤ (st 11).fld pkMs MS_TSTAT_MISS ∧ (st 11).chanUp 0 = true ∧ ¬0 ∈
      (st 11).ma.closed ∧ 1 - 0 ∈ (st 11).ma.closed ∧ (st 11).bit (pkMa 0) MA_STAT_SYNCED = false ∧ (st 11).bit (pkMa (1 - 0)) MA_STAT_SYNCED = false) ∧
    (2 ≤ (st 9).timeState ∧ (st 9).pierHead = false ∧ (st 9).chanUp 0 = true ∧ ¬0 ∈ (st 9).ma.closed ∧ 1 - 0 ∈ (st 9).ma.closed ∧ (st 9).bit (pkMa 0)
      MA_STAT_SYNCED = false ∧ (st 9).bit (pkMa (1 - 0)) MA_STAT_SYNCED = true ∧ (st 9).chanUp (1 - 0) = true) ∧
    (2 ≤ (st 12).timeState ∧ (st 12).pierHead = false ∧ (st 12).chanUp 1 = true ∧ ¬1 ∈ (st 12).ma.closed ∧ 1 - 1 ∈ (st 12).ma.closed ∧ (st 12).bit
      (pkMa 1) MA_STAT_SYNCED = true ∧ (st 12).bit (pkMa (1 - 1)) MA_STAT_SYNCED = true ∧ (st 12).chanUp (1 - 1) = true) ∧
    ((st 6).timeState ≠ 0 ∧ ((st 6).page pkMs).swapPending = false ∧ (st 6).timeState = 2 ∧ (st 6).ma.cleanNow = true ∧ 8 ≤ (st 6).fld pkMs
      MS_TSTAT_CLEAN) ∧
    ((st 4).timeState ≠ 0 ∧ ((st 4).page pkMs).swapPending = false ∧ (st 4).timeState = 2 ∧ (st 4).ma.cleanNow = false) ∧
    ((st 5).timeState ≠ 0 ∧ ((st 5).page pkMs).swapPending = false ∧ (st 5).timeState = 1 ∧ 3 ≤ (st 5).ma.starts) ∧
    ((st 3).timeState ≠ 0 ∧ ((st 3).page pkMs).swapPending = false ∧ (st 3).timeState = 4) ∧
    ((st 13).timeState ≠ 0 ∧ ((st 13).page pkMs).swapPending = false ∧ (st 13).timeState = 3 ∧ (st 13).pierHead = true ∧ ((st 13).ma.reqSeen = true ∨
      (st 13).planReq = true)) ∧
    ((st 14).timeState ≠ 0 ∧ ((st 14).page pkMs).swapPending = false ∧ (st 14).timeState = 3 ∧ (st 14).pierHead = true ∧ (st 14).ma.reqSeen = false ∧
      (st 14).planReq = false ∧ (st 14).ma.returnReq = true) ∧
    ((st 15).timeState ≠ 0 ∧ ((st 15).page pkMs).swapPending = false ∧ (st 15).timeState = 3 ∧ (st 15).pierHead = true ∧ (st 15).ma.reqSeen = false ∧
      (st 15).planReq = false ∧ (st 15).bit pkMs MS_SCHED_AUTO_RETURN = true ∧ (∀ c ∈ List.range 2, ∀ e ∈ List.range 64, 0 < e → ((st 15).slotIn
      ((st 15).page pkMs).activeB (2 + c) e).en = true → ((st 15).slotIn ((st 15).page pkMs).activeB (2 + c) e).sender ≠ (st 15).nodeId →
      ((st 15).slotIn ((st 15).page pkMs).activeB (2 + c) e).sender ∈ (st 15).ma.healthy)) ∧
    ((st 2).timeState ≠ 0 ∧ ((st 2).page pkMs).swapPending = false ∧ (st 2).timeState = 3 ∧ (st 2).pierHead = true ∧ (st 2).ma.reqSeen = false ∧
      (st 2).planReq = false ∧ (st 2).ma.returnReq = false ∧ (st 2).bit pkMs MS_SCHED_AUTO_RETURN = false) ∧
    ((st 1).timeState ≠ 0 ∧ ((st 1).page pkMs).swapPending = false ∧ (st 1).pierHead = false) ∧
    ((st 7).timeState ≠ 0 ∧ ((st 7).page pkMs).swapPending = true ∧ (st 7).word pkMs MS_SWAP_AT = (st 7).maCycle + 1#32 ∧ (st 7).pierHead = false) ∧
    (fget BTH_BERTH0_EN ((st 0).berth0 255) = 1 ∧ fget BTH_BERTH0_DIR ((st 0).berth0 255) = 1) ∧
    (fget BTH_BERTH0_EN ((st 1).berth0 255) = 1 ∧ fget BTH_BERTH0_DIR ((st 1).berth0 255) = 1 ∧ ((st 1).berth 255).fresh = true) ∧
    ((fget BTH_BERTH0_EN ((st 0).berth0 254) = 0 ∨ fget BTH_BERTH0_DIR ((st 0).berth0 254) = 0) ∧ 0 ≠ pkBth) :=
  ⟨by decide, by decide, by decide, by decide, by decide, by decide,
    by decide, by decide, by decide, by decide, by decide, by decide,
    by decide, by decide, by decide, by decide, by decide, by decide,
    by decide, by decide, by decide, by decide⟩
end W16c

namespace W18a
def can (c : Can) : State := { (witSt (pkCan 1) .run State.reset).setBit (pkCan 1) CAN_STAT_SYNCED true with can := [(1, c)] }
/-- buffer n: id mask ctl -/
def mb (n id mask ctl : Nat) (s : State) : State := ((s.setWord (pkCan 1) (mbF n 0) (BitVec.ofNat 32 id)).setWord (pkCan 1) (mbF n 1) (BitVec.ofNat 32 mask)).setWord (pkCan 1) (mbF n 2) (BitVec.ofNat 32 ctl)
def rx (n : Nat) (s : State) : State := mb n 0x123 0x7FF 0x80000000 s
def tx (n id : Nat) (s : State) : State := mb n id 0 0xC0000001 s
def off (s : State) : State := (s.setBit (pkCan 1) CAN_STAT_BUS_OFF true).setBit (pkCan 1) CAN_STAT_SYNCED false
def st : Nat → State
  | 0 => can {}
  | 1 => rx 0 (can {})
  | 2 => can { fifo := List.replicate 31 [1#32] }
  | 3 => can { fifo := List.replicate 32 [1#32] }
  | 4 => tx 3 0x100 (tx 5 0x100 (can {}))
  | 5 => off (can {})
  | _ => off (can { recovering := true })

/-- States and operands that meet the hypotheses of CanControllers, clause by clause. -/
theorem test_meets_CanControllers :
    ((st 1).canOnBus 1 = true ∧ (bitN (291#32).toNat 2 = false ∨ (st 1).bit (pkCan 1) CAN_CFG_FD_EN = true) ∧ (st 1).mbMatches 1 0 291#32 = true ∧ (∀
      (m : Nat), m < 0 → (st 1).mbMatches 1 m 291#32 = false)) ∧
    ((st 1).canOnBus 1 = true ∧ (bitN (291#32).toNat 2 = false ∨ (st 1).bit (pkCan 1) CAN_CFG_FD_EN = true) ∧ (st 1).mbMatches 1 0 291#32 = true ∧ (∀
      (m : Nat), m < 0 → (st 1).mbMatches 1 m 291#32 = false) ∧ 31 ≠ pkCan 1) ∧
    ((st 0).canOnBus 1 = true ∧ ((st 0).canOf 1).fifo.length < 32 ∧ (∀ (n : Nat), n < 32 → (st 0).mbMatches 1 n 291#32 = false) ∧ (bitN (291#32).toNat
      2 = false ∨ (st 0).bit (pkCan 1) CAN_CFG_FD_EN = true)) ∧
    ((st 3).canOnBus 1 = true ∧ 32 ≤ ((st 3).canOf 1).fifo.length ∧ (∀ (n : Nat), n < 32 → (st 3).mbMatches 1 n 291#32 = false) ∧ (bitN (291#32).toNat
      2 = false ∨ (st 3).bit (pkCan 1) CAN_CFG_FD_EN = true)) ∧
    ((st 4).canOnBus 1 = true ∧ (st 4).mbWaits 1 3 = true ∧ (∀ (m : Nat), m < 32 → (st 4).mbWaits 1 m = true → canPriority ((st 4).mbWord 1 3 0) <
      canPriority ((st 4).mbWord 1 m 0) ∨ canPriority ((st 4).mbWord 1 3 0) = canPriority ((st 4).mbWord 1 m 0) ∧ 3 ≤ m)) ∧
    ((st 0).canOnBus 1 = true) ∧
    ((st 6).busy (pkCan 1) = true ∧ (st 6).bit (pkCan 1) CAN_STAT_BUS_OFF = true ∧ ((st 6).bit (pkCan 1) CAN_CFG_AUTO_REC = true ∨ ((st 6).canOf
      1).recovering = true)) ∧
    ((st 5).busy (pkCan 1) = true ∧ (st 5).bit (pkCan 1) CAN_STAT_BUS_OFF = true ∧ (st 5).bit (pkCan 1) CAN_CFG_AUTO_REC = false ∧ ((st 5).canOf
      1).recovering = false) ∧
    ((st 0).answers (pkCan 3)) ∧
    ((st 0).answers (pkCan 3) ∧ 31 ≠ pkCan 3) ∧
    (((st 2).canOf 1).fifo = [1#32] :: List.replicate 30 [1#32] ∧ (List.replicate 30 [1#32]).length < 32 ∧ 31 ≠ pkCan 1) :=
  ⟨by decide, by decide, by decide, by decide, by decide, by decide,
    by decide, by decide, (by unfold State.answers; decide), (by unfold State.answers; decide), by decide⟩
end W18a

namespace W18b
def sc (m : Nat) (x : Snd) (s : State) : State := { (((witSt (pkSc 1) .run s).setFld (pkSc 1) SC_MODE_MODE m).setFld (pkSc 1) SC_FRAME_SRC 2).setFld (pkSc 1) SC_FRAME_WIDTH 12 with sc := [(1, x)] }
def spi (j : List SpiJob) (s : State) : State := { (witSt (pkSpi 2) .run s).setFld (pkSpi 2) SPI_CFG_BITS 16 with spi := [(2, { jobs := j })] }
def hst (h : HostPort) : State := { (witSt (pkSpi 5) .run State.reset).setBit (pkSpi 5) SPI_CFG_TARGET true with hostPort := h }
def hi (s : State) : State := { s with pw := { s.pw with tide := .high, kdUp := true } }
def sar (n : Option Nat) (t l : Nat) : State := { ((witSt (pkGa 1) .run State.reset).setFld (pkGa 1) GA_CFG_TRIG t).setFld (pkGa 1) GA_CFG_LAST l with sar := [(1, { next := n })] }
def sup (x : Supply) : State := { (State.reset.setFld pkSup SUP_SS_CTRL_EN 5) with supplies := [(0, x)], pw := { tide := .high, vpre := .good } }
def sent : State := witSt (pkSent 1) .run State.reset
def st : Nat → State
  | 0 => spi [] (sc 5 { first := true } State.reset)
  | 1 => spi [.tx 3#32] (sc 5 {} State.reset)
  | 2 => spi [.poll 1] (sc 5 { frameTs := some 77#32, first := true } State.reset)
  | 3 => spi [.poll 1, .tx 1#32] ((sc 5 { frameTs := some 77#32, first := false, angle := 9 } State.reset).setFld (pkSpi 2) SPI_CHK_V 1)
  | 4 => hst {}
  | 5 => hi (hst {})
  | 6 => hst { access := some (0x20000004#32, none) }
  | 7 => hst { access := some (0#32, none), data := 5#32 }
  | 8 => sar none 0 3
  | 9 => sar (some 3) 0 3
  | 10 => sar (some 2) 2 3
  | 11 => sar none 2 3
  | 12 => sup {}
  | 13 => { sup {} with pw := { tide := .slack } }
  | 14 => sent
  | _ => sent.setBit (pkSent 1) SENT_CFG_SSM_EN false

/-- States and operands that meet the hypotheses of SpiHostSentSarSupplies, clause by clause. -/
theorem test_meets_SpiHostSentSarSupplies :
    ((st 0).scMode 1 = 5 ∧ (st 0).scAlive 1 = true ∧ (st 0).spiSends ((st 0).fld (pkSc 1) SC_FRAME_SRC) = true ∧ ((st 0).spiOf ((st 0).fld (pkSc 1)
      SC_FRAME_SRC)).jobs = []) ∧
    ((st 1).scMode 1 = 5 ∧ (st 1).scAlive 1 = true ∧ (st 1).spiSends ((st 1).fld (pkSc 1) SC_FRAME_SRC) = true ∧ ((st 1).spiOf ((st 1).fld (pkSc 1)
      SC_FRAME_SRC)).jobs ≠ []) ∧
    ((st 0).answers (pkSpi 2) ∧ (st 0).spiSends 2 = true ∧ ((st 0).spiOf 2).jobs = []) ∧
    (((st 1).spiOf 2).jobs = [SpiJob.tx 3#32] ∧ SpiJob.tx 3#32 = SpiJob.tx 3#32) ∧
    (spiCheck ((st 3).fld (pkSpi 2) SPI_CHK_V) ((st 3).fld (pkSpi 2) SPI_CFG_BITS) ((536870916#32).toNat % 2 ^ (st 3).fld (pkSpi 2) SPI_CFG_BITS) =
      false ∧ ((st 3).spiOf 2).jobs = [SpiJob.poll 1, SpiJob.tx 1#32] ∧ SpiJob.poll 1 = SpiJob.poll 1 ∧ (st 3).scMode 1 = 5 ∧ (st 3).scAlive 1 = true
      ∧ ((st 3).snd 1).frameTs = some 77#32) ∧
    ((st 2).bit (pkSpi 2) SPI_CFG_LSB_FIRST = false ∧ spiCheck ((st 2).fld (pkSpi 2) SPI_CHK_V) ((st 2).fld (pkSpi 2) SPI_CFG_BITS)
      ((536870916#32).toNat % 2 ^ (st 2).fld (pkSpi 2) SPI_CFG_BITS) = true ∧ ((st 2).spiOf 2).jobs = [SpiJob.poll 1] ∧ SpiJob.poll 1 = SpiJob.poll 1
      ∧ (st 2).scMode 1 = 5 ∧ (st 2).scAlive 1 = true ∧ ((st 2).snd 1).first = true ∧ ((st 2).snd 1).stopped = false ∧ (st 2).scInv 1 = false ∧
      ((st 2).snd 1).frameTs = some 77#32) ∧
    ((st 4).hostActive = true) ∧
    ((st 4).hostActive = true ∧ (true = true ∨ (st 4).hostPort.access.isSome = true)) ∧
    ((st 5).hostActive = true ∧ (st 5).hostPort.access = none ∧ (st 5).inHigh = true ∧ (st 5).bit (pkSpi 5) SPI_CFG_HOST_WR = false) ∧
    ((st 4).hostActive = true ∧ (st 4).hostPort.access = none ∧ ((st 4).inHigh = false ∨ (st 4).bit (pkSpi 5) SPI_CFG_HOST_WR = true)) ∧
    ((st 6).hostPort.access = some (536870916#32, none) ∧ ((st 6).busRead Initiator.host (536870916#32).toNat 4).snd = BusOut.ok 0#32) ∧
    ((st 7).hostPort.access = some (0#32, none) ∧ ((st 7).busRead Initiator.host (0#32).toNat 4).snd = BusOut.err) ∧
    ((st 14).busy (pkSent 1) = true ∧ (true = false ∨ sentCrc ((st 14).bit (pkSent 1) SENT_CFG_CRC) (nibblesOf 6 (0#24).toNat) ≠ (0#4).toNat)) ∧
    ((∀ (ch : Nat), ch < 12 → (st 15).scMode ch ≠ 4) ∧ (st 15).busy (pkSent 1) = true ∧ (st 15).bit (pkSent 1) SENT_CFG_SSM_EN = false ∧ sentCrc
      ((st 15).bit (pkSent 1) SENT_CFG_CRC) (nibblesOf 6 (0#24).toNat) = (15#4).toNat) ∧
    ((∀ (ch : Nat), ch < 12 → (st 14).scMode ch ≠ 4) ∧ (st 14).busy (pkSent 1) = true ∧ sentCrc ((st 14).bit (pkSent 1) SENT_CFG_CRC) (nibblesOf 6
      (0#24).toNat) = (15#4).toNat ∧ 0 ≠ pkSent 1) ∧
    ((st 14).running (pkSent 1) = true) ∧
    ((st 8).answers (pkGa 1) ∧ (st 8).running (pkGa 1) = true ∧ ((st 8).sarOf 1).next = none ∧ (st 8).fld (pkGa 1) GA_CFG_TRIG = (st 8).fld (pkGa 1)
      GA_CFG_TRIG ∧ (st 8).fld (pkGa 1) GA_CFG_TRIG = 0) ∧
    ((st 9).answers (pkGa 1) ∧ (st 9).running (pkGa 1) = true ∧ (st 9).fld (pkGa 1) GA_CFG_TRIG = (st 9).fld (pkGa 1) GA_CFG_TRIG ∧ (st 9).fld (pkGa
      1) GA_CFG_TRIG = 0 ∧ ((st 9).sarOf 1).next = some 3) ∧
    ((st 11).answers (pkGa 1) ∧ (st 11).running (pkGa 1) = true ∧ ((st 11).sarOf 1).next = none ∧ (st 11).fld (pkGa 1) GA_CFG_TRIG = (st 11).fld (pkGa
      1) GA_CFG_TRIG ∧ 0 < (st 11).fld (pkGa 1) GA_CFG_TRIG) ∧
    ((st 10).answers (pkGa 1) ∧ (st 10).running (pkGa 1) = true ∧ (st 10).fld (pkGa 1) GA_CFG_TRIG = (st 10).fld (pkGa 1) GA_CFG_TRIG ∧ 0 <
      (st 10).fld (pkGa 1) GA_CFG_TRIG ∧ ((st 10).sarOf 1).next = some 2) ∧
    (((st 9).sarOf 1).next = some 3) ∧
    ((st 12).supplyOn 2 = true) ∧
    ((st 0).pw.tide ≠ Tide.slack ∧ (st 0).answers pkSup ∧ bitN (536870916#32).toNat 2 = true) ∧
    ((st 0).pw.tide ≠ Tide.slack ∧ (st 0).answers pkSup ∧ bitN (536870916#32).toNat 3 = false) ∧
    ((st 13).pw.tide = Tide.slack) :=
  ⟨by decide, by decide, (by unfold State.answers; decide), by decide, by decide, by decide,
    by decide, by decide, by decide, by decide, by decide, by decide,
    by decide, by decide, by decide, by decide, (by unfold State.answers; decide), (by unfold State.answers; decide),
    (by unfold State.answers; decide), (by unfold State.answers; decide), by decide, by decide, (by unfold State.answers; decide), (by unfold State.answers; decide),
    by decide⟩
end W18b

namespace W19a
def wgS (f : Watch → Watch) (s : State) : State := s.setWg (f s.wg)
def role (n : Nat) (s : State) : State := s.setFld pkWg WG_STAT_STATE n
def grp (n : Nat) : State :=
  let s := seaOn State.reset
  let s := { s with sea := { s.sea with mf := { s.sea.mf with gsize := n, rank := 1, leeEn := true } }, cyc := 10000000 }
  let s := witSt pkWg .run (witSt pkBol .run (witSt (pkMp 0) .run (witSt (pkMp 1) .run s)))
  let s := (s.setBit (pkMp 0) MP_STAT_LINK true).setBit (pkMp 1) MP_STAT_LINK true
  let s := s.setBit pkSea SEAWALL_STAT_BOL_OUT false
  ((s.setWord pkWg WG_PERIOD 77#32).setWord pkWg WG_CONFIG_SIG 0xABCD#32).setFld pkWg WG_CFG_PERIOD_TICKS 4
def bol (s : State) : State := s.setBit pkSea SEAWALL_STAT_BOL_OUT true
def pRole (i n : Nat) (s : State) : State := s.setFld pkWg (WG_PEER_STAT_STATE.ix i 16) n
def dn (p : Nat) (s : State) : State := s.setBit (pkMp p) MP_STAT_LINK false
def hd (typ src per : Nat) (l : List Byte) : List Byte := [BitVec.ofNat 8 typ, BitVec.ofNat 8 src, 0#8, 0#8] ++ beBytes per 4 ++ l
def ent (e src rule int : Nat) (win : Word) (s : State) : State :=
  (s.setWord pkWg (WG_AGREE.ix e) (fput WG_AGREE_SRC (fput WG_AGREE_RULE (fput WG_AGREE_INT 0#32 int) rule) src)).setWord pkWg (WG_WIN.ix e) win
def raw (r : Nat) (l : List (Nat × Word)) : RawSet := ⟨r, 77#32, l⟩
def wA : Word := 0x3F800000#32
def wB : Word := 0x3F900000#32
def wC : Word := 0x40000000#32
def table (s : State) : State :=
  let s := ent 0 1 0 0 0x3E800000#32 (ent 1 1 1 0 0x3E800000#32 (ent 2 1 2 0 0#32 (ent 3 1 3 0 0#32 (ent 4 6 0 1 0#32 (ent 5 6 1 1 0x4D000000#32 (ent 6 1 3 0 0#32 (ent 7 1 0 0 0#32 s)))))))
  ent 15 1 0 0 0#32 (ent 16 1 1 0 0#32 (ent 17 6 1 1 0#32 (ent 252 1 0 0 0#32 (ent 255 1 0 0 0#32 s))))
def all (v : Word) : List (Nat × Word) := [0,1,2,3,4,5,7,15,16,17,255].map (fun e => (e, v))
def xf (sig st abnd : Nat) (vals : List Nat) (per : Nat) : List Byte := hd 2 2 per (beBytes sig 4 ++ beBytes st 4 ++ [BitVec.ofNat 8 vals.length, BitVec.ofNat 8 abnd] ++ List.replicate 6 0#8 ++ vals.flatMap (fun v => beBytes v 4))
def helF (typ src st sig : Nat) (rdy : Bool) : List Byte := hd typ src 77 (beBytes (st * 2^28 + 2048 * b2n rdy + 5 * 16) 4 ++ beBytes sig 4 ++ beBytes 0 4 ++ beBytes 0 4 ++ beBytes 0xABCD 4)
def tb (own : List (Nat × Word)) (raws : List RawSet) (f : Watch → Watch) (s : State) : State := wgS (fun w => f { w with own := own, raws := raws }) (table s)
def noLee (s : State) : State := { s with sea := { s.sea with mf := { s.sea.mf with leeEn := false } } }
def x0 : Xchk := ⟨0x11#32, 0x22#32, 0, [wA, wB]⟩
def xm (s : State) : State := ((s.setWord (pkCe 0) CE_XMASK 1#32).setWord (pkCe 3) CE_XMASK 2#32)
def step (n : Nat) (s : State) : State := s.setFld pkWg WG_STAT_STEP n
def ow (f : Watch → Watch) (n : Nat) (s : State) : State := xm (pRole 0 5 (role n (wgS (fun w => f { w with ownX := some x0 }) s)))
def snd (l : List Nat) (d : List Nat) (s : State) : State := (wgS (fun w => { w with sending := true, sweep := l, dirty := d }) s).setFld pkWg WG_SNAP_STAT_PHASE 1
def blk : List Byte := (List.range 256).map (fun i => BitVec.ofNat 8 (i + 3))
def st : Nat → State
  | 0 => State.reset
  | 1 => role 1 (dn 0 (dn 1 (grp 2)))
  | 2 => (grp 2)
  | 3 => dn 1 (role 1 (grp 2))
  | 4 => tb (all wA) [] id (noLee (grp 2))
  | 5 => tb (all wA) [raw 2 (all wB)] id (noLee (grp 2))
  | 6 => tb (all wA) [raw 2 (all wB), raw 3 (all wC)] id (grp 3)
  | 7 => (grp 2).setPeer 0 { rawMiss := 7 }
  | 8 => wgS (fun w => { w with frames := [(1, 2, 77#32), (1, 2, 78#32)] }) (grp 2)
  | 9 => ow id 4 (grp 2)
  | 10 => ow id 3 (grp 2)
  | 11 => ow (fun w => { w with caughtUp := true }) 3 (step 62 (grp 2))
  | 12 => pRole 0 4 (ow id 5 (bol (grp 2)))
  | 13 => (bol (role 6 (grp 2))).setBit pkWg WG_STAT_LEE true
  | 14 => (role 1 (grp 2)).setBit pkSea SEAWALL_STAT_BOL_IN0 true
  | _ => snd [0, 1, 4, 0, 1] [4, 9] (grp 2)

set_option maxRecDepth 40000 in
/-- States and operands that meet the hypotheses of WatchFramesAndAgreement, clause by clause. -/
theorem test_meets_WatchFramesAndAgreement :
    ((st 1).mpUp 1 = false ∧ ((st 1).st (pkMp 1) = PageSt.idle ∨ (st 1).st (pkMp 1) = PageSt.run)) ∧
    ((st 2).mpUp 1 = true) ∧
    ((st 1).wgState = 1 ∧ (st 1).gsize = 2 ∧ (st 1).inHigh = true ∧ (st 1).peerUp 0 = false) ∧
    (0 ∈ (st 1).peerList ∧ (st 1).peerUp 0 = false ∧ ((st 1).peer 0).lost = false) ∧
    ((st 2).mpUp 1 = true ∧ (st 2).mpGood 1 1 0 (hd 1 2 77 (List.replicate 32 0#8)) ∧ BitVec.ofNat 32 (beAt (hd 1 2 77 (List.replicate 32 0#8)) 4 4) =
      (st 2).word pkWg WG_PERIOD) ∧
    ((st 2).mpUp 1 = true ∧ (st 2).mpGood 1 1 0 (hd 1 2 78 (List.replicate 32 0#8)) ∧ BitVec.ofNat 32 (beAt (hd 1 2 78 (List.replicate 32 0#8)) 4 4) ≠
      (st 2).word pkWg WG_PERIOD) ∧
    ((st 8).gsize = 2 ∧ (st 8).mpUp 1 = true ∧ beAt (hd 1 2 77 (List.replicate 32 0#8)) 0 1 = 1 ∧ beAt (hd 1 2 77 (List.replicate 32 0#8)) 1 1 / 4 %
      32 = 0 ∧ beAt (hd 1 2 77 (List.replicate 32 0#8)) 2 2 = 0 ∧ 8 ≤ (hd 1 2 77 (List.replicate 32 0#8)).length ∧ (1, beAt (hd 1 2 77 (List.replicate
      32 0#8)) 1 1 % 4, BitVec.ofNat 32 (beAt (hd 1 2 77 (List.replicate 32 0#8)) 4 4)) ∈ (st 8).wg.frames ∧ (st 8).rankPeer (beAt (hd 1 2 77
      (List.replicate 32 0#8)) 1 1 % 4) = some 0) ∧
    ((st 1).running pkWg = true ∧ (128 < 252 ∨ (st 1).sea.mf.leeEn = false) ∧ (fget WG_AGREE_SRC ((st 1).word pkWg (WG_AGREE.ix 128)) = 0 ∨ fget
      WG_AGREE_RULE ((st 1).word pkWg (WG_AGREE.ix 128)) ≠ 3 ∧ (st 1).entrySources 128 = [] ∨ fget WG_AGREE_RULE ((st 1).word pkWg (WG_AGREE.ix 128))
      = 3 ∧ tmem (st 1).wg.own 128 = false)) ∧
    ((st 4).running pkWg = true ∧ (3 < 252 ∨ (st 4).sea.mf.leeEn = false) ∧ fget WG_AGREE_SRC ((st 4).word pkWg (WG_AGREE.ix 3)) ≠ 0 ∧ fget
      WG_AGREE_RULE ((st 4).word pkWg (WG_AGREE.ix 3)) = 3 ∧ tmem (st 4).wg.own 3 = true ∧ tget (0#32) (st 4).wg.own 3 = tget (0#32) (st 4).wg.own 3) ∧
    ((st 4).running pkWg = true ∧ (255 < 252 ∨ (st 4).sea.mf.leeEn = false) ∧ fget WG_AGREE_SRC ((st 4).word pkWg (WG_AGREE.ix 255)) ≠ 0 ∧ fget
      WG_AGREE_RULE ((st 4).word pkWg (WG_AGREE.ix 255)) ≠ 3 ∧ (st 4).entrySources 255 = [wA] ∧ (([] : List Word) = [] ∨ fget WG_AGREE_RULE
      ((st 4).word pkWg (WG_AGREE.ix 255)) = 2)) ∧
    ((st 5).running pkWg = true ∧ (5 < 252 ∨ (st 5).sea.mf.leeEn = false) ∧ fget WG_AGREE_SRC ((st 5).word pkWg (WG_AGREE.ix 5)) ≠ 0 ∧ fget
      WG_AGREE_RULE ((st 5).word pkWg (WG_AGREE.ix 5)) ≠ 3 ∧ fget WG_AGREE_RULE ((st 5).word pkWg (WG_AGREE.ix 5)) < 2 ∧ (st 5).entrySources 5 = [wA,
      wB] ∧ [wB] = [wB] ∧ withinWin (fget WG_AGREE_INT ((st 5).word pkWg (WG_AGREE.ix 5)) == 1) wA wB ((st 5).word pkWg (WG_WIN.ix 5)) = true) ∧
    ((st 5).running pkWg = true ∧ (255 < 252 ∨ (st 5).sea.mf.leeEn = false) ∧ fget WG_AGREE_SRC ((st 5).word pkWg (WG_AGREE.ix 255)) ≠ 0 ∧ fget
      WG_AGREE_RULE ((st 5).word pkWg (WG_AGREE.ix 255)) ≠ 3 ∧ fget WG_AGREE_RULE ((st 5).word pkWg (WG_AGREE.ix 255)) < 2 ∧ (st 5).entrySources 255 =
      [wA, wB] ∧ [wB] = [wB] ∧ withinWin (fget WG_AGREE_INT ((st 5).word pkWg (WG_AGREE.ix 255)) == 1) wA wB ((st 5).word pkWg (WG_WIN.ix 255)) =
      false) ∧
    ((st 6).running pkWg = true ∧ (17 < 252 ∨ (st 6).sea.mf.leeEn = false) ∧ fget WG_AGREE_SRC ((st 6).word pkWg (WG_AGREE.ix 17)) ≠ 0 ∧ fget
      WG_AGREE_RULE ((st 6).word pkWg (WG_AGREE.ix 17)) ≠ 3 ∧ fget WG_AGREE_RULE ((st 6).word pkWg (WG_AGREE.ix 17)) < 2 ∧ (st 6).entrySources 17 =
      [wA, wB, wC] ∧ [wB, wC] = [wB, wC]) ∧
    ((st 7).running pkWg = true ∧ (st 7).gsize = 2 ∧ (∀ (r : RawSet), r ∈ (st 7).wg.raws → (st 7).rankPeer r.rank ≠ some 0) ∧ ((st 7).peer 0).rawMiss
      = 7 ∧ (128 < 252 ∨ (st 7).sea.mf.leeEn = false)) ∧
    ((st 9).gsize = 2 ∧ (st 9).peerRole 0 = 5 ∧ (st 9).wg.departures ≠ 2 ∧ (st 9).wgState = 4 ∧ (st 9).wg.ownX = some ((st 9).wg.ownX.getD { }) ∧
      (st 9).mpGood 0 2 0 (xf 18 34 0 [1065353216, 1066401792] 77) ∧ BitVec.ofNat 32 (beAt (xf 18 34 0 [1065353216, 1066401792] 77) 4 4) = (st 9).word
      pkWg WG_PERIOD ∧ ((st 9).wg.ownX.getD { }).agreeSig ≠ BitVec.ofNat 32 (beAt (xf 18 34 0 [1065353216, 1066401792] 77) 8 4)) ∧
    ((st 9).gsize = 2 ∧ (st 9).peerRole 0 = 5 ∧ (st 9).wg.departures ≠ 2 ∧ (st 9).wgState = 4 ∧ (st 9).wg.ownX = some ((st 9).wg.ownX.getD { }) ∧
      ((st 9).wg.ownX.getD { }).agreeSig = BitVec.ofNat 32 (beAt (xf 17 34 0 [1065353216, 1066401793] 77) 8 4) ∧ (st 9).mpGood 0 2 0 (xf 17 34 0
      [1065353216, 1066401793] 77) ∧ BitVec.ofNat 32 (beAt (xf 17 34 0 [1065353216, 1066401793] 77) 4 4) = (st 9).word pkWg WG_PERIOD ∧ xDiffer
      (st 9).xSlots ((st 9).wg.ownX.getD { })
      { agreeSig := BitVec.ofNat 32 (beAt (xf 17 34 0 [1065353216, 1066401793] 77) 8 4), stateSig := BitVec.ofNat 32 (beAt (xf 17 34 0 [1065353216, 1066401793] 77) 12 4), abnd := beAt (xf 17 34 0 [1065353216, 1066401793] 77) 17 1 % 64, values := List.map (fun j => BitVec.ofNat 32 (beAt (xf 17 34 0 [1065353216, 1066401793] 77) (24 + 4 * j) 4)) (List.range (beAt (xf 17 34 0 [1065353216, 1066401793] 77) 16 1)) }
      = true) ∧
    ((st 9).gsize = 2 ∧ (st 9).peerRole 0 = 5 ∧ (st 9).wg.departures ≠ 2 ∧ (st 9).wgState = 4 ∧ (st 9).wg.ownX = some ((st 9).wg.ownX.getD { }) ∧
      ((st 9).wg.ownX.getD { }).agreeSig = BitVec.ofNat 32 (beAt (xf 17 35 0 [1065353216, 1066401792] 77) 8 4) ∧ (st 9).mpGood 0 2 0 (xf 17 35 0
      [1065353216, 1066401792] 77) ∧ BitVec.ofNat 32 (beAt (xf 17 35 0 [1065353216, 1066401792] 77) 4 4) = (st 9).word pkWg WG_PERIOD ∧ xDiffer
      (st 9).xSlots ((st 9).wg.ownX.getD { })
      { agreeSig := BitVec.ofNat 32 (beAt (xf 17 35 0 [1065353216, 1066401792] 77) 8 4), stateSig := BitVec.ofNat 32 (beAt (xf 17 35 0 [1065353216, 1066401792] 77) 12 4), abnd := beAt (xf 17 35 0 [1065353216, 1066401792] 77) 17 1 % 64, values := List.map (fun j => BitVec.ofNat 32 (beAt (xf 17 35 0 [1065353216, 1066401792] 77) (24 + 4 * j) 4)) (List.range (beAt (xf 17 35 0 [1065353216, 1066401792] 77) 16 1)) }
      = false ∧ ((st 9).wg.ownX.getD { }).stateSig ≠ BitVec.ofNat 32 (beAt (xf 17 35 0 [1065353216, 1066401792] 77) 12 4)) ∧
    ((st 9).gsize = 2 ∧ (st 9).peerRole 0 = 5 ∧ (st 9).wg.departures ≠ 2 ∧ (st 9).wgState = 4 ∧ (st 9).wg.ownX = some ((st 9).wg.ownX.getD { }) ∧
      ((st 9).wg.ownX.getD { }).agreeSig = BitVec.ofNat 32 (beAt (xf 17 34 0 [1065353216, 1066401792] 77) 8 4) ∧ (st 9).mpGood 0 2 0 (xf 17 34 0
      [1065353216, 1066401792] 77) ∧ BitVec.ofNat 32 (beAt (xf 17 34 0 [1065353216, 1066401792] 77) 4 4) = (st 9).word pkWg WG_PERIOD ∧ xDiffer
      (st 9).xSlots ((st 9).wg.ownX.getD { })
      { agreeSig := BitVec.ofNat 32 (beAt (xf 17 34 0 [1065353216, 1066401792] 77) 8 4), stateSig := BitVec.ofNat 32 (beAt (xf 17 34 0 [1065353216, 1066401792] 77) 12 4), abnd := beAt (xf 17 34 0 [1065353216, 1066401792] 77) 17 1 % 64, values := List.map (fun j => BitVec.ofNat 32 (beAt (xf 17 34 0 [1065353216, 1066401792] 77) (24 + 4 * j) 4)) (List.range (beAt (xf 17 34 0 [1065353216, 1066401792] 77) 16 1)) }
      = false ∧ ((st 9).wg.ownX.getD { }).stateSig = BitVec.ofNat 32 (beAt (xf 17 34 0 [1065353216, 1066401792] 77) 12 4)) ∧
    ((st 11).gsize = 2 ∧ (st 11).peerRole 0 = 5 ∧ (st 11).wg.departures ≠ 2 ∧ (st 11).wgState = 3 ∧ (st 11).wg.caughtUp = true ∧ (st 11).wg.ownX =
      some ((st 11).wg.ownX.getD { }) ∧ ((st 11).wg.ownX.getD { }).stateSig = BitVec.ofNat 32 (beAt (xf 17 34 0 [1065353216, 1066401792] 77) 12 4) ∧
      (st 11).mpGood 0 2 0 (xf 17 34 0 [1065353216, 1066401792] 77) ∧ BitVec.ofNat 32 (beAt (xf 17 34 0 [1065353216, 1066401792] 77) 4 4) =
      (st 11).word pkWg WG_PERIOD) ∧
    ((st 11).gsize = 2 ∧ (st 11).peerRole 0 = 5 ∧ (st 11).wg.departures ≠ 2 ∧ (st 11).wgState = 3 ∧ (st 11).wg.caughtUp = true ∧ (st 11).wg.ownX =
      some ((st 11).wg.ownX.getD { }) ∧ (st 11).mpGood 0 2 0 (xf 17 35 0 [1065353216, 1066401792] 77) ∧ BitVec.ofNat 32 (beAt (xf 17 35 0 [1065353216,
      1066401792] 77) 4 4) = (st 11).word pkWg WG_PERIOD ∧ ((st 11).wg.ownX.getD { }).stateSig ≠ BitVec.ofNat 32 (beAt (xf 17 35 0 [1065353216,
      1066401792] 77) 12 4)) ∧
    ((st 10).gsize = 2 ∧ (st 10).peerRole 0 = 5 ∧ (st 10).wg.departures ≠ 2 ∧ (st 10).wgState = 3 ∧ (st 10).wg.caughtUp = false ∧ (st 10).wg.ownX =
      some ((st 10).wg.ownX.getD { }) ∧ (st 10).mpGood 0 2 0 (xf 17 34 0 [1065353216, 1066401792] 77) ∧ BitVec.ofNat 32 (beAt (xf 17 34 0 [1065353216,
      1066401792] 77) 4 4) = (st 10).word pkWg WG_PERIOD) ∧
    ((st 12).gsize = 2 ∧ (st 12).wgState = 5 ∧ (st 12).peerRole 0 = 4 ∧ (st 12).wg.ownX = some ((st 12).wg.ownX.getD { }) ∧ ((st 12).wg.ownX.getD
      { }).agreeSig = BitVec.ofNat 32 (beAt (xf 17 34 0 [1065353216] 77) 8 4) ∧ (st 12).mpGood 0 2 0 (xf 17 34 0 [1065353216] 77) ∧ BitVec.ofNat 32
      (beAt (xf 17 34 0 [1065353216] 77) 4 4) = (st 12).word pkWg WG_PERIOD ∧ beAt (xf 17 34 0 [1065353216] 77) 16 1 ≠ ((st 12).wg.ownX.getD
      { }).values.length) ∧
    ((st 13).lee = true ∧ (st 13).bolOut = true ∧ (st 13).mpGood 0 4 0 (helF 4 2 4 3 true) ∧ bitN (beAt (helF 4 2 4 3 true) 8 4) 11 = true) ∧
    ((st 0).mpUp 1 = false) ∧
    ((st 3).wgState = 1 ∧ (st 3).gsize = 2 ∧ 0 ∈ (st 3).peerList ∧ (st 3).mpGood 0 5 0 (helF 5 2 5 43982 true) ∧ 16 ≤ (helF 5 2 5 43982 true).length ∧
      (beAt (helF 5 2 5 43982 true) 8 4 / 2 ^ 28 = 5 ∨ beAt (helF 5 2 5 43982 true) 8 4 / 2 ^ 28 = 6) ∧ BitVec.ofNat 32 (beAt (helF 5 2 5 43982 true)
      12 4) ≠ (st 3).word pkWg WG_CONFIG_SIG) ∧
    ((st 14).wgState = 1 ∧ 0 ∈ (st 14).peerList ∧ (st 14).bit pkSea (if 0 = 0 then SEAWALL_STAT_BOL_IN0 else SEAWALL_STAT_BOL_IN1) = true ∧
      (st 14).mpGood 0 5 0 (helF 5 2 1 43981 false) ∧ 16 ≤ (helF 5 2 1 43981 false).length ∧ beAt (helF 5 2 1 43981 false) 8 4 / 2 ^ 28 = 1) ∧
    ((st 12).wgState = 5 ∧ (st 12).bolOut = true ∧ 0 ∈ (st 12).peerList ∧ (st 12).mpGood 0 5 0 (helF 5 2 3 43981 false) ∧ 16 ≤ (helF 5 2 3 43981
      false).length ∧ beAt (helF 5 2 3 43981 false) 8 4 / 2 ^ 28 = 3 ∧ BitVec.ofNat 32 (beAt (helF 5 2 3 43981 false) 12 4) = (st 12).word pkWg
      WG_CONFIG_SIG) ∧
    ((st 10).wgState = 3 ∧ (st 10).wg.caughtUp = false ∧ (st 10).memOk ∧ (st 10).mpGood 0 3 0 (hd 3 2 77 (beBytes 536871168 4 ++ blk)) ∧ (hd 3 2 77
      (beBytes 536871168 4 ++ blk)).length = 268 ∧ beAt (hd 3 2 77 (beBytes 536871168 4 ++ blk)) 8 4 = beAt (hd 3 2 77 (beBytes 536871168 4 ++ blk)) 8
      4 ∧ beAt (hd 3 2 77 (beBytes 536871168 4 ++ blk)) 8 4 % 256 = 0 ∧ 536870912 ≤ beAt (hd 3 2 77 (beBytes 536871168 4 ++ blk)) 8 4 ∧ beAt (hd 3 2
      77 (beBytes 536871168 4 ++ blk)) 8 4 < 545259520 ∧ (0 < beAt (hd 3 2 77 (beBytes 536871168 4 ++ blk)) 8 4 ∨ beAt (hd 3 2 77 (beBytes 536871168 4
      ++ blk)) 8 4 + 256 ≤ 0)) ∧
    ((st 15).wg.sending = true ∧ (st 15).fld pkWg WG_SNAP_STAT_PHASE = 1 ∧ (st 15).wg.sweep = [0, 1, 4, 0, 1]) :=
  ⟨by decide, by decide, by decide, by decide, (by unfold State.mpGood; decide), (by unfold State.mpGood; decide),
    by decide, by decide, by decide, by decide, by decide, by decide,
    by decide, by decide, (by unfold State.mpGood; decide), (by unfold State.mpGood; decide), (by unfold State.mpGood; decide), (by unfold State.mpGood; decide),
    (by unfold State.mpGood; decide), (by unfold State.mpGood; decide), (by unfold State.mpGood; decide), (by unfold State.mpGood; decide), (by unfold State.mpGood; decide), by decide,
    (by unfold State.mpGood; decide), (by unfold State.mpGood; decide), (by unfold State.mpGood; decide), (by unfold State.memOk State.mpGood; decide), by decide⟩
end W19a

namespace W19b
def wgS (f : Watch → Watch) (s : State) : State := s.setWg (f s.wg)
def role (n : Nat) (s : State) : State := s.setFld pkWg WG_STAT_STATE n
def grp (n : Nat) : State :=
  let s := seaOn State.reset
  let s := { s with sea := { s.sea with mf := { s.sea.mf with gsize := n, rank := 1, leeEn := true } }, cyc := 10000000 }
  let s := witSt pkWg .run (witSt pkBol .run (witSt (pkMp 0) .run (witSt (pkMp 1) .run s)))
  let s := (s.setBit (pkMp 0) MP_STAT_LINK true).setBit (pkMp 1) MP_STAT_LINK true
  let s := s.setBit pkSea SEAWALL_STAT_BOL_OUT false
  ((s.setWord pkWg WG_PERIOD 77#32).setWord pkWg WG_CONFIG_SIG 0xABCD#32).setFld pkWg WG_CFG_PERIOD_TICKS 4
def bol (s : State) : State := s.setBit pkSea SEAWALL_STAT_BOL_OUT true
def line (i : Nat) (s : State) : State := s.setBit pkSea (if i = 0 then SEAWALL_STAT_BOL_IN0 else SEAWALL_STAT_BOL_IN1) true
def win (s : State) : State := s.setBit pkBol BOL_STAT_CLAIM_WIN true
def fl (s : State) : State := { s with pw := { s.pw with tide := .flood } }
def at' (p x pt tick : Nat) (s : State) : State := (((s.setWord pkWg WG_PERIOD (BitVec.ofNat 32 p)).setWord pkWg WG_XSWAP_AT (BitVec.ofNat 32 x)).setFld pkWg WG_CFG_PERIOD_TICKS pt).setWord (pkCe 0) CE_TICKNO (BitVec.ofNat 32 tick)
def st : Nat → State
  | 0 => State.reset
  | 1 => (grp 2)
  | 2 => grp 0
  | 3 => role 2 (grp 2)
  | 4 => role 1 (grp 2)
  | 5 => role 3 (grp 2)
  | 6 => bol (role 5 (grp 2))
  | 7 => win (bol (role 2 (grp 2)))
  | 8 => win (bol (role 4 (grp 2)))
  | 9 => line 0 (role 2 (grp 2))
  | 10 => fl (role 1 (grp 2))
  | 11 => (wgS (fun w => { w with sending := true, cutNext := true, dirty := [0x20000300, 0x20000100] }) (bol (role 5 (grp 2)))).setWord pkWg WG_CUT
    77#32
  | 12 => wgS (fun w => { w with caughtReq := true, caughtUp := true }) (role 3 (grp 2))
  | _ => at' 10 12 4 40 (grp 2)

set_option maxRecDepth 40000 in
/-- States and operands that meet the hypotheses of WatchAuthority, clause by clause. -/
theorem test_meets_WatchAuthority :
    ((st 6).bit pkSea SEAWALL_STAT_BOL_OUT = true ∧ (st 6).mpUp 1 = true) ∧
    ((st 0).bit pkSea SEAWALL_STAT_BOL_OUT = false) ∧
    ((st 4).gsize = 2 ∧ (st 4).wgState = 1 ∧ (st 4).mpUp 1 = true) ∧
    ((st 1).wgState ≠ 1 ∧ (st 1).mpUp 1 = true) ∧
    ((st 0).mpUp 1 = false) ∧
    (((st 9).wgState = 4 ∨ (st 9).wgState = 2) ∧ 0 ∈ (st 9).peerList ∧ (st 9).peerUp 0 = true ∧ (st 9).bit pkSea (if 0 = 0 then SEAWALL_STAT_BOL_IN0
      else SEAWALL_STAT_BOL_IN1) ≠ (st 9).peerBeacon 0) ∧
    (0 ∈ (st 1).peerList ∧ ((st 1).bit pkSea (if 0 = 0 then SEAWALL_STAT_BOL_IN0 else SEAWALL_STAT_BOL_IN1) = (st 1).peerBeacon 0 ∨ (st 1).peerUp 0 =
      false)) ∧
    (((st 2).gsize = 0 ∨ (st 2).armed = true) ∧ (st 2).mayClaim = true ∧ (st 2).peersReleased = true ∧ (st 2).bolOut = false ∧ (st 2).fixedLive) ∧
    (((st 0).mayClaim = false ∨ (st 0).peersReleased = false ∨ (st 0).bolOut = true ∨ (st 0).gsize ≠ 0 ∧ (st 0).armed = false)) ∧
    ((st 7).bit pkBol BOL_STAT_CLAIM_WIN = true) ∧
    ((st 7).fixedLive ∧ (st 7).bit pkBol BOL_STAT_CLAIM_WIN = true ∧ (st 7).bolOut = true ∧ (st 7).wgState = 2 ∧ 0 ∈ (st 7).peerList) ∧
    ((st 8).fixedLive ∧ (st 8).bit pkBol BOL_STAT_CLAIM_WIN = true ∧ (st 8).bolOut = true ∧ (st 8).wgState = 4 ∧ 0 ∈ (st 8).peerList) ∧
    ((st 6).fixedLive ∧ (st 6).bit pkBol BOL_STAT_CLAIM_WIN = false ∧ (st 6).bolOut = true ∧ ((st 6).wgState = 5 ∨ (st 6).wgState = 6) ∧ 0 ∈
      (st 6).peerList) ∧
    ((st 3).fixedLive ∧ (st 3).bit pkBol BOL_STAT_CLAIM_WIN = false ∧ (st 3).bolOut = false ∧ (st 3).wgState = 2 ∧ 0 ∈ (st 3).peerList) ∧
    ((st 5).fixedLive ∧ (st 5).wgState = 3 ∧ 0 ∈ (st 5).peerList) ∧
    ((st 1).fixedLive ∧ (st 1).wgState ≠ 3 ∧ (st 1).bolOut = false ∧ 0 ∈ (st 1).peerList) ∧
    ((st 4).wgState = 1 ∧ (st 4).inHigh = true ∧ (∀ (i : Nat), i ∈ (st 4).peerList → (st 4).peerAuth i = false)) ∧
    ((st 10).wgState = 1 ∧ (st 10).inHigh = false ∧ (∀ (i : Nat), i ∈ (st 10).peerList → (st 10).peerAuth i = false)) ∧
    ((st 0).wgState ≠ 1) ∧
    ((st 11).wg.sending = true ∧ (st 11).wg.cutNext = true ∧ (st 11).word pkWg WG_PERIOD = (st 11).word pkWg WG_CUT ∧ (st 11).wg.dirty.length < 2 ^ 24
      ∧ (st 11).wg.dirty ≠ []) ∧
    ((st 5).wgState = 3) ∧
    ((st 0).wgState ≠ 3) ∧
    ((st 12).wgState = 3 ∧ (st 12).wg.caughtReq = true) ∧
    ((st 0).wg.caughtReq = false) ∧
    ((st 13).answers pkWg ∧ ((st 13).page pkWg).lock = false ∧ 0 < BitVec.toNat ((st 13).word pkWg WG_XSWAP_AT - (st 13).word pkWg WG_PERIOD) ∧
      BitVec.toNat ((st 13).word pkWg WG_XSWAP_AT - (st 13).word pkWg WG_PERIOD) < 2 ^ 31 ∧ 0 < BitVec.toNat ((st 13).word pkWg WG_XSWAP_AT *
      BitVec.ofNat 32 ((st 13).fld pkWg WG_CFG_PERIOD_TICKS) - 1#32 - (st 13).word (pkCe 0) CE_TICKNO) ∧ BitVec.toNat ((st 13).word pkWg WG_XSWAP_AT *
      BitVec.ofNat 32 ((st 13).fld pkWg WG_CFG_PERIOD_TICKS) - 1#32 - (st 13).word (pkCe 0) CE_TICKNO) < 2 ^ 31) ∧
    ((st 0).answers pkWg ∧ ((st 0).page pkWg).lock = false ∧ (BitVec.toNat ((st 0).word pkWg WG_XSWAP_AT - (st 0).word pkWg WG_PERIOD) = 0 ∨ 2 ^ 31 ≤
      BitVec.toNat ((st 0).word pkWg WG_XSWAP_AT - (st 0).word pkWg WG_PERIOD) ∨ BitVec.toNat ((st 0).word pkWg WG_XSWAP_AT * BitVec.ofNat 32
      ((st 0).fld pkWg WG_CFG_PERIOD_TICKS) - 1#32 - (st 0).word (pkCe 0) CE_TICKNO) = 0 ∨ 2 ^ 31 ≤ BitVec.toNat ((st 0).word pkWg WG_XSWAP_AT *
      BitVec.ofNat 32 ((st 0).fld pkWg WG_CFG_PERIOD_TICKS) - 1#32 - (st 0).word (pkCe 0) CE_TICKNO))) ∧
    ((st 6).bolOut = true ∧ (st 6).timeState = 0 ∧ (st 6).sea.mf.leeEn = true ∧ (st 6).lee = false ∧ (st 6).wgState = 5) ∧
    (((st 0).bolOut = false ∨ (st 0).timeState ≠ 0 ∨ (st 0).sea.mf.leeEn = false)) :=
  ⟨by decide, by decide, by decide, by decide, by decide, by decide,
    by decide, (by unfold State.fixedLive; decide), by decide, by decide, (by unfold State.fixedLive; decide), (by unfold State.fixedLive; decide),
    (by unfold State.fixedLive; decide), (by unfold State.fixedLive; decide), (by unfold State.fixedLive; decide), (by unfold State.fixedLive; decide), by decide, by decide,
    by decide, by decide, by decide, by decide, by decide, by decide,
    (by unfold State.answers; decide), (by unfold State.answers; decide), by decide, by decide⟩
end W19b

namespace W20a
def dt (k : Nat) : DrTest := (drTest k).getD ⟨k, [], 0, 0⟩
def stAll (x : DrTest) (p : PageSt) (s : State) : State := x.pages.foldl (fun s k => (s.modPage k (fun p => { p with en := true })).setSt k p) s
def w1 (k : Nat) : State := { stAll (dt k) .idle State.reset with dr := { queue := [dt k, dt pkByv], phase := .floodRun } }
def w2 (k : Nat) : State := { stAll (dt k) .test State.reset with dr := { running := [dt k, dt pkByv], queue := [dt pkByp], phase := .floodRun } }
def w3 (k : Nat) : State := { stAll (dt k) .test State.reset with dr := { running := [dt k], sweeping := true, phase := .sweep } }
def w4 (k : Nat) : State := { w1 k with dr := { (w1 k).dr with warnHold := true } }
def hold (s : State) : State := (s.setBit pkSea SEAWALL_STAT_BOL_OUT true).setBit pkSys SYS_TIDE_STAT_AUTH true
def sb (n : Nat) (s : State) : State := s.setFld pkWg WG_STAT_STATE n
def fl (k : Nat) (s : State) : State := s.setFailed k true
def st : Nat → State
  | 0 => fl (pkCs 2) { State.reset with pw := { tide := .dryDock } }
  | 1 => fl (pkSc 11) (sb 4 { State.reset with pw := { tide := .high } })
  | 2 => w1 (pkSc 3)
  | 3 => w2 (pkSc 3)
  | 4 => w3 (pkSc 3)
  | 5 => w4 (pkSc 3)
  | 6 => w2 (pkHm)
  | 7 => (sb 4 { State.reset with pw := { State.reset.pw with tide := .high } }).setBit pkDr DR_CFG_AUTO false
  | 8 => hold (sb 5 { State.reset with pw := { State.reset.pw with tide := .high } })
  | 9 => { State.reset with pw := { State.reset.pw with tide := .slack } }
  | _ => { State.reset with dr := { State.reset.dr with scrubAt := 4194303 } }

set_option maxRecDepth 40000 in
/-- States and operands that meet the hypotheses of DredgeTests, clause by clause. -/
theorem test_meets_DredgeTests :
    ((st 2).dr.held = [] ∧ (st 2).dr.warnHold = false ∧ drTest 99 = some { page := 99, pages := [99], tokens := 1, code := 1 } ∧ (st 2).testWithdrawn
      { page := 99, pages := [99], tokens := 1, code := 1 } = false ∧ (st 2).testHeld { page := 99, pages := [99], tokens := 1, code := 1 } = false ∧
      (st 2).testWaits { page := 99, pages := [99], tokens := 1, code := 1 } = false ∧ 1 ≤ (st 2).tokensFree ∧ (st 2).dr.queue =
      [{ page := 99, pages := [99], tokens := 1, code := 1 }, dt pkByv]) ∧
    ((st 5).dr.held = [] ∧ drTest 99 = some { page := 99, pages := [99], tokens := 1, code := 1 } ∧ (st 5).testWithdrawn
      { page := 99, pages := [99], tokens := 1, code := 1 } = false ∧ (st 5).testHeld { page := 99, pages := [99], tokens := 1, code := 1 } = false ∧
      ((st 5).dr.warnHold = true ∨ (st 5).testWaits { page := 99, pages := [99], tokens := 1, code := 1 } = true ∨ (st 5).tokensFree < 1) ∧
      (st 5).dr.queue = [{ page := 99, pages := [99], tokens := 1, code := 1 }, dt pkByv]) ∧
    ((st 3).dr.retest = [] ∧ (st 3).dr.stepHold = none ∧ kindOf 99 ≠ some PKind.hm ∧ drTest 99 = some
      { page := 99, pages := [99], tokens := 1, code := 1 } ∧ (∀ (j : Nat), j ∈ [99] → (st 3).st j = PageSt.test ∧ (st 3).failed j = false) ∧
      (st 3).dr.running = [{ page := 99, pages := [99], tokens := 1, code := 1 }, dt pkByv] ∧ ([dt pkByv] ≠ [] ∨ (st 3).dr.queue ≠ [] ∨ (st 3).dr.held
      ≠ [])) ∧
    ((st 6).dr.retest = [] ∧ (st 6).dr.stepHold = none ∧ kindOf 352 = some PKind.hm ∧ drTest 352 = some
      { page := 352, pages := [352], tokens := 1, code := 1 } ∧ (∀ (j : Nat), j ∈ [352] → (st 6).st j = PageSt.test ∧ (st 6).failed j = false) ∧
      (st 6).dr.running = [{ page := 352, pages := [352], tokens := 1, code := 1 }, dt pkByv] ∧ ([dt pkByv] ≠ [] ∨ (st 6).dr.queue ≠ [] ∨
      (st 6).dr.held ≠ [])) ∧
    ((st 0).dr.running = []) ∧
    ((st 4).dr.retest = [] ∧ drTest 99 = some { page := 99, pages := [99], tokens := 1, code := 1 } ∧ (st 4).dr.running =
      [{ page := 99, pages := [99], tokens := 1, code := 1 }] ∧ (∀ (j : Nat), j ∈ [99] → (st 4).st j = PageSt.test ∧ (st 4).failed j = false)) :=
  ⟨by decide, by decide, by decide, by decide, by decide, by decide⟩

set_option maxRecDepth 40000 in
/-- States and operands that meet the hypotheses of DredgeRounds, clause by clause. -/
theorem test_meets_DredgeRounds :
    ((st 4).dr.sweeping = true) ∧
    ((st 0).dr.sweeping = false ∧ (st 0).pw.tide = Tide.dryDock ∧ ({ page := 34, pages := [34], tokens := 1, code := 3 } : DrTest) ∈ floodRunTests ∧
      34 ∈ ({ page := 34, pages := [34], tokens := 1, code := 3 } : DrTest).blocks ∧ (st 0).failed 34 = true) ∧
    ((st 0).dr.sweeping = false ∧ (st 0).pw.tide = Tide.dryDock ∧ (∀ (x : DrTest), x ∈ floodRunTests → ¬671 ∈ x.blocks)) ∧
    ((st 1).dr.sweeping = false ∧ (st 1).pw.tide ≠ Tide.dryDock ∧ (st 1).isStandby = true ∧ ({ page := 107, pages := [107], tokens := 1, code := 1 } :
      DrTest) ∈ sweepTests ∧ 107 ∈ ({ page := 107, pages := [107], tokens := 1, code := 1 } : DrTest).blocks ∧ (st 1).failed 107 = true) ∧
    ((st 1).dr.sweeping = false ∧ (st 1).pw.tide ≠ Tide.dryDock ∧ (st 1).isStandby = true ∧ (∀ (x : DrTest), x ∈ sweepTests → ¬671 ∈ x.blocks)) ∧
    ((st 1).isStandby = true ∧ (st 1).bit pkDr DR_CFG_AUTO = true ∧ (st 1).dr.sweeping = false ∧
      ({ page := 107, pages := [107], tokens := 1, code := 1 } : DrTest) ∈ sweepTests ∧ 107 ∈ ({ page := 107, pages := [107], tokens := 1, code := 1 }
      : DrTest).blocks ∧ (st 1).failed 107 = true) ∧
    ((st 1).isStandby = true ∧ (st 1).bit pkDr DR_CFG_AUTO = true ∧ (st 1).dr.sweeping = false ∧ (∀ (x : DrTest), x ∈ sweepTests → ¬671 ∈ x.blocks)) ∧
    ((st 7).isStandby = true ∧ (st 7).bit pkDr DR_CFG_AUTO = false) ∧
    ((st 8).isStandby = false ∧ (st 8).inHigh = true ∧ (st 8).holdsAuthority = true) ∧
    ((st 4).dr.queue = [] ∧ (st 4).dr.held = [] ∧ (st 4).dr.sweeping = true ∧ (st 4).dr.stepHold = none ∧ (st 4).dr.retest = [] ∧ drTest 99 = some
      { page := 99, pages := [99], tokens := 1, code := 1 } ∧ (st 4).dr.running = [{ page := 99, pages := [99], tokens := 1, code := 1 }] ∧ (∀ (j :
      Nat), j ∈ [99] → (st 4).st j = PageSt.test ∧ (st 4).failed j = false)) ∧
    ((st 9).pw.tide = Tide.slack) ∧
    ((st 0).pw.tide ≠ Tide.slack ∧ (st 0).dr.scrubAt + 1 < 4194304) ∧
    ((st 10).pw.tide ≠ Tide.slack ∧ 4194304 ≤ (st 10).dr.scrubAt + 1) ∧
    ((st 0).pw.tide ≠ Tide.slack) ∧
    ((st 0).memOk ∧ marchKeeps (st 0).pw.fromUr 268435456 = true) ∧
    ((st 0).memOk ∧ marchKeeps (st 0).pw.fromUr 99 = false) ∧
    ((st 0).memOk) :=
  ⟨by decide, by decide, by decide, by decide, by decide, by decide,
    by decide, by decide, by decide, by decide, by decide, by decide,
    by decide, by decide, (by unfold State.memOk; decide), (by unfold State.memOk; decide), (by unfold State.memOk; decide)⟩
end W20a

namespace W20b
def up (k : Nat) (s : State) : State := (s.modPage k (fun p => { p with en := true })).setSt k .run
def b0 : State := up pkByp (up pkByv (up pkByt State.reset))
def buoyAt (page n mode filt st : Nat) (x : Buoy) : State :=
  let s := { b0 with buoys := [(32 * page + n, x)] }
  ((s.setFld page (BYT_CFG_MODE.ix n 16) mode).setFld page (BYT_CFG_FILT.ix n 16) filt).setFld page (BYT_VAL_STATE.ix n 16) st
def st : Nat → State
  | 0 => buoyAt pkByt 11 0 1 0 {}
  | 1 => buoyAt pkByt 11 1 1 0 {}
  | 2 => buoyAt pkByt 11 1 1 1 {}
  | 3 => State.reset
  | _ => { State.reset with pw := { tide := .dryDock } }

/-- States and operands that meet the hypotheses of BuoysAndJtag, clause by clause. -/
theorem test_meets_BuoysAndJtag :
    (¬((st 3).st 449 ≠ PageSt.off ∧ (st 3).st 449 ≠ PageSt.fault ∧ (st 3).st 449 ≠ PageSt.test) ∧ (449 = pkByt ∧ 3 < 12 ∨ 449 = pkByv ∧ 3 < 16 ∨ 449 =
      pkByp ∧ 3 < 4) ∧ 1 ≤ (st 3).fld 449 (BYT_CFG_FILT.ix 3 16) ∧ (st 3).fld 449 (BYT_VAL_STATE.ix 3 16) < 3 ∧ (st 3).fld 449 (BYT_CFG_MODE.ix 3 16)
      < 3) ∧
    ((st 0).st 449 ≠ PageSt.off ∧ (st 0).st 449 ≠ PageSt.fault ∧ (st 0).st 449 ≠ PageSt.test ∧ (449 = pkByt ∧ 11 < 12 ∨ 449 = pkByv ∧ 11 < 16 ∨ 449 =
      pkByp ∧ 11 < 4) ∧ 1 ≤ (st 0).fld 449 (BYT_CFG_FILT.ix 11 16) ∧ (st 0).fld 449 (BYT_VAL_STATE.ix 11 16) < 3 ∧ (st 0).fld 449 (BYT_CFG_MODE.ix 11
      16) < 3 ∧ (st 0).fld 449 (BYT_VAL_STATE.ix 11 16) ≠ 2 ∧ (((st 0).fld 449 (BYT_CFG_MODE.ix 11 16) = 1 ∧ (if 449 = pkByt ∧ 32768 ≤ (st 0).fld 449
      (BYT_TH_B.ix 11 16) then ↑((st 0).fld 449 (BYT_TH_B.ix 11 16)) - 65536 else ↑((st 0).fld 449 (BYT_TH_B.ix 11 16))) < if 449 = pkByt ∧ 32768 ≤
      (1201#16).toNat then ↑(1201#16).toNat - 65536 else ↑(1201#16).toNat) ∨ ((st 0).fld 449 (BYT_CFG_MODE.ix 11 16) = 2 ∧ (if 449 = pkByt ∧ 32768 ≤
      (1201#16).toNat then ↑(1201#16).toNat - 65536 else ↑(1201#16).toNat) < if 449 = pkByt ∧ 32768 ≤ (st 0).fld 449 (BYT_TH_B.ix 11 16) then
      ↑((st 0).fld 449 (BYT_TH_B.ix 11 16)) - 65536 else ↑((st 0).fld 449 (BYT_TH_B.ix 11 16))) ∨ (st 0).fld 449 (BYT_CFG_MODE.ix 11 16) = 0 ∧ (((if
      449 = pkByt ∧ 32768 ≤ (1201#16).toNat then ↑(1201#16).toNat - 65536 else ↑(1201#16).toNat) < if 449 = pkByt ∧ 32768 ≤ (st 0).fld 449
      (BYT_TH_A.ix 11 16) then ↑((st 0).fld 449 (BYT_TH_A.ix 11 16)) - 65536 else ↑((st 0).fld 449 (BYT_TH_A.ix 11 16))) ∨ (if 449 = pkByt ∧ 32768 ≤
      (st 0).fld 449 (BYT_TH_B.ix 11 16) then ↑((st 0).fld 449 (BYT_TH_B.ix 11 16)) - 65536 else ↑((st 0).fld 449 (BYT_TH_B.ix 11 16))) < if 449 =
      pkByt ∧ 32768 ≤ (1201#16).toNat then ↑(1201#16).toNat - 65536 else ↑(1201#16).toNat)) ∧ (st 0).fld 449 (BYT_CFG_FILT.ix 11 16) ≤ (tget { }
      (st 0).buoys (32 * 449 + 11)).limitRun + 1) ∧
    ((st 1).st 449 ≠ PageSt.off ∧ (st 1).st 449 ≠ PageSt.fault ∧ (st 1).st 449 ≠ PageSt.test ∧ (449 = pkByt ∧ 11 < 12 ∨ 449 = pkByv ∧ 11 < 16 ∨ 449 =
      pkByp ∧ 11 < 4) ∧ 1 ≤ (st 1).fld 449 (BYT_CFG_FILT.ix 11 16) ∧ (st 1).fld 449 (BYT_VAL_STATE.ix 11 16) < 3 ∧ (st 1).fld 449 (BYT_CFG_MODE.ix 11
      16) < 3 ∧ ¬((st 1).fld 449 (BYT_VAL_STATE.ix 11 16) ≠ 2 ∧ (((st 1).fld 449 (BYT_CFG_MODE.ix 11 16) = 1 ∧ (if 449 = pkByt ∧ 32768 ≤ (st 1).fld
      449 (BYT_TH_B.ix 11 16) then ↑((st 1).fld 449 (BYT_TH_B.ix 11 16)) - 65536 else ↑((st 1).fld 449 (BYT_TH_B.ix 11 16))) < if 449 = pkByt ∧ 32768
      ≤ (1081#16).toNat then ↑(1081#16).toNat - 65536 else ↑(1081#16).toNat) ∨ ((st 1).fld 449 (BYT_CFG_MODE.ix 11 16) = 2 ∧ (if 449 = pkByt ∧ 32768 ≤
      (1081#16).toNat then ↑(1081#16).toNat - 65536 else ↑(1081#16).toNat) < if 449 = pkByt ∧ 32768 ≤ (st 1).fld 449 (BYT_TH_B.ix 11 16) then
      ↑((st 1).fld 449 (BYT_TH_B.ix 11 16)) - 65536 else ↑((st 1).fld 449 (BYT_TH_B.ix 11 16))) ∨ (st 1).fld 449 (BYT_CFG_MODE.ix 11 16) = 0 ∧ (((if
      449 = pkByt ∧ 32768 ≤ (1081#16).toNat then ↑(1081#16).toNat - 65536 else ↑(1081#16).toNat) < if 449 = pkByt ∧ 32768 ≤ (st 1).fld 449
      (BYT_TH_A.ix 11 16) then ↑((st 1).fld 449 (BYT_TH_A.ix 11 16)) - 65536 else ↑((st 1).fld 449 (BYT_TH_A.ix 11 16))) ∨ (if 449 = pkByt ∧ 32768 ≤
      (st 1).fld 449 (BYT_TH_B.ix 11 16) then ↑((st 1).fld 449 (BYT_TH_B.ix 11 16)) - 65536 else ↑((st 1).fld 449 (BYT_TH_B.ix 11 16))) < if 449 =
      pkByt ∧ 32768 ≤ (1081#16).toNat then ↑(1081#16).toNat - 65536 else ↑(1081#16).toNat)) ∧ (st 1).fld 449 (BYT_CFG_FILT.ix 11 16) ≤ (tget { }
      (st 1).buoys (32 * 449 + 11)).limitRun + 1) ∧ (st 1).fld 449 (BYT_VAL_STATE.ix 11 16) = 0 ∧ (((st 1).fld 449 (BYT_CFG_MODE.ix 11 16) = 1 ∧ (if
      449 = pkByt ∧ 32768 ≤ (st 1).fld 449 (BYT_TH_A.ix 11 16) then ↑((st 1).fld 449 (BYT_TH_A.ix 11 16)) - 65536 else ↑((st 1).fld 449 (BYT_TH_A.ix
      11 16))) < if 449 = pkByt ∧ 32768 ≤ (1081#16).toNat then ↑(1081#16).toNat - 65536 else ↑(1081#16).toNat) ∨ (st 1).fld 449 (BYT_CFG_MODE.ix 11
      16) = 2 ∧ (if 449 = pkByt ∧ 32768 ≤ (1081#16).toNat then ↑(1081#16).toNat - 65536 else ↑(1081#16).toNat) < if 449 = pkByt ∧ 32768 ≤ (st 1).fld
      449 (BYT_TH_A.ix 11 16) then ↑((st 1).fld 449 (BYT_TH_A.ix 11 16)) - 65536 else ↑((st 1).fld 449 (BYT_TH_A.ix 11 16))) ∧ (st 1).fld 449
      (BYT_CFG_FILT.ix 11 16) ≤ (tget { } (st 1).buoys (32 * 449 + 11)).warnRun + 1) ∧
    ((st 2).st 449 ≠ PageSt.off ∧ (st 2).st 449 ≠ PageSt.fault ∧ (st 2).st 449 ≠ PageSt.test ∧ (449 = pkByt ∧ 11 < 12 ∨ 449 = pkByv ∧ 11 < 16 ∨ 449 =
      pkByp ∧ 11 < 4) ∧ 1 ≤ (st 2).fld 449 (BYT_CFG_FILT.ix 11 16) ∧ (st 2).fld 449 (BYT_VAL_STATE.ix 11 16) < 3 ∧ (st 2).fld 449 (BYT_CFG_MODE.ix 11
      16) < 3 ∧ ¬((st 2).fld 449 (BYT_VAL_STATE.ix 11 16) ≠ 2 ∧ (((st 2).fld 449 (BYT_CFG_MODE.ix 11 16) = 1 ∧ (if 449 = pkByt ∧ 32768 ≤ (st 2).fld
      449 (BYT_TH_B.ix 11 16) then ↑((st 2).fld 449 (BYT_TH_B.ix 11 16)) - 65536 else ↑((st 2).fld 449 (BYT_TH_B.ix 11 16))) < if 449 = pkByt ∧ 32768
      ≤ (32768#16).toNat then ↑(32768#16).toNat - 65536 else ↑(32768#16).toNat) ∨ ((st 2).fld 449 (BYT_CFG_MODE.ix 11 16) = 2 ∧ (if 449 = pkByt ∧
      32768 ≤ (32768#16).toNat then ↑(32768#16).toNat - 65536 else ↑(32768#16).toNat) < if 449 = pkByt ∧ 32768 ≤ (st 2).fld 449 (BYT_TH_B.ix 11 16)
      then ↑((st 2).fld 449 (BYT_TH_B.ix 11 16)) - 65536 else ↑((st 2).fld 449 (BYT_TH_B.ix 11 16))) ∨ (st 2).fld 449 (BYT_CFG_MODE.ix 11 16) = 0 ∧
      (((if 449 = pkByt ∧ 32768 ≤ (32768#16).toNat then ↑(32768#16).toNat - 65536 else ↑(32768#16).toNat) < if 449 = pkByt ∧ 32768 ≤ (st 2).fld 449
      (BYT_TH_A.ix 11 16) then ↑((st 2).fld 449 (BYT_TH_A.ix 11 16)) - 65536 else ↑((st 2).fld 449 (BYT_TH_A.ix 11 16))) ∨ (if 449 = pkByt ∧ 32768 ≤
      (st 2).fld 449 (BYT_TH_B.ix 11 16) then ↑((st 2).fld 449 (BYT_TH_B.ix 11 16)) - 65536 else ↑((st 2).fld 449 (BYT_TH_B.ix 11 16))) < if 449 =
      pkByt ∧ 32768 ≤ (32768#16).toNat then ↑(32768#16).toNat - 65536 else ↑(32768#16).toNat)) ∧ (st 2).fld 449 (BYT_CFG_FILT.ix 11 16) ≤ (tget { }
      (st 2).buoys (32 * 449 + 11)).limitRun + 1) ∧ ¬((st 2).fld 449 (BYT_VAL_STATE.ix 11 16) = 0 ∧ (((st 2).fld 449 (BYT_CFG_MODE.ix 11 16) = 1 ∧ (if
      449 = pkByt ∧ 32768 ≤ (st 2).fld 449 (BYT_TH_A.ix 11 16) then ↑((st 2).fld 449 (BYT_TH_A.ix 11 16)) - 65536 else ↑((st 2).fld 449 (BYT_TH_A.ix
      11 16))) < if 449 = pkByt ∧ 32768 ≤ (32768#16).toNat then ↑(32768#16).toNat - 65536 else ↑(32768#16).toNat) ∨ (st 2).fld 449 (BYT_CFG_MODE.ix 11
      16) = 2 ∧ (if 449 = pkByt ∧ 32768 ≤ (32768#16).toNat then ↑(32768#16).toNat - 65536 else ↑(32768#16).toNat) < if 449 = pkByt ∧ 32768 ≤
      (st 2).fld 449 (BYT_TH_A.ix 11 16) then ↑((st 2).fld 449 (BYT_TH_A.ix 11 16)) - 65536 else ↑((st 2).fld 449 (BYT_TH_A.ix 11 16))) ∧ (st 2).fld
      449 (BYT_CFG_FILT.ix 11 16) ≤ (tget { } (st 2).buoys (32 * 449 + 11)).warnRun + 1) ∧ ((st 2).fld 449 (BYT_VAL_STATE.ix 11 16) = 1 ∧ ((st 2).fld
      449 (BYT_CFG_MODE.ix 11 16) = 1 ∧ (if 449 = pkByt ∧ 32768 ≤ (32768#16).toNat then ↑(32768#16).toNat - 65536 else ↑(32768#16).toNat) ≤ (if 449 =
      pkByt ∧ 32768 ≤ (st 2).fld 449 (BYT_TH_A.ix 11 16) then ↑((st 2).fld 449 (BYT_TH_A.ix 11 16)) - 65536 else ↑((st 2).fld 449 (BYT_TH_A.ix 11
      16))) - ↑((st 2).fld 449 (BYT_CFG_HYST.ix 11 16)) ∨ ((st 2).fld 449 (BYT_CFG_MODE.ix 11 16) = 2 ∧ (if 449 = pkByt ∧ 32768 ≤ (st 2).fld 449
      (BYT_TH_A.ix 11 16) then ↑((st 2).fld 449 (BYT_TH_A.ix 11 16)) - 65536 else ↑((st 2).fld 449 (BYT_TH_A.ix 11 16))) + ↑((st 2).fld 449
      (BYT_CFG_HYST.ix 11 16)) ≤ if 449 = pkByt ∧ 32768 ≤ (32768#16).toNat then ↑(32768#16).toNat - 65536 else ↑(32768#16).toNat) ∨ (st 2).fld 449
      (BYT_CFG_MODE.ix 11 16) = 0 ∧ ((if 449 = pkByt ∧ 32768 ≤ (st 2).fld 449 (BYT_TH_A.ix 11 16) then ↑((st 2).fld 449 (BYT_TH_A.ix 11 16)) - 65536
      else ↑((st 2).fld 449 (BYT_TH_A.ix 11 16))) + ↑((st 2).fld 449 (BYT_CFG_HYST.ix 11 16)) ≤ if 449 = pkByt ∧ 32768 ≤ (32768#16).toNat then
      ↑(32768#16).toNat - 65536 else ↑(32768#16).toNat) ∧ (if 449 = pkByt ∧ 32768 ≤ (32768#16).toNat then ↑(32768#16).toNat - 65536 else
      ↑(32768#16).toNat) ≤ (if 449 = pkByt ∧ 32768 ≤ (st 2).fld 449 (BYT_TH_B.ix 11 16) then ↑((st 2).fld 449 (BYT_TH_B.ix 11 16)) - 65536 else
      ↑((st 2).fld 449 (BYT_TH_B.ix 11 16))) - ↑((st 2).fld 449 (BYT_CFG_HYST.ix 11 16))) ∧ (st 2).fld 449 (BYT_CFG_FILT.ix 11 16) ≤ (tget { }
      (st 2).buoys (32 * 449 + 11)).fromWarn + 1 ∨ (st 2).fld 449 (BYT_VAL_STATE.ix 11 16) = 2 ∧ ((st 2).fld 449 (BYT_CFG_MODE.ix 11 16) = 1 ∧ (if 449
      = pkByt ∧ 32768 ≤ (32768#16).toNat then ↑(32768#16).toNat - 65536 else ↑(32768#16).toNat) ≤ (if 449 = pkByt ∧ 32768 ≤ (st 2).fld 449
      (BYT_TH_B.ix 11 16) then ↑((st 2).fld 449 (BYT_TH_B.ix 11 16)) - 65536 else ↑((st 2).fld 449 (BYT_TH_B.ix 11 16))) - ↑((st 2).fld 449
      (BYT_CFG_HYST.ix 11 16)) ∨ ((st 2).fld 449 (BYT_CFG_MODE.ix 11 16) = 2 ∧ (if 449 = pkByt ∧ 32768 ≤ (st 2).fld 449 (BYT_TH_B.ix 11 16) then
      ↑((st 2).fld 449 (BYT_TH_B.ix 11 16)) - 65536 else ↑((st 2).fld 449 (BYT_TH_B.ix 11 16))) + ↑((st 2).fld 449 (BYT_CFG_HYST.ix 11 16)) ≤ if 449 =
      pkByt ∧ 32768 ≤ (32768#16).toNat then ↑(32768#16).toNat - 65536 else ↑(32768#16).toNat) ∨ (st 2).fld 449 (BYT_CFG_MODE.ix 11 16) = 0 ∧ ((if 449
      = pkByt ∧ 32768 ≤ (st 2).fld 449 (BYT_TH_A.ix 11 16) then ↑((st 2).fld 449 (BYT_TH_A.ix 11 16)) - 65536 else ↑((st 2).fld 449 (BYT_TH_A.ix 11
      16))) + ↑((st 2).fld 449 (BYT_CFG_HYST.ix 11 16)) ≤ if 449 = pkByt ∧ 32768 ≤ (32768#16).toNat then ↑(32768#16).toNat - 65536 else
      ↑(32768#16).toNat) ∧ (if 449 = pkByt ∧ 32768 ≤ (32768#16).toNat then ↑(32768#16).toNat - 65536 else ↑(32768#16).toNat) ≤ (if 449 = pkByt ∧ 32768
      ≤ (st 2).fld 449 (BYT_TH_B.ix 11 16) then ↑((st 2).fld 449 (BYT_TH_B.ix 11 16)) - 65536 else ↑((st 2).fld 449 (BYT_TH_B.ix 11 16))) -
      ↑((st 2).fld 449 (BYT_CFG_HYST.ix 11 16))) ∧ (st 2).fld 449 (BYT_CFG_FILT.ix 11 16) ≤ (tget { } (st 2).buoys (32 * 449 + 11)).fromLimit + 1)) ∧
    ((st 0).st 449 ≠ PageSt.off ∧ (st 0).st 449 ≠ PageSt.fault ∧ (st 0).st 449 ≠ PageSt.test ∧ (449 = pkByt ∧ 3 < 12 ∨ 449 = pkByv ∧ 3 < 16 ∨ 449 =
      pkByp ∧ 3 < 4) ∧ 1 ≤ (st 0).fld 449 (BYT_CFG_FILT.ix 3 16) ∧ (st 0).fld 449 (BYT_VAL_STATE.ix 3 16) < 3 ∧ (st 0).fld 449 (BYT_CFG_MODE.ix 3 16)
      < 3 ∧ ¬((st 0).fld 449 (BYT_VAL_STATE.ix 3 16) ≠ 2 ∧ (((st 0).fld 449 (BYT_CFG_MODE.ix 3 16) = 1 ∧ (if 449 = pkByt ∧ 32768 ≤ (st 0).fld 449
      (BYT_TH_B.ix 3 16) then ↑((st 0).fld 449 (BYT_TH_B.ix 3 16)) - 65536 else ↑((st 0).fld 449 (BYT_TH_B.ix 3 16))) < if 449 = pkByt ∧ 32768 ≤
      (1080#16).toNat then ↑(1080#16).toNat - 65536 else ↑(1080#16).toNat) ∨ ((st 0).fld 449 (BYT_CFG_MODE.ix 3 16) = 2 ∧ (if 449 = pkByt ∧ 32768 ≤
      (1080#16).toNat then ↑(1080#16).toNat - 65536 else ↑(1080#16).toNat) < if 449 = pkByt ∧ 32768 ≤ (st 0).fld 449 (BYT_TH_B.ix 3 16) then
      ↑((st 0).fld 449 (BYT_TH_B.ix 3 16)) - 65536 else ↑((st 0).fld 449 (BYT_TH_B.ix 3 16))) ∨ (st 0).fld 449 (BYT_CFG_MODE.ix 3 16) = 0 ∧ (((if 449
      = pkByt ∧ 32768 ≤ (1080#16).toNat then ↑(1080#16).toNat - 65536 else ↑(1080#16).toNat) < if 449 = pkByt ∧ 32768 ≤ (st 0).fld 449 (BYT_TH_A.ix 3
      16) then ↑((st 0).fld 449 (BYT_TH_A.ix 3 16)) - 65536 else ↑((st 0).fld 449 (BYT_TH_A.ix 3 16))) ∨ (if 449 = pkByt ∧ 32768 ≤ (st 0).fld 449
      (BYT_TH_B.ix 3 16) then ↑((st 0).fld 449 (BYT_TH_B.ix 3 16)) - 65536 else ↑((st 0).fld 449 (BYT_TH_B.ix 3 16))) < if 449 = pkByt ∧ 32768 ≤
      (1080#16).toNat then ↑(1080#16).toNat - 65536 else ↑(1080#16).toNat)) ∧ (st 0).fld 449 (BYT_CFG_FILT.ix 3 16) ≤ (tget { } (st 0).buoys (32 * 449
      + 3)).limitRun + 1) ∧ ¬((st 0).fld 449 (BYT_VAL_STATE.ix 3 16) = 0 ∧ (((st 0).fld 449 (BYT_CFG_MODE.ix 3 16) = 1 ∧ (if 449 = pkByt ∧ 32768 ≤
      (st 0).fld 449 (BYT_TH_A.ix 3 16) then ↑((st 0).fld 449 (BYT_TH_A.ix 3 16)) - 65536 else ↑((st 0).fld 449 (BYT_TH_A.ix 3 16))) < if 449 = pkByt
      ∧ 32768 ≤ (1080#16).toNat then ↑(1080#16).toNat - 65536 else ↑(1080#16).toNat) ∨ (st 0).fld 449 (BYT_CFG_MODE.ix 3 16) = 2 ∧ (if 449 = pkByt ∧
      32768 ≤ (1080#16).toNat then ↑(1080#16).toNat - 65536 else ↑(1080#16).toNat) < if 449 = pkByt ∧ 32768 ≤ (st 0).fld 449 (BYT_TH_A.ix 3 16) then
      ↑((st 0).fld 449 (BYT_TH_A.ix 3 16)) - 65536 else ↑((st 0).fld 449 (BYT_TH_A.ix 3 16))) ∧ (st 0).fld 449 (BYT_CFG_FILT.ix 3 16) ≤ (tget { }
      (st 0).buoys (32 * 449 + 3)).warnRun + 1) ∧ ¬((st 0).fld 449 (BYT_VAL_STATE.ix 3 16) = 1 ∧ ((st 0).fld 449 (BYT_CFG_MODE.ix 3 16) = 1 ∧ (if 449
      = pkByt ∧ 32768 ≤ (1080#16).toNat then ↑(1080#16).toNat - 65536 else ↑(1080#16).toNat) ≤ (if 449 = pkByt ∧ 32768 ≤ (st 0).fld 449 (BYT_TH_A.ix 3
      16) then ↑((st 0).fld 449 (BYT_TH_A.ix 3 16)) - 65536 else ↑((st 0).fld 449 (BYT_TH_A.ix 3 16))) - ↑((st 0).fld 449 (BYT_CFG_HYST.ix 3 16)) ∨
      ((st 0).fld 449 (BYT_CFG_MODE.ix 3 16) = 2 ∧ (if 449 = pkByt ∧ 32768 ≤ (st 0).fld 449 (BYT_TH_A.ix 3 16) then ↑((st 0).fld 449 (BYT_TH_A.ix 3
      16)) - 65536 else ↑((st 0).fld 449 (BYT_TH_A.ix 3 16))) + ↑((st 0).fld 449 (BYT_CFG_HYST.ix 3 16)) ≤ if 449 = pkByt ∧ 32768 ≤ (1080#16).toNat
      then ↑(1080#16).toNat - 65536 else ↑(1080#16).toNat) ∨ (st 0).fld 449 (BYT_CFG_MODE.ix 3 16) = 0 ∧ ((if 449 = pkByt ∧ 32768 ≤ (st 0).fld 449
      (BYT_TH_A.ix 3 16) then ↑((st 0).fld 449 (BYT_TH_A.ix 3 16)) - 65536 else ↑((st 0).fld 449 (BYT_TH_A.ix 3 16))) + ↑((st 0).fld 449
      (BYT_CFG_HYST.ix 3 16)) ≤ if 449 = pkByt ∧ 32768 ≤ (1080#16).toNat then ↑(1080#16).toNat - 65536 else ↑(1080#16).toNat) ∧ (if 449 = pkByt ∧
      32768 ≤ (1080#16).toNat then ↑(1080#16).toNat - 65536 else ↑(1080#16).toNat) ≤ (if 449 = pkByt ∧ 32768 ≤ (st 0).fld 449 (BYT_TH_B.ix 3 16) then
      ↑((st 0).fld 449 (BYT_TH_B.ix 3 16)) - 65536 else ↑((st 0).fld 449 (BYT_TH_B.ix 3 16))) - ↑((st 0).fld 449 (BYT_CFG_HYST.ix 3 16))) ∧ (st 0).fld
      449 (BYT_CFG_FILT.ix 3 16) ≤ (tget { } (st 0).buoys (32 * 449 + 3)).fromWarn + 1 ∨ (st 0).fld 449 (BYT_VAL_STATE.ix 3 16) = 2 ∧ ((st 0).fld 449
      (BYT_CFG_MODE.ix 3 16) = 1 ∧ (if 449 = pkByt ∧ 32768 ≤ (1080#16).toNat then ↑(1080#16).toNat - 65536 else ↑(1080#16).toNat) ≤ (if 449 = pkByt ∧
      32768 ≤ (st 0).fld 449 (BYT_TH_B.ix 3 16) then ↑((st 0).fld 449 (BYT_TH_B.ix 3 16)) - 65536 else ↑((st 0).fld 449 (BYT_TH_B.ix 3 16))) -
      ↑((st 0).fld 449 (BYT_CFG_HYST.ix 3 16)) ∨ ((st 0).fld 449 (BYT_CFG_MODE.ix 3 16) = 2 ∧ (if 449 = pkByt ∧ 32768 ≤ (st 0).fld 449 (BYT_TH_B.ix 3
      16) then ↑((st 0).fld 449 (BYT_TH_B.ix 3 16)) - 65536 else ↑((st 0).fld 449 (BYT_TH_B.ix 3 16))) + ↑((st 0).fld 449 (BYT_CFG_HYST.ix 3 16)) ≤ if
      449 = pkByt ∧ 32768 ≤ (1080#16).toNat then ↑(1080#16).toNat - 65536 else ↑(1080#16).toNat) ∨ (st 0).fld 449 (BYT_CFG_MODE.ix 3 16) = 0 ∧ ((if
      449 = pkByt ∧ 32768 ≤ (st 0).fld 449 (BYT_TH_A.ix 3 16) then ↑((st 0).fld 449 (BYT_TH_A.ix 3 16)) - 65536 else ↑((st 0).fld 449 (BYT_TH_A.ix 3
      16))) + ↑((st 0).fld 449 (BYT_CFG_HYST.ix 3 16)) ≤ if 449 = pkByt ∧ 32768 ≤ (1080#16).toNat then ↑(1080#16).toNat - 65536 else ↑(1080#16).toNat)
      ∧ (if 449 = pkByt ∧ 32768 ≤ (1080#16).toNat then ↑(1080#16).toNat - 65536 else ↑(1080#16).toNat) ≤ (if 449 = pkByt ∧ 32768 ≤ (st 0).fld 449
      (BYT_TH_B.ix 3 16) then ↑((st 0).fld 449 (BYT_TH_B.ix 3 16)) - 65536 else ↑((st 0).fld 449 (BYT_TH_B.ix 3 16))) - ↑((st 0).fld 449
      (BYT_CFG_HYST.ix 3 16))) ∧ (st 0).fld 449 (BYT_CFG_FILT.ix 3 16) ≤ (tget { } (st 0).buoys (32 * 449 + 3)).fromLimit + 1)) ∧
    ((st 4).pw.tide = Tide.dryDock) ∧
    ((st 0).pw.tide ≠ Tide.dryDock) :=
  ⟨by decide, by decide, by decide, by decide, by decide, by decide,
    by decide⟩
end W20b

/-! ### Witnesses for the statements about every command -/

/-- A queue with a command at its front, for StepRunsFront. -/
theorem test_meets_StepRunsFront : ({ State.reset with pending := [.pllALockLoss] } : State).pending = [.pllALockLoss] := rfl

/-- States with memory in canonical form that take a step, for MemoryCanonicalStep. -/
theorem test_meets_MemoryCanonicalStep :
    (putW State.reset 0x20000000 [1, 0x5A00]).memOk ∧ step (putW State.reset 0x20000000 [1, 0x5A00]) = .next (putW State.reset 0x20000000 [1, 0x5A00]).idle :=
  ⟨by unfold State.memOk; decide, rfl⟩

/-- The state after reset keeps the untested pages out of TEST and steps, for FixedPagesStayLive. -/
theorem test_meets_FixedPagesStayLive : State.reset.fixedLive ∧ step State.reset = .next State.reset.idle :=
  ⟨by unfold State.fixedLive; decide, rfl⟩

/-- Loop 7 in RUN with a signal and an edge behind it, for EdgesKeepTmin. -/
def loopOn : State := (witSt (pkHl 7) .run State.reset).setLoop 7 { sig := some true, lastEdge := some 5 }

theorem test_meets_EdgesKeepTmin : loopOn.st (pkHl 7) = .run ∧ (loopOn.loop 7).sig ≠ none ∧ (loopOn.loop 7).lastEdge = some 5 ∧
    loopOn.bit (pkHc (bridgeOf 7)) HC_STAT_SWAP_BUSY = false := by decide

/-! ### The well-formedness check -/

/-- A list of commands that the well-formedness check refuses, one after another. -/
def refuses (l : List Instr) : Bool := l.all (fun c => !Instr.wf c)
/-- One ill-formed command for each check of Instr.wf, part 1. -/
theorem test_wf_refuses_1 : refuses
  [.registerWrite (.ac 4) 0 4 0, .registerWrite .dredge 4294967296 4 0, .registerWrite .dredge 0 3 0, .rcRead (.ac 4) 0 4,
    .rcRead .dredge 4294967296 4, .rcRead .dredge 0 3, .lowWordRead (.ac 4) 0 4, .lowWordRead .dredge 4294967296 4,
    .lowWordRead .dredge 0 3, .enableWrite (.ac 4) 0 0 true, .enableWrite .dredge 4095 0 true, .blockInitialised 4095,
    .disableWrite (.ac 4) 0 0 true, .disableWrite .dredge 4095 0 true, .drainEnd 4095, .lockWrite (.ac 4) 0, .lockWrite .dredge 4095,
    .blockStart 4095, .blockStop 4095, .keyWord (.ac 4) 0 0, .keyWord .dredge 4095 0, .keyTimeout 4095, .swapReq (.ac 4) 0,
    .swapReq .dredge 4095, .swapPoint 4095, .copy (.ac 4) 0, .copy .dredge 4095, .copyDone 4095, .pageWake (.ac 4) 0 none,
    .pageWake .dredge 4294967296 none, .wakeTimeout (.ac 4) 0, .wakeTimeout .dredge 4095, .quayWord .sar 32 0 .none,
    .gateCommandSilence 18, .memoryRead (some (.cv 4)) 0 4 .none, .memoryRead none 4294967296 4 .none, .memoryRead none 0 3 .none,
    .engineInputWrite (.ac 4) 0 0 0, .engineInputWrite .dredge 6 0 0, .engineInputWrite .dredge 0 32 0] = true := by decide

/-- One ill-formed command for each check of Instr.wf, part 2. -/
theorem test_wf_refuses_2 : refuses
  [.handshakeTransfer 256 0, .streamWord 256 0 true, .doubleSample 256 0 0, .sluiceDisagreement 256 none,
    .sluiceDisagreement 0 (some (.cv 4)), .srcChange (.ac 4) 0 true, .wake 4, .canWake 2, .mauloWake 2, .ebb (.ac 4), .drydockNext (.ac 4),
    .tryOther (.ac 4), .confirm (.ac 4), .updateOpen (.ac 4) 0, .updData (.ac 4) 0, .closeVerify (.ac 4), .fastSample [],
    .preciseSample [], .cmFault 18, .gainWrite (.ac 4) 0 0, .gainWrite .dredge 19 0, .tenderRequest (.ac 4) 0, .tenderRequest .dredge 18,
    .tenderWithdraw (.ac 4), .emergencyRelief 18, .glitch 12, .acceptedEdge 12 true true true 0, .absoluteSample 12 0 0, .standstill 12,
    .countWindow 12, .ssiFrameStart 12, .ssiFrameEnd 12 0, .spiPoll 12, .framedTimeout 12, .observerUpdate 4 0 0 true, .resolverLock 4 0,
    .slackPulse 12 true true true true, .runCommit 6 0, .go (.ac 4) 0, .go .dredge 6] = true := by decide

/-- One ill-formed command for each check of Instr.wf, part 3. -/
theorem test_wf_refuses_3 : refuses
  [.checkComplete 6, .pairTimeout 6, .capstanNop 6, .capstanMov 6, .capstanAdd 6, .capstanSub 6, .capstanMul 6, .capstanFma 6,
    .capstanMin 6, .capstanMax 6, .capstanAbs 6, .capstanNeg 6, .capstanSel 6, .capstanDiv 6, .capstanSqrt 6, .capstanWrap 6,
    .capstanSld 6, .capstanSst 6, .capstanRef 6, .capstanClk 6, .capstanIclk 6, .capstanPark 6, .capstanIpark 6, .capstanPi 6,
    .capstanHys 6, .capstanBiq 6, .capstanLim 6, .capstanSlew 6, .capstanSwl 6, .capstanInj 6, .capstanCap 6, .zeroSwap 6,
    .clear (.ac 4) 0 0, .clear .dredge 6 0, .resume (.ac 4) 0 0, .resume .dredge 6 0, .injectionArm (.ac 4) 0, .injectionArm .dredge 6,
    .injectionStop (.ac 4) 0, .injectionStop .dredge 6] = true := by decide

/-- One ill-formed command for each check of Instr.wf, part 4. -/
theorem test_wf_refuses_4 : refuses
  [.captureClaim (.ac 4) 0 0, .captureClaim .dredge 6 0, .captureArm (.ac 4) 0, .captureArm .dredge 6, .captureForce (.ac 4) 0,
    .captureForce .dredge 6, .captureRelease (.ac 4) 0, .captureRelease .dredge 6, .commandWord 18 0, .switchAction 18, .seawallEnable 6,
    .vgdUvlo 6, .bootstrapUvlo 18 true, .bootstrapRefresh 18, .didtTrip 18 true true, .vdsTrip 18 true true, .softSinkHandover 18,
    .latchHoldExpiry 18, .readbackMismatch 18, .leakageCheck (.ac 4) 0 0, .leakageCheck .dredge 18 0,
    .leakDone 18 ⟨0, 0, false⟩ ⟨0, 0, false⟩, .isClose (.ac 4) 0, .isClose .dredge 18, .isOpen (.ac 4) 0, .isOpen .dredge 18,
    .permitRise 18, .permitWithdrawn 18, .isolationClosed 18, .isolationOpened 18, .closeTimeout 18, .openTimeout 18, .openTmo 18,
    .coveStart (.ac 4) 0, .coveStart .dredge 4, .swi (.ac 4) 0, .swi .dredge 4, .timerLoad 4 true 0, .coveTimer 4, .iflagWrite 4 true 0] = true := by decide

/-- One ill-formed command for each check of Instr.wf, part 5. -/
theorem test_wf_refuses_5 : refuses
  [.outWrite 4 0 0, .outWrite 0 16 0, .farRead 4, .farWrite 4, .farDone 4, .chkpt 4 true, .haltreq 4 true, .fastInterrupt 4 true,
    .normalInterrupt 4 true, .coveRelease 4 0 0, .coveRelease 0 4294967296 0, .coveWindowClose 4 true, .coveSignatureCompare 4,
    .coveCopyDone 4 [], .coveDrainTimeout 4, .parallelNop 4 true, .parallelMac 4 true, .parallelMsu 4 true, .parallelMpy 4 true,
    .parallelAdd 4 true, .parallelSub 4 true, .parallelAnd 4 true, .parallelOr 4 true, .parallelXor 4 true, .parallelFadd 4 true,
    .parallelFsub 4 true, .parallelFmul 4 true, .parallelFma 4 true, .parallelAdda 4 true, .parallelRnd 4 true, .parallelClr 4 true,
    .registerAdd 4 true, .registerSub 4 true, .registerCmp 4 true, .registerAnd 4 true, .registerOr 4 true, .registerXor 4 true,
    .registerNot 4 true, .registerNeg 4 true, .registerAbs 4 true] = true := by decide

/-- One ill-formed command for each check of Instr.wf, part 6. -/
theorem test_wf_refuses_6 : refuses
  [.registerMin 4 true, .registerMax 4 true, .registerMuli 4 true, .registerAsr 4 true, .registerLsr 4 true, .registerLsl 4 true,
    .registerFadd 4 true, .registerFsub 4 true, .registerFmul 4 true, .registerFma 4 true, .registerFmin 4 true, .registerFmax 4 true,
    .registerFabs 4 true, .registerFneg 4 true, .registerFrcp 4 true, .registerFrsq 4 true, .registerFcmp 4 true, .registerFlt 4 true,
    .registerFix 4 true, .registerFltq 4 true, .registerFixq 4 true, .ldl 4 true, .ldh 4 true, .addi 4 true, .cmpi 4 true, .asri 4 true,
    .lsri 4 true, .lsli 4 true, .lda 4 true, .inca 4 true, .ldml 4 true, .ldmh 4 true, .classMMove 4 true, .directLoad 4 true,
    .directStore 4 true, .accumulatorShift 4 true, .bra 4 true, .call 4 true, .ret 4 true, .reti 4 true] = true := by decide

/-- One ill-formed command for each check of Instr.wf, part 7. -/
theorem test_wf_refuses_7 : refuses
  [.retf 4 true, .rep 4 true, .ftap 4 true, .illegalInstruction 4 true, .retiredInstruction 4 0 .mret,
    .retiredInstruction 0 0 (.plain 65 0 0), .checkerRetire 4 0 0 .mret .none, .checkerRetire 0 0 0 (.plain 65 0 0) .none,
    .machineInterrupt 4 true 7, .machineInterrupt 0 true 19, .machineInterrupt 0 true 8, .quayStore 4 0 0 4 0, .quayStore 0 0 0 3 0,
    .quayRelease 4 0 0 0 4 0 .none, .quayRelease 0 0 0 0 3 0 .none, .fence 4 0 true, .writeError 4, .parityFailure 4 true 1,
    .parityFailure 0 true 0, .parityFailure 0 true 65, .appWindowClose 4 true, .appSignatureCompare 4 true, .kzchkpt 4 0 0 0,
    .kzchkpt 0 0 65 0, .checkpointCompare 4 true, .repairEnd 4 [], .restartCopyDone 4 [], .appStart (.ac 4) 0, .appStart .dredge 4,
    .appDrainTimeout 4, .debugHalt 4, .debugRegisterWrite 4 0 0, .debugRegisterWrite 0 65536 0, .systemBusWrite 4294967296 4 0,
    .systemBusWrite 0 3 0, .debugResume 4, .singleStep 4 0 .mret, .singleStep 0 0 (.plain 65 0 0), .debuggerAttach 4, .debuggerDetach 4] = true := by decide

/-- One ill-formed command for each check of Instr.wf, part 8. -/
theorem test_wf_refuses_8 : refuses
  [.phaseCurrentTrip 18 true, .dcLinkWindow 6, .commandEdgeRate 18, .clusterTemperature 6, .shootThroughReport 18, .softCutEnd 6,
    .wdAns (.ac 4) 0 true, .sealConfirm (.ac 4) 0, .sealKey (.ac 4) 0, .pennant 640 none .none, .errorLine 640, .lineCheckTimeout 640,
    .quietExpiry 32, .ack (.ac 4) 0, .historyRelease (.ac 4), .linkUp 4 0, .linkUp 0 8, .linkLoss 4, .dataFrame 4 0 .good [],
    .syncFrame 4 0 .good [], .startFrame 4 0 .good [], .leadFrame 4 0 .good [], .leadResponse 4, .leadNotice 4, .slotStart 2 0 0 0,
    .slotStart 0 64 0 0, .syncWindowClose 2, .return (.ac 4), .commit (.ac 4) 0, .commit .dredge 256, .canFrameReceived 4 0 0 0 [] true,
    .canFrameReceived 0 0 0 16 [] true, .canTransmit 4, .busOff 4 0 0, .busRecovery 4, .recover (.ac 4) 0, .recover .dredge 4,
    .abortTx (.ac 4) 0, .abortTx .dredge 4, .fifoPop (.ac 4) 0] = true := by decide

/-- One ill-formed command for each check of Instr.wf, part 9. -/
theorem test_wf_refuses_9 : refuses
  [.fifoPop .dredge 4, .spiTransmit (.ac 4) 0 0, .spiTransmit .dredge 6 0, .spiFrameDone 6 0, .sentFrame 8 0 0 0 true 0, .sentTimeout 8,
    .sarStart (.ac 4) 0, .sarStart .dredge 2, .sarTrigger 2 1, .sarTrigger 0 0, .sarTrigger 0 4, .sarConversion 2 0 true,
    .supplyOutOfWindow 4 true, .thermalShutdown 4, .sensorSupplyEnable (.ac 4) 0, .mooringLinkUp 2, .mooringLinkLoss 2, .peerAbsent 2,
    .rawFrame 2 .good [], .xchkFrame 2 .good [], .stateFrame 2 .good [] 0 0, .stateFrame 0 .good [] 8 0, .healthFrame 2 .good [],
    .helloFrame 2 .good [], .peerLost 2, .beacon 2 0, .beacon 0 4, .beaconTimeout 2, .lineMismatch 2, .bolInChange 2 true,
    .caughtUp (.ac 4), .xswapMask (.ac 4) 0, .testEnd 4095 true, .testTimeout 4095, .abortAll (.ac 4), .sweep (.ac 4),
    .buoySample 4095 0 0, .buoySample 0 16 0, .vgdUvloRelease 6, .commonModeReturn 18] = true := by decide

/-- One ill-formed command for each check of Instr.wf, part 10. -/
theorem test_wf_refuses_10 : refuses
  [.cmFaultLasting 18] = true := by decide

/-- Ill-formed operands of the application cores' instructions and of initiators. -/
theorem test_wf_refuses_operands :
    ([.plain 65 0 0, .load 0 3 false 1, .load 0 4 false 65, .store 0 3 0, .lr 0 32, .sc 0 0 32, .amo .add 0 0 32, .csr 4096 0 none,
      .csr 0 32 none] : List AppAct).all (fun a => !a.wf) = true ∧
    ([.ac 4, .cv 4] : List Initiator).all (fun i => !i.wf) = true := by decide

/-! ### Values the spec works out -/

/-- The enabling example of ch. 02, steps 3 and 4: GL7 with both keys written takes DRAIN_MODE 0b11 as 0b01. -/
def keyed : State := State.reset.modPage (pkGl 7) (fun p => { p with key := .opened (.ac 0) })
theorem test_enable_keyed :
    (nxt (.enableWrite (.ac 0) (pkGl 7) 3#2 false) keyed).view (pkGl 7) 0x004 = 0x00000003#32 ∧
    (nxt (.enableWrite (.ac 0) (pkGl 7) 3#2 false) keyed).view (pkGl 7) 0x018 = 0x00010004#32 := by decide
/-- The same write without the keys is refused whole. -/
theorem test_enable_unkeyed :
    (nxt (.enableWrite (.ac 0) (pkGl 7) 3#2 false) State.reset).view (pkGl 7) 0x004 = 0#32 ∧
    (nxt (.enableWrite (.ac 0) (pkGl 7) 3#2 false) State.reset).view (pkGl 7) 0x018 = 0x03010004#32 := by decide
/-- Step 7: writing 1 to CLAMPED clears it and the log. -/
theorem test_clear_clamped :
    let s := State.reset.modPage (pkGl 7) (fun p => { p with st := .idle, en := true, clamped := true, clampCount := 1, clampOff := 4 })
    (nxt (.registerWrite (.ac 0) 0x400C7008 4 0x100#32) s).view (pkGl 7) 0x018 = 0#32 := by decide
/-- PAGE_ID of GL7 (ch. 02, step 1). -/
theorem test_page_id : State.reset.view (pkGl 7) 0 = 0x01070600#32 := by decide

set_option maxRecDepth 4000 in
/-- R415: the check value of CRC-32C over "123456789". -/
theorem test_crc32c : crc32c ([0x31, 0x32, 0x33, 0x34, 0x35, 0x36, 0x37, 0x38, 0x39] : List (BitVec 8)) = 0xE3069283#32 := by decide

/-- The last bin of table 3 of CE5 (ch. 01). -/
theorem test_swell_address : swBin 5 3 1023 = 0x33017FFC := by decide

set_option maxRecDepth 4000 in
/-- Binary32 rounds to nearest, ties to even (ch. 07): 1 + 2^-24 is 1, 1 + 3 * 2^-24 is 1 + 2^-22; sqrt 2. -/
theorem test_binary32 : (fadd f32 0x3F800000 0x33800000).1 = 0x3F800000 ∧ (fadd f32 0x3F800000 0x34400000).1 = 0x3F800002 ∧
    (fsqrt f32 0x40000000).1 = 0x3FB504F3 := by decide

/-- The two operation words of ch. 07. -/
theorem test_op_words : opFields 0x800D030008100000 = ⟨0x20, 0x00D, 0x00C, 0, 0x204, 0, 0⟩ ∧
    opFields 0x4800050000000002 = ⟨0x12, 0, 0x014, 0, 0, 0, 2⟩ := by decide

/-- The band example of ch. 08: 420 codes and a counted period of 36.0 µs give 415.8 codes. -/
theorem test_band_narrows : bandUpdate (420 * 256) 230400 300 3 (82 * 256) (1638 * 256) = 106445 := by decide

/-- The prediction example of ch. 08: e = 415.763 67 codes and s = 13.105 47 place the edge at tap 413. -/
theorem test_edge_placed : wantEdge true true 27247488 (420 * 65536) 3355 = some 413 := by decide

/-- The filter's words of ch. 12 are legal and have the codes of their instructions. -/
theorem test_fir_words :
    ([0xA0008000, 0x9000013F, 0x9080023F, 0x78022000, 0xB800003F, 0xC0090000, 0x71000000, 0xA2108040].map (fun w =>
      (cvCode w, decide (({} : CvCore).bad w = none)))) =
    [(0xA1, true), (0x90, true), (0x90, true), (15, true), (0xB8, true), (0xB9, true), (14, true), (0xA2, true)] := by decide

/-- R409: the generator goes from 0xACE1 to 0x59C3. -/
theorem test_lfsr : lfsrStep 0xACE1 = 0x59C3 := by decide
/-- R409: the answers to question 0x9C35. -/
theorem test_wd_answers : wdAnswer 0x9C35 0 = 0xA491 ∧ wdAnswer 0x9C35 1 = 0xC2F7 := by decide

/-- Steps 4 and 6 of the commissioning example of ch. 14. -/
def sealed (cs : Nat) (kf : Bool) : State :=
  let s := (State.reset.setFld pkSea SEAWALL_COMM_CSTATE cs).setWord pkSea SEAWALL_SEAL_CALC 0x3A7F19C2#32
  { s with pw := { s.pw with tide := .dryDock, kdUp := true }, sea := { s.sea with keyFirst := kf, mfPassed := true, mfBank := some 1 } }
theorem test_seal_confirmed : (nxt (.sealConfirm .jtag 0x3A7F19C2#32) (sealed 0 false)).fld pkSea SEAWALL_COMM_CSTATE = 1 := by decide
theorem test_seal_keyed : (nxt (.sealKey .jtag 0xC580E63D#32) (sealed 1 true)).fld pkSea SEAWALL_COMM_CSTATE = 2 := by decide

/-- The pennant of ch. 15. -/
theorem test_pennant : Pennant.word ⟨0x0A7, 8#6, 1, 5#6, 1#8, 0#32⟩ = 0x29C8450100000000#64 ∧
    pennantOf 0x29C8450100000000#64 = ⟨0x0A7, 8#6, 1, 5#6, 1#8, 0#32⟩ := by decide

/-- The slot entries of ch. 16 read as the example states. -/
theorem test_slot_words :
    let s := (State.reset.setReg pkMs 0x818 0xC00000FF#32).setReg pkMs 0x81C 0x0A00006E#32
    let u := (State.reset.setReg pkMs 0xE18 0xC00000FF#32).setReg pkMs 0xE1C 0x0A03006E#32
    s.slotIn false 0 3 = ⟨true, true, 0, 255, 10, 0, 0, 110⟩ ∧ u.slotIn false 3 3 = ⟨true, true, 0, 255, 10, 0, 3, 110⟩ := by decide

/-- The token example of ch. 20: with SX, CV1 and MA0 running, MA1 is granted and 26 tokens are out; MB0 then waits. -/
def tokens (running waiting : List Nat) : State :=
  { State.reset with dr := { State.reset.dr with running := running.filterMap drTest, queue := waiting.filterMap drTest, phase := .floodRun } }
theorem test_tokens_free : (tokens [pkSx, pkCv 1, pkPort 0, pkPort 1] [pkPort 2, pkPort 3]).tokensFree = 4 := by decide
theorem test_token_waits :
    let s := tokens [pkSx, pkCv 1, pkPort 0, pkPort 1] [pkPort 2, pkPort 3]
    (nxt .tokenGrant s).dr.running = s.dr.running := by decide

end Sys2Proof.Tests
end

section
/-!
The Tender's requests (R145): what TENDER_REQUEST, TENDER_WITHDRAW and a bus write of TD_REQ do to the Tender, and the start of
the service that a pending request asks for.
-/
namespace Sys2Proof.Machine

/-! ### The Tender's record and the key sequence beside the registers -/

@[simp] theorem State.setTd_td (s : State) (t : Tender) : (s.setTd t).td = t := rfl
@[simp] theorem State.reg_setTd (s : State) (t : Tender) (k off : Nat) : (s.setTd t).reg k off = s.reg k off := rfl
@[simp] theorem State.fld_setTd (s : State) (t : Tender) (k : Nat) (f : Field) : (s.setTd t).fld k f = s.fld k f := rfl
@[simp] theorem State.bit_setTd (s : State) (t : Tender) (k : Nat) (f : Field) : (s.setTd t).bit k f = s.bit k f := rfl

theorem State.bit_setFld_ne (s : State) {k j : Nat} {f g : Field} (v : Nat)
    (h : k ≠ j ∨ f.off ≠ g.off ∨ (f.fits ∧ g.fits ∧ (g.lo + g.width ≤ f.lo ∨ f.lo + f.width ≤ g.lo))) :
    (s.setFld k f v).bit j g = s.bit j g := by
  rw [State.bit, State.bit, State.fld_setFld_ne _ _ h]

/-- The key sequence moves in the header alone (R64): a page's state, registers, banks and active bank stay. -/
theorem Page.keyTake_keeps (p : Page) (who : Initiator) :
    (p.keyTake who).1.st = p.st ∧ (p.keyTake who).1.regs = p.regs ∧ (p.keyTake who).1.bankA = p.bankA ∧
      (p.keyTake who).1.bankB = p.bankB ∧ (p.keyTake who).1.activeB = p.activeB := by
  unfold Page.keyTake
  cases p.key with
  | idle => exact ⟨rfl, rfl, rfl, rfl, rfl⟩
  | first w => exact ⟨rfl, rfl, rfl, rfl, rfl⟩
  | opened w => dsimp only; split <;> exact ⟨rfl, rfl, rfl, rfl, rfl⟩

@[simp] theorem State.reg_keyTaken (s : State) (k j off : Nat) (who : Initiator) :
    (s.keyTaken k who).reg j off = s.reg j off :=
  s.reg_modPage k j off (fun p => (p.keyTake who).1) ((s.page k).keyTake_keeps who).2

@[simp] theorem State.bit_keyTaken (s : State) (k j : Nat) (f : Field) (who : Initiator) :
    (s.keyTaken k who).bit j f = s.bit j f := by
  simp [State.bit, State.fld]

@[simp] theorem State.st_keyTaken_same (s : State) (k : Nat) (who : Initiator) : (s.keyTaken k who).st k = s.st k := by
  simp [State.st, State.keyTaken, Page.keyTake_keeps]

/-- Outside TEST a command takes its effect behind the key sequence (R53, R64). -/
theorem State.command_of_not_test {s : State} {k : Nat} (h : s.st k ≠ .test) (who : Initiator) (f : State → State) :
    s.command k who f = f (s.keyTaken k who) := by
  simp [State.command, h]

/-! ### Frames -/

theorem Kept.refl (ps : List Nat) (rs : List (Nat × Nat)) (s : State) : Kept ps rs s s :=
  ⟨fun _ _ => rfl, fun _ _ _ => rfl⟩

theorem Kept.trans {ps : List Nat} {rs : List (Nat × Nat)} {s t u : State} (h : Kept ps rs s t) (g : Kept ps rs t u) :
    Kept ps rs s u :=
  ⟨fun k hk => (g.1 k hk).trans (h.1 k hk), fun k off ho => (g.2 k off ho).trans (h.2 k off ho)⟩

theorem kept_keyTaken (rs : List (Nat × Nat)) (s : State) (k : Nat) (who : Initiator) : Kept [k] rs s (s.keyTaken k who) :=
  ⟨fun _ hj => s.page_setPage_ne _ (Ne.symm (List.ne_of_not_mem_cons hj)), fun j off _ => s.reg_keyTaken k j off who⟩

theorem kept_setTd (ps : List Nat) (rs : List (Nat × Nat)) (s : State) (t : Tender) : Kept ps rs s (s.setTd t) :=
  ⟨fun _ _ => rfl, fun _ _ _ => rfl⟩

theorem kept_setBit (s : State) (k : Nat) (f : Field) (b : Bool) : Kept [k] [(k, f.off)] s (s.setBit k f b) := by
  constructor
  · exact fun j hj => s.page_setBit_ne f b (Ne.symm (List.ne_of_not_mem_cons hj))
  · intro j off ho
    have hne : ¬ (k = j ∧ f.off = off) := fun ⟨hk, hoff⟩ => ho (by simp [hk, hoff])
    rw [State.setBit, State.setFld, State.reg_setReg, if_neg hne]

/-! ### The two commands -/

/-- The Tender takes a request for channel k (R145): pending where none was, ignored beside one that is. -/
def TenderTakes (s : State) (k : Nat) (t : State) : Prop :=
  (s.td.req = none → t.td = { s.td with req := some k } ∧ t.bit pkCst CST_TD_STAT_REQ_PENDING = true ∧
    t.bit pkCst CST_TD_STAT_REQ_IGNORED = s.bit pkCst CST_TD_STAT_REQ_IGNORED) ∧
  (s.td.req ≠ none → t.td = s.td ∧ t.bit pkCst CST_TD_STAT_REQ_IGNORED = true ∧
    t.bit pkCst CST_TD_STAT_REQ_PENDING = s.bit pkCst CST_TD_STAT_REQ_PENDING) ∧
  Kept [pkCst] [(pkCst, CST_TD_STAT.off)] s t ∧ Quiet s t

/-- The Tender's pending request is withdrawn (R145). -/
def TenderDrops (s t : State) : Prop :=
  t.td = { s.td with req := none } ∧ t.bit pkCst CST_TD_STAT_REQ_PENDING = false ∧
    t.bit pkCst CST_TD_STAT_REQ_IGNORED = s.bit pkCst CST_TD_STAT_REQ_IGNORED ∧
    Kept [pkCst] [(pkCst, CST_TD_STAT.off)] s t ∧ Quiet s t

/-- A bit of TD_STAT set behind the writer's key step touches CST's header and TD_STAT alone. -/
theorem kept_tdStat_setBit {s u : State} {who : Initiator} (h : Kept [pkCst] [(pkCst, CST_TD_STAT.off)] (s.keyTaken pkCst who) u)
    (f : Field) (hf : f.off = CST_TD_STAT.off) (b : Bool) :
    Kept [pkCst] [(pkCst, CST_TD_STAT.off)] s (u.setBit pkCst f b) :=
  (kept_keyTaken _ s pkCst who).trans (h.trans (hf ▸ kept_setBit u pkCst f b))

theorem execTenderRequest_takes {s : State} {k : Nat} (who : Initiator) (hk : k < 18) (h : s.st pkCst ≠ .test) :
    ∃ t, execTenderRequest who k s = .next t ∧ TenderTakes s k t := by
  refine ⟨_, congrArg Host.Outcome.next (State.command_of_not_test h who _), ?_⟩
  have hclamp : ¬ 17 < k := by omega
  have hmin : min k 17 = k := by omega
  cases hreq : s.td.req with
  | none =>
    simp only [State.keyTaken_td, hreq, hclamp, hmin, if_false, Option.isSome_none, Bool.false_eq_true]
    refine ⟨fun _ => ⟨rfl, ?_, ?_⟩, fun hn => absurd hreq hn,
      kept_tdStat_setBit (kept_setTd _ _ _ _) CST_TD_STAT_REQ_PENDING rfl true, rfl, rfl, rfl, fun _ => rfl⟩
    · exact State.bit_setBit_same _ _ _ (by decide) rfl
    · simp (disch := decide) [State.bit_setBit_ne]
  | some c =>
    simp only [State.keyTaken_td, hreq, hclamp, if_false, Option.isSome_some, if_true]
    refine ⟨fun hn => by simp [hreq] at hn, fun _ => ⟨rfl, ?_, ?_⟩,
      kept_tdStat_setBit (Kept.refl _ _ _) CST_TD_STAT_REQ_IGNORED rfl true, rfl, rfl, rfl, fun _ => rfl⟩
    · exact State.bit_setBit_same _ _ _ (by decide) rfl
    · simp (disch := decide) [State.bit_setBit_ne]

theorem execTenderWithdraw_drops {s : State} (who : Initiator) (h : s.st pkCst ≠ .test) :
    ∃ t, execTenderWithdraw who s = .next t ∧ TenderDrops s t := by
  refine ⟨_, congrArg Host.Outcome.next (State.command_of_not_test h who _), ?_⟩
  refine ⟨rfl, ?_, ?_, kept_tdStat_setBit (kept_setTd _ _ _ _) CST_TD_STAT_REQ_PENDING rfl false, rfl, rfl, rfl, fun _ => rfl⟩
  · exact State.bit_setBit_same _ _ _ (by decide) rfl
  · simp (disch := decide) [State.bit_setBit_ne]

/-! ### TD_REQ over the bus -/

/-- What a bus write of TD_REQ commands: bit 8 is REQ, bits 4 to 0 are CH (R164). -/
def tdReqCommand (who : Initiator) (v : Word) : State → Result :=
  if bitN v.toNat 8 then execTenderRequest who (bitsN v.toNat 4 0) else execTenderWithdraw who

theorem State.answers.not_test {s : State} {k : Nat} (h : s.answers k) : s.st k ≠ .test := by
  obtain ⟨-, -, hst, -⟩ := h
  exact hst

theorem pageWrite_tdReq {s t : State} {who : Initiator} {v : Word} (h : s.st pkCst ≠ .test)
    (ht : tdReqCommand who v s = .next t) : s.pageWrite who pkCst 0x084 v = t := by
  have hblock : s.pageWrite who pkCst 0x084 v = (tdReqCommand who v s).state s := by
    unfold State.pageWrite tdReqCommand
    rw [if_neg (by decide), if_neg (by decide), if_neg (by simpa using h)]
    by_cases hb : bitN v.toNat 8 = true
    · rw [if_pos hb]; exact if_pos hb
    · rw [if_neg hb]; exact if_neg hb
  rw [hblock, ht]; rfl

theorem exec_registerWrite (who : Initiator) (addr bytes : Nat) (v : Word) (s : State) :
    exec (.registerWrite who addr bytes v) s = execRegisterWrite who addr bytes v s := rfl

/-- A write of TD_REQ on a page that answers is the command it names, acknowledged. -/
theorem completes_registerWrite_tdReq {s : State} {who : Initiator} {v : Word} {P : State → Prop} (h : s.answers pkCst)
    (hP : ∃ t, tdReqCommand who v s = .next t ∧ P (t.answer (.done who))) :
    Completes (.registerWrite who (0x40000000 + 0x1000 * pkCst + 0x084) 4 v) s (fun t => t.reply = .done who ∧ P t) := by
  obtain ⟨hpower, hclock, hst, -⟩ := h
  obtain ⟨t, ht, hPt⟩ := hP
  have hbus : s.busWrite who (0x40000000 + 0x1000 * pkCst + 0x084) 4 v = (t, .ok 0#32) := by
    have hpage : pageOf (0x40000000 + 0x1000 * pkCst + 0x084) = pkCst := by decide
    have hoff : offOf (0x40000000 + 0x1000 * pkCst + 0x084) = 0x084 := by decide
    unfold State.busWrite
    rw [if_neg (by decide), if_pos (by decide)]
    simp only [hpage, hoff, hpower, hclock, pageWrite_tdReq hst ht]
    rfl
  refine ⟨t.answer (.done who), ?_, rfl, hPt⟩
  rw [exec_registerWrite, execRegisterWrite, hbus]
  rfl

theorem tdReqCommand_request (who : Initiator) {k : Nat} (hk : k < 18) :
    tdReqCommand who (BitVec.ofNat 32 (256 + k)) = execTenderRequest who k := by
  have hbit : bitN (BitVec.ofNat 32 (256 + k)).toNat 8 = true := by interval_cases k <;> rfl
  have hch : bitsN (BitVec.ofNat 32 (256 + k)).toNat 4 0 = k := by interval_cases k <;> rfl
  rw [tdReqCommand, if_pos hbit, hch]

theorem tdReqCommand_withdraw (who : Initiator) {ch : Nat} (hch : ch < 32) :
    tdReqCommand who (BitVec.ofNat 32 ch) = execTenderWithdraw who := by
  have hbit : ¬ bitN (BitVec.ofNat 32 ch).toNat 8 = true := by interval_cases ch <;> decide
  rw [tdReqCommand, if_neg hbit]

/-! ### The service of a request -/

@[simp] theorem State.tdGo_td (s : State) (phase ch : Nat) : (s.tdGo phase ch).td = s.td := rfl

theorem State.tdCh_tdGo (s : State) (phase : Nat) {ch : Nat} (h : ch < 32) : (s.tdGo phase ch).tdCh = ch :=
  (State.fld_setFld_same _ _ _ (by decide)).trans (Nat.mod_eq_of_lt h)

theorem State.tdPhase_tdGo (s : State) {phase : Nat} (ch : Nat) (h : phase < 8) : (s.tdGo phase ch).tdPhase = phase :=
  (State.fld_setFld_ne _ _ (by decide)).trans ((State.fld_setFld_same _ _ _ (by decide)).trans (Nat.mod_eq_of_lt h))

theorem State.reqPending_tdGo (s : State) (phase ch : Nat) :
    (s.tdGo phase ch).bit pkCst CST_TD_STAT_REQ_PENDING = s.bit pkCst CST_TD_STAT_REQ_PENDING := by
  simp (disch := decide) [State.tdGo, State.bit_setFld_ne]

theorem State.reqPending_tdConnectTo (s : State) (k : Nat) :
    (s.tdConnectTo k).bit pkCst CST_TD_STAT_REQ_PENDING = s.bit pkCst CST_TD_STAT_REQ_PENDING := by
  simp (disch := decide) [State.tdConnectTo, State.reqPending_tdGo, State.bit_setFld_ne, State.bit_setBit_ne]

theorem State.reqPending_tdSelfcalAt (s : State) (gain : Nat) (next : Option Nat) (req : Bool) :
    (s.tdSelfcalAt gain next req).bit pkCst CST_TD_STAT_REQ_PENDING = s.bit pkCst CST_TD_STAT_REQ_PENDING := by
  simp (disch := decide) [State.tdSelfcalAt, State.reqPending_tdGo, State.bit_setBit_ne]

/-- A service connects the channel, or comes after a self-calibration at its gain; pending requests stay as they are (R146). -/
theorem State.tdServe_starts (s : State) {k : Nat} (req : Bool) (hk : k < 18) :
    (s.tdServe k req).td.req = s.td.req ∧
    (s.tdServe k req).bit pkCst CST_TD_STAT_REQ_PENDING = s.bit pkCst CST_TD_STAT_REQ_PENDING ∧
    ((s.tdServe k req).tdPhase = tdConnect ∧ (s.tdServe k req).tdCh = k ∨
      (s.tdServe k req).tdPhase = tdSelfcal ∧ (s.tdServe k req).td.next = some k) := by
  unfold State.tdServe
  dsimp only
  split
  · refine ⟨rfl, ?_, .inl ⟨State.tdPhase_tdGo _ _ (by decide), State.tdCh_tdGo _ _ (by omega)⟩⟩
    rw [State.reqPending_tdConnectTo]
    simp [State.bit, State.fld, State.setWord, State.reg_setReg]
  · exact ⟨rfl, State.reqPending_tdSelfcalAt _ _ _ _, .inr ⟨State.tdPhase_tdGo _ _ (by decide), rfl⟩⟩

/-- The idle Tender serves a pending request whose channel is in RUN, and the request is no longer pending (R144, R145). -/
theorem execServiceStart_serves {s : State} {k : Nat} (hidle : s.tdPhase = tdIdle) (hrun : s.st pkCst = .run)
    (hreq : s.td.req = some k) (hk : k < 18) (hch : s.st (pkCs k) = .run) :
    ∃ t, execServiceStart s = .next t ∧ t.td.req = none ∧ t.bit pkCst CST_TD_STAT_REQ_PENDING = false ∧
      (t.tdPhase = tdConnect ∧ t.tdCh = k ∨ t.tdPhase = tdSelfcal ∧ t.td.next = some k) := by
  have hlive (u : State) (hu : u.td.req = some k) (hst : u.st (pkCs k) = .run) : u.liveReq = some k := by
    simp [State.liveReq, hu, State.servable, State.running, hst]
  have hgo : (decide (s.tdPhase = tdIdle) && s.running pkCst && (s.td.due || s.liveReq.isSome)) = true := by
    simp [hidle, State.running, hrun, hlive s hreq hch]
  refine ⟨_, congrArg Host.Outcome.next (if_pos hgo), ?_⟩
  dsimp only
  rw [hlive _ (by exact hreq) (by exact hch)]
  obtain ⟨hnone, hpending, hphase⟩ := State.tdServe_starts _ true hk
  exact ⟨hnone, hpending.trans (State.bit_setBit_same _ _ _ (by decide) rfl), hphase⟩

/-- Settles O21: each command's effect, the two forms of the TD_REQ write as the commands they name, and the service start. -/
theorem tenderRequests : Obligations.TenderRequests := by
  unfold Obligations.TenderRequests
  refine ⟨fun s who k hk => ⟨execTenderRequest_takes who hk, fun ha => completes_registerWrite_tdReq ha ?_⟩,
    fun s who => ⟨execTenderWithdraw_drops who, fun ch hch ha => completes_registerWrite_tdReq ha ?_⟩,
    fun s k => execServiceStart_serves⟩
  · rw [tdReqCommand_request who hk]
    exact execTenderRequest_takes who hk ha.not_test
  · rw [tdReqCommand_withdraw who hch]
    exact execTenderWithdraw_drops who ha.not_test

end Sys2Proof.Machine
end

section
/-!
Two's complement (R353): the range of a signed reading, when keeping the low bits of a value leaves the value as it
was, and the shift of an accumulator from it.
-/
namespace Sys2Proof.Machine

theorem sgn_range {w : Nat} (n : Nat) (hw : 0 < w) : -(2 ^ (w - 1) : Int) ≤ sgn w n ∧ sgn w n < 2 ^ (w - 1) := by
  obtain ⟨w, rfl⟩ := Nat.exists_eq_add_of_lt hw
  have hlt : (n % 2 ^ (w + 1) : Int) < 2 ^ (w + 1) := Int.emod_lt_of_pos _ (by positivity)
  have hpos : 0 ≤ (n % 2 ^ (w + 1) : Int) := Int.emod_nonneg _ (by positivity)
  rw [sgn]
  zify
  simp only [Nat.zero_add, Nat.add_sub_cancel, pow_succ] at hlt hpos ⊢
  split <;> omega

theorem unsgn_lt (w : Nat) (i : Int) : unsgn w i < 2 ^ w := by
  have h : i % (2 ^ w : Int) < 2 ^ w := Int.emod_lt_of_pos i (by positivity)
  have h0 : 0 ≤ i % (2 ^ w : Int) := Int.emod_nonneg i (by positivity)
  rw [unsgn]
  zify
  omega

/-- A value in the range of w bits is the signed reading of its own low w bits. -/
theorem sgn_unsgn_of_range {w : Nat} {i : Int} (hw : 0 < w) (h : -(2 ^ (w - 1) : Int) ≤ i ∧ i < 2 ^ (w - 1)) :
    sgn w (unsgn w i) = i := by
  obtain ⟨w, rfl⟩ := Nat.exists_eq_add_of_lt hw
  simp only [Nat.zero_add, Nat.add_sub_cancel] at h ⊢
  have hcast : ((unsgn (w + 1) i : Nat) : Int) = i % 2 ^ (w + 1) := Int.toNat_of_nonneg (Int.emod_nonneg i (by positivity))
  rw [sgn, Nat.mod_eq_of_lt (unsgn_lt _ _), Nat.add_sub_cancel]
  zify
  rw [hcast, Int.emod_emod, pow_succ]
  generalize (2 ^ w : Int) = p at h ⊢
  rcases Int.lt_or_le i 0 with hneg | hpos
  · rw [Int.emod_eq_add_self_emod, Int.emod_eq_of_lt (by omega) (by omega), if_neg (by omega)]
    omega
  · rw [Int.emod_eq_of_lt hpos (by omega), if_pos h.2]

/-- The low w bits of a value lose nothing exactly where saturation to w bits changes nothing. -/
theorem sgn_unsgn_eq_iff_satSgn {w : Nat} (i : Int) (hw : 0 < w) : sgn w (unsgn w i) = i ↔ satSgn w i = i := by
  have hsat : satSgn w i = i ↔ -(2 ^ (w - 1) : Int) ≤ i ∧ i < 2 ^ (w - 1) := by
    have hp : (0 : Int) < 2 ^ (w - 1) := by positivity
    rw [satSgn]
    omega
  rw [hsat]
  exact ⟨fun h => h ▸ sgn_range _ hw, sgn_unsgn_of_range hw⟩

/-- A quotient towards minus infinity by a positive number stays in a range around 0. -/
theorem ediv_range {q p : Int} {d : Nat} (hd : 0 < d) (h : -p ≤ q ∧ q < p) : -p ≤ q / d ∧ q / d < p := by
  have hd1 : (1 : Int) ≤ d := by exact_mod_cast hd
  constructor
  · rw [Int.le_ediv_iff_mul_le (by omega)]
    nlinarith
  · rw [Int.ediv_lt_iff_lt_mul (by omega)]
    nlinarith

/-! ### The shift of an accumulator's value (R353) -/

/-- To the left: the low 72 bits of the product, with V where they are not the product. -/
theorem cvShift_left {v k p : Nat} {q : Int} (h : ¬ sgn 7 k < 0) (hq : sgn 72 v = q) (hp : 2 ^ (sgn 7 k).natAbs = p) :
    cvShift v k = (unsgn 72 (q * p),
      { cvZNOf 72 (unsgn 72 (q * p)) with v := some (decide (¬ sgn 72 (unsgn 72 (q * p)) = q * p)) }) := by
  have habs : (sgn 7 k).toNat = (sgn 7 k).natAbs := by omega
  rw [cvShift]
  dsimp only
  rw [if_neg h, habs, hq, hp, cvAccRes]
  simp only [cvZNOf, bne, beq_eq_decide, sgn_unsgn_eq_iff_satSgn _ (show 0 < 72 by decide), decide_not]

/-- To the right: the quotient towards minus infinity, with V where bits other than 0 are shifted out. -/
theorem cvShift_right {v k p : Nat} {q : Int} (h : sgn 7 k < 0) (hq : sgn 72 v = q) (hp : 2 ^ (sgn 7 k).natAbs = p) :
    cvShift v k = (unsgn 72 (q / p),
      { cvZNOf 72 (unsgn 72 (q / p)) with v := some (decide (¬ sgn 72 (unsgn 72 (q / p)) * p = q)) }) := by
  have hpos : 0 < p := hp ▸ Nat.two_pow_pos _
  have hfits : sgn 72 (unsgn 72 (q / p)) = q / p :=
    sgn_unsgn_of_range (by decide) (ediv_range hpos (hq ▸ sgn_range v (by decide)))
  have hexact : q / p * p = q ↔ q % p = 0 := by
    have := Int.ediv_mul_add_emod q p
    omega
  rw [cvShift]
  dsimp only
  rw [if_pos h, hq, hp, hfits, cvAccRes]
  simp only [cvZNOf, bne, beq_eq_decide, hexact, decide_not]

end Sys2Proof.Machine
end

section
/-!
An instruction of a Cove core whose one result stands at once (R327, R328): the registers after it, and what it leaves alone.
-/
namespace Sys2Proof.Machine

/-! ### Registers of a core -/

theorem CvCore.key_congr {c d : CvCore} (h : d.bank = c.bank) (n : Nat) : d.key n = c.key n := by
  rw [CvCore.key, CvCore.key, h]

theorem CvCore.key_mod (c : CvCore) {n : Nat} (h : n < 0x80) : c.key n % 0x80 = n := by
  rw [CvCore.key]
  split <;> omega

/-- The keys of an accumulator's two copies. -/
theorem CvCore.key_acc_mod (c : CvCore) {d : Nat} (hd : d < 8) :
    c.key (cvAC + d) % 0x80 = cvAC + d ∧ c.key (cvFwd + d) % 0x80 = cvFwd + d :=
  ⟨c.key_mod (by simp only [cvAC]; omega), c.key_mod (by simp only [cvFwd]; omega)⟩

/-- They differ from each other and from SR's. -/
theorem CvCore.key_acc_ne (c : CvCore) {d : Nat} (hd : d < 8) :
    c.key (cvAC + d) ≠ cvSR ∧ c.key (cvFwd + d) ≠ cvSR ∧ c.key (cvAC + d) ≠ c.key (cvFwd + d) := by
  obtain ⟨hac, hfw⟩ := c.key_acc_mod hd
  simp only [cvAC, cvFwd, cvSR] at *
  omega

theorem CvCore.rf_putKey (c : CvCore) {key : Nat} (v : Nat) (h : key % 0x80 ≠ cvSR) :
    (c.putKey key v).rf = tput c.rf key (v % 2 ^ cvWidth (key % 0x80)) := by
  simp only [CvCore.putKey, if_neg h]

theorem CvCore.tget_putKey_ne (c : CvCore) {key j : Nat} (v : Nat) (h : key ≠ j) :
    tget 0 (c.putKey key v).rf j = tget 0 c.rf j := tget_tput_ne _ _ _ h

/-- The results that land change registers alone. -/
theorem CvCore.foldl_putKey_eq (ls : List CvLand) (c : CvCore) :
    ls.foldl (fun c l => c.putKey l.key l.val) c = { c with rf := (ls.foldl (fun c l => c.putKey l.key l.val) c).rf } := by
  induction ls generalizing c with
  | nil => rfl
  | cons l ls ih =>
    rw [List.foldl_cons, ih]
    rfl

/-- A register for which no result lands stays. -/
theorem CvCore.tget_foldl_putKey (ls : List CvLand) (c : CvCore) {j : Nat} (h : ∀ l ∈ ls, l.key ≠ j) :
    tget 0 (ls.foldl (fun c l => c.putKey l.key l.val) c).rf j = tget 0 c.rf j := by
  induction ls generalizing c with
  | nil => rfl
  | cons l ls ih =>
    rw [List.foldl_cons, ih _ (fun x hx => h x (List.mem_cons_of_mem _ hx)), c.tget_putKey_ne _ (h l List.mem_cons_self)]

theorem CvCore.landTick_eq (c : CvCore) : c.landTick = { c with rf := c.landTick.rf, land := c.landTick.land } := by
  rw [CvCore.landTick, CvCore.foldl_putKey_eq]

theorem CvCore.tget_landTick (c : CvCore) {j : Nat} (h : ∀ l ∈ c.land, l.key ≠ j) :
    tget 0 c.landTick.rf j = tget 0 c.rf j :=
  CvCore.tget_foldl_putKey _ _ (fun l hl => h l (List.mem_of_mem_filter hl))

theorem CvCore.put_eq (c : CvCore) (n v : Nat) : c.put n v = { c with rf := (c.put n v).rf, land := (c.put n v).land } := by
  rw [CvCore.put]
  dsimp only
  split <;> rfl

/-- A result into an accumulator stands in both of its copies (R328). -/
theorem CvCore.rf_put_acc (c : CvCore) {d : Nat} (v : Nat) (hd : d < 8) :
    (c.put (cvAC + d) v).rf = tput (tput c.rf (c.key (cvAC + d)) (v % 2 ^ 72)) (c.key (cvFwd + d)) (v % 2 ^ 72) := by
  obtain ⟨hac, hfw⟩ := c.key_acc_mod hd
  have hacc : cvAC ≤ cvAC + d ∧ cvAC + d < cvA := by simp only [cvAC, cvA]; omega
  have hfwd : cvAC + d - cvAC + cvFwd = cvFwd + d := by rw [Nat.add_sub_cancel_left, Nat.add_comm]
  have hacSr : cvAC + d ≠ cvSR := by simp only [cvAC, cvSR]; omega
  have hfwSr : cvFwd + d ≠ cvSR := by simp only [cvFwd, cvSR]; omega
  have hwac : cvWidth (cvAC + d) = 72 := by interval_cases d <;> rfl
  have hwfw : cvWidth (cvFwd + d) = 72 := by interval_cases d <;> rfl
  have hkey : (c.putKey (c.key (cvAC + d)) v).key (cvFwd + d) = c.key (cvFwd + d) := CvCore.key_congr rfl _
  rw [CvCore.put]
  dsimp only
  rw [if_pos hacc, hfwd, hkey, CvCore.rf_putKey _ _ (by rwa [hfw]), CvCore.rf_putKey _ _ (by rwa [hac]), hac, hfw, hwac, hwfw]

/-! ### The core after EX -/

/-- The effect of an instruction with one result, which stands at once. -/
def CvFx.one (n v : Nat) (fl : CvFlags) : CvFx := { now := [(n, v)], flags := fl }

/-- A core after EX of such an instruction: earlier results land, then its own stands, then its flags. -/
def CvCore.exOne (c : CvCore) (n v : Nat) (fl : CvFlags) : CvCore :=
  let d := c.landTick.put n v
  { d with rf := tput d.rf cvSR (cvSetFlags (tget 0 d.rf cvSR) fl) }

theorem CvCore.exOne_eq (c : CvCore) (n v : Nat) (fl : CvFlags) :
    c.exOne n v fl = { c with rf := (c.exOne n v fl).rf, land := (c.exOne n v fl).land } := by
  rw [CvCore.exOne, CvCore.put_eq, CvCore.landTick_eq]

/-- The registers after EX with a result into an accumulator. -/
theorem CvCore.rf_exOne_acc (c : CvCore) {d v : Nat} (fl : CvFlags) (hd : d < 8) (hv : v < 2 ^ 72) :
    (∀ x ∈ [(cvAC + d, v), (cvFwd + d, v)], tget 0 (c.exOne (cvAC + d) v fl).rf (c.key x.1) = x.2) ∧
    ((∀ l ∈ c.land, l.key ≠ cvSR) → tget 0 (c.exOne (cvAC + d) v fl).rf cvSR = cvSetFlags (tget 0 c.rf cvSR) fl) ∧
    (∀ j, j ≠ cvSR → (∀ n ∈ [cvAC + d, cvFwd + d], j ≠ c.key n) → (∀ l ∈ c.land, l.key ≠ j) →
      tget 0 (c.exOne (cvAC + d) v fl).rf j = tget 0 c.rf j) := by
  have hkey (n : Nat) : c.landTick.key n = c.key n := CvCore.key_congr (by rw [CvCore.landTick_eq]) n
  obtain ⟨hacSr, hfwSr, hacFw⟩ := c.key_acc_ne hd
  simp only [CvCore.exOne, CvCore.rf_put_acc _ _ hd, hkey, Nat.mod_eq_of_lt hv, List.forall_mem_cons, List.not_mem_nil,
    false_imp_iff, implies_true, and_true]
  refine ⟨⟨?_, ?_⟩, fun hland => ?_, fun j hsr ⟨hac, hfw⟩ hland => ?_⟩
  · simp [tget_tput, hacSr.symm, hacFw.symm]
  · simp [tget_tput, hfwSr.symm]
  · simp [tget_tput, hacSr, hfwSr, c.tget_landTick hland]
  · simp [tget_tput, hsr.symm, hac.symm, hfw.symm, c.tget_landTick hland]

/-! ### One core of one pair -/

/-- Nothing changes but core `chk` of pair k, and that pair's time. -/
structure CvCoreOnly (s t : State) (k : Nat) (chk : Bool) : Prop where
  other : t.cvCore k (!chk) = s.cvCore k (!chk)
  closeReq : (t.cove k).closeReq = (s.cove k).closeReq
  pairs : ∀ j, j ≠ k → t.cove j = s.cove j
  pages : t.pages = s.pages
  wires : t.wires = s.wires
  pending : t.pending = s.pending
  cyc : t.cyc = s.cyc
  mem : t.mem = s.mem
  ckMem : t.ckMem = s.ckMem

theorem CvCoreOnly.trans {s t u : State} {k : Nat} {chk : Bool} (h : CvCoreOnly s t k chk) (g : CvCoreOnly t u k chk) :
    CvCoreOnly s u k chk where
  other := g.other.trans h.other
  closeReq := g.closeReq.trans h.closeReq
  pairs j hj := (g.pairs j hj).trans (h.pairs j hj)
  pages := g.pages.trans h.pages
  wires := g.wires.trans h.wires
  pending := g.pending.trans h.pending
  cyc := g.cyc.trans h.cyc
  mem := g.mem.trans h.mem
  ckMem := g.ckMem.trans h.ckMem

@[simp] theorem State.cove_setCove_same (s : State) (k : Nat) (v : Cove) : (s.setCove k v).cove k = v :=
  tget_tput_same _ _ _ _

theorem State.cove_setCove_ne (s : State) {k j : Nat} (v : Cove) (h : j ≠ k) : (s.setCove k v).cove j = s.cove j :=
  tget_tput_ne _ _ _ h.symm

@[simp] theorem State.cvCore_setCvCore_same (s : State) (k : Nat) (chk : Bool) (c : CvCore) :
    (s.setCvCore k chk c).cvCore k chk = c := by
  cases chk <;> simp [State.cvCore, State.setCvCore, Cove.core]

theorem State.setCvCore_coreOnly (s : State) (k : Nat) (chk : Bool) (c : CvCore) :
    CvCoreOnly s (s.setCvCore k chk c) k chk where
  other := by cases chk <;> simp [State.cvCore, State.setCvCore, Cove.core]
  closeReq := by cases chk <;> simp [State.setCvCore]
  pairs _ hj := State.cove_setCove_ne _ _ hj
  pages := rfl
  wires := rfl
  pending := rfl
  cyc := rfl
  mem := rfl
  ckMem := rfl

/-- The pair's time goes on with the main core. -/
def State.cvClock (s : State) (k : Nat) (chk : Bool) : State :=
  if chk then s else s.setCove k { s.cove k with cycles := (s.cove k).cycles + 1, timerCnt := (s.cove k).timerCnt - 1 }

theorem State.cvClock_coreOnly (s : State) (k : Nat) (chk : Bool) : CvCoreOnly s (s.cvClock k chk) k chk := by
  cases chk with
  | true => exact ⟨rfl, rfl, fun _ _ => rfl, rfl, rfl, rfl, rfl, rfl, rfl⟩
  | false =>
    exact ⟨by simp [State.cvClock, State.cvCore, Cove.core], by simp [State.cvClock],
      fun _ hj => State.cove_setCove_ne _ _ hj, rfl, rfl, rfl, rfl, rfl, rfl⟩

@[simp] theorem State.cvCore_cvClock (s : State) (k : Nat) (chk : Bool) : (s.cvClock k chk).cvCore k chk = s.cvCore k chk := by
  cases chk <;> simp [State.cvClock, State.cvCore, Cove.core]

/-- No window closes that nothing asked to close (R336). -/
theorem State.cvAfter_open {s : State} {k : Nat} {chk : Bool} (hnow : (s.cvCore k chk).closeNow = false)
    (hreq : (s.cove k).closeReq = false) : s.cvAfter k chk = s := by
  rw [State.cvCore] at hnow
  simp [State.cvAfter, hnow, hreq]

/-! ### Retirement -/

/-- A core with its place and counts as they stand after an instruction outside delay slots (R327, R356). -/
def CvCore.counted (c : CvCore) : CvCore :=
  { c with
    pc := if 1 < c.rep then c.pc else (c.pc + 1) % 65536
    rep := c.rep - 1, retired := c.retired + 1, win := c.win + 1 }

theorem CvCore.advance_one {c : CvCore} (n v : Nat) (fl : CvFlags) (h : c.delay = none) :
    { c.advance (.one n v fl) with retired := c.retired + 1, win := c.win + 1 } = c.counted := by
  by_cases hrep : 1 < c.rep
  · simp [CvCore.advance, CvCore.counted, hrep]
  · have hlast : c.rep - 1 = 0 := by omega
    simp [CvCore.advance, CvCore.counted, hrep, h, hlast, CvFx.one]

/-- The core's instruction retires. -/
def State.cvRetire (s : State) (k : Nat) (chk : Bool) (f : CvFx) : State :=
  let c := s.cvCore k chk
  (s.setCvCore k chk { c.advance f with retired := c.retired + 1, win := c.win + 1 }).cvClock k chk

theorem State.cvRetire_coreOnly (s : State) (k : Nat) (chk : Bool) (f : CvFx) : CvCoreOnly s (s.cvRetire k chk f) k chk :=
  (s.setCvCore_coreOnly k chk _).trans (State.cvClock_coreOnly _ k chk)

/-- What follows EX: the instruction retires, and a window may close with it. -/
def State.cvFinish (s : State) (k : Nat) (chk : Bool) (f : CvFx) : State :=
  let t := s.cvRetire k chk f
  if t.busy (pkCv k) then t.cvAfter k chk else t

theorem State.cvCore_cvRetire_one {s : State} {k : Nat} {chk : Bool} (n v : Nat) (fl : CvFlags)
    (h : (s.cvCore k chk).delay = none) : (s.cvRetire k chk (.one n v fl)).cvCore k chk = (s.cvCore k chk).counted := by
  rw [State.cvRetire, State.cvCore_cvClock, State.cvCore_setCvCore_same, CvCore.advance_one _ _ _ h]

theorem State.cvFinish_one {s : State} {k : Nat} {chk : Bool} (n v : Nat) (fl : CvFlags)
    (hdelay : (s.cvCore k chk).delay = none) (hnow : (s.cvCore k chk).closeNow = false) (hreq : (s.cove k).closeReq = false) :
    s.cvFinish k chk (.one n v fl) = s.cvRetire k chk (.one n v fl) := by
  have hopen : (s.cvRetire k chk (.one n v fl)).cvAfter k chk = s.cvRetire k chk (.one n v fl) :=
    State.cvAfter_open (by rw [State.cvCore_cvRetire_one _ _ _ hdelay]; exact hnow)
      ((s.cvRetire_coreOnly k chk _).closeReq.trans hreq)
  rw [State.cvFinish, hopen, ite_self]

/-- An instruction with one result: EX, which leaves its core `e` as it was but for the registers, the results still to land, the
old values and the signature; then what follows EX. -/
theorem State.cvRun_one (s : State) (k : Nat) (chk : Bool) (n v : Nat) (fl : CvFlags) : ∃ e : CvCore,
    e = { s.cvCore k chk with
          rf := ((s.cvCore k chk).exOne n v fl).rf, land := e.land, olds := e.olds, sig := e.sig } ∧
    s.cvRun k chk (.one n v fl) = (s.setCvCore k chk e).cvFinish k chk (.one n v fl) := by
  refine ⟨{ (s.cvCore k chk).exOne n v fl with land := _, olds := _, sig := _ }, ?_, rfl⟩
  rw [CvCore.exOne_eq]

/-- Outside delay slots, and where no window is asked to close, such an instruction touches its core alone. -/
theorem State.cvRun_one_core {s : State} {k : Nat} {chk : Bool} (n v : Nat) (fl : CvFlags)
    (hdelay : (s.cvCore k chk).delay = none) (hnow : (s.cvCore k chk).closeNow = false) (hreq : (s.cove k).closeReq = false) :
    CvCoreOnly s (s.cvRun k chk (.one n v fl)) k chk ∧ ∃ e : CvCore,
      e = { s.cvCore k chk with
            rf := ((s.cvCore k chk).exOne n v fl).rf, land := e.land, olds := e.olds, sig := e.sig } ∧
      (s.cvRun k chk (.one n v fl)).cvCore k chk = e.counted := by
  obtain ⟨e, he, hrun⟩ := s.cvRun_one k chk n v fl
  have hex : (s.setCvCore k chk e).cvCore k chk = e := s.cvCore_setCvCore_same k chk e
  have hkeeps := s.setCvCore_coreOnly k chk e
  have hdelay' : ((s.setCvCore k chk e).cvCore k chk).delay = none := by rw [hex, he]; exact hdelay
  have hnow' : ((s.setCvCore k chk e).cvCore k chk).closeNow = false := by rw [hex, he]; exact hnow
  rw [hrun, State.cvFinish_one _ _ _ hdelay' hnow' (hkeeps.closeReq.trans hreq)]
  refine ⟨hkeeps.trans (State.cvRetire_coreOnly _ k chk _), e, he, ?_⟩
  rw [State.cvCore_cvRetire_one _ _ _ hdelay', hex]

/-- The next instruction of a core issues, when no address of it faults (R327). -/
theorem State.cvIssue_next {s : State} {k : Nat} {chk : Bool} {code w : Nat} {fx : State → CvCore → Nat → CvFx}
    (h : s.cvNext k chk code w) (hf : (fx s (s.cvCore k chk) w).faults = false) :
    s.cvIssue k chk code fx = s.cvRun k chk (fx s (s.cvCore k chk) w) := by
  obtain ⟨hk, hready, rfl, hcode, hlegal, -, -, -, hexc⟩ := h
  have hcmp : (chk && (s.cove k).main.exc.isSome && (s.cvCore k chk).retired == (s.cove k).main.retired) = false := by
    cases chk with
    | false => rfl
    | true => simp [hexc rfl]
  rw [State.cvIssue]
  simp [hk, hready, hlegal, hcode, hf, hcmp]

/-- The next instruction of a core, with a result into an accumulator at once, retires with it and changes no memory. -/
theorem State.cvIssue_acc {s : State} {k : Nat} {chk : Bool} {code w d v : Nat} {fl : CvFlags} {fx : State → CvCore → Nat → CvFx}
    (h : s.cvNext k chk code w) (hfx : fx s (s.cvCore k chk) w = .one (cvAC + d) v fl) (hd : d < 8) (hv : v < 2 ^ 72) :
    CvRetires s (s.cvIssue k chk code fx) k chk [(cvAC + d, v), (cvFwd + d, v)] fl [] ∧ SameMemory s (s.cvIssue k chk code fx) := by
  have hissue := State.cvIssue_next h (fx := fx) (by rw [hfx]; rfl)
  obtain ⟨-, hready, -, -, -, hdelay, hnow, hreq, -⟩ := h
  obtain ⟨hkeeps, e, he, hcore⟩ := State.cvRun_one_core (cvAC + d) v fl hdelay hnow hreq
  obtain ⟨hres, hsr, hrest⟩ := (s.cvCore k chk).rf_exOne_acc fl hd hv
  have hgoes : (s.cvCore k chk).exc = none ∧ (s.cvCore k chk).halted = false := by
    simp only [State.cvReady, Bool.and_eq_true, Option.isNone_iff_eq_none, Bool.not_eq_true'] at hready
    obtain ⟨⟨⟨-, hexc⟩, hhalted⟩, -⟩ := hready
    exact ⟨hexc, hhalted⟩
  rw [hissue, hfx]
  refine ⟨?_, hkeeps.ckMem, fun a => congrArg (mget · a) hkeeps.mem⟩
  rw [CvRetires, hcore, he]
  exact ⟨rfl, rfl, rfl, rfl, hgoes.2, hgoes.1, hres, hsr, hrest, hkeeps.other, hkeeps.pairs,
    hkeeps.pages, hkeeps.wires, hkeeps.pending, hkeeps.cyc⟩

/-! ### ACCUMULATOR_SHIFT (R353) -/

/-- The effect of the word w of class S. -/
def accShiftFx (c : CvCore) (w : Nat) : CvFx :=
  let r := cvShift (c.get (cvAC + bitsN w 23 21)) (bitsN w 20 14)
  .one (cvAC + bitsN w 26 24) r.1 r.2

theorem exec_accumulatorShift (k : Nat) (chk : Bool) (s : State) :
    exec (.accumulatorShift k chk) s = .next (s.cvIssue k chk 0xA3 (fun _ => accShiftFx)) := rfl

/-- Settles O37: the shift's value and flags, to the left and to the right, as one accumulator result that retires. -/
theorem coveAccumulatorShift : Obligations.CoveAccumulatorShift := by
  unfold Obligations.CoveAccumulatorShift
  intro s k chk w h d q n r fits
  have hd : d < 8 := Nat.mod_lt _ (by decide)
  have hn : -64 ≤ n ∧ n < 64 := sgn_range _ (by decide)
  have hr : r < 2 ^ 72 := by
    simp only [r]
    split <;> exact unsgn_lt _ _
  have hshift : cvShift ((s.cvCore k chk).get (cvAC + bitsN w 23 21)) (bitsN w 20 14) =
      (r, { cvZNOf 72 r with v := some (decide (¬ fits)) }) := by
    by_cases hneg : n < 0
    · simp only [r, fits, if_pos hneg]
      exact cvShift_right hneg rfl rfl
    · simp only [r, fits, if_neg hneg]
      exact cvShift_left hneg rfl rfl
  have hfx : accShiftFx (s.cvCore k chk) w = .one (cvAC + d) r { cvZNOf 72 r with v := some (decide (¬ fits)) } := by
    rw [accShiftFx, hshift]
  obtain ⟨hretires, hmem⟩ := State.cvIssue_acc (fx := fun _ => accShiftFx) h hfx hd hr
  exact ⟨_, exec_accumulatorShift k chk s, hretires, hmem, hn.1, Int.le_of_lt_add_one hn.2⟩

end Sys2Proof.Machine
end
